-- ==== Sys2Proof/Word.lean ====
section
/-! DEFINITION. The byte, and the index types of the spec's "Indices" convention (00_scope.md): houses, pumps, tanks,
stations, tariff windows, timetable entries and alarm codes, each a bounded number. -/

namespace Sys2Proof

/-- One byte of a frame on either port. -/
abbrev Byte := BitVec 8

/-- A booster house, 0 to 7. -/
abbrev House := Fin 8

/-- A pump slot, 0 to 31. Slot p belongs to house p div 4 at position p mod 4 (R1). -/
abbrev Pump := Fin 32

/-- A tank, 0 to 11. -/
abbrev Tank := Fin 12

/-- A station unit by its bus address less one: addresses are 1 to 12. -/
abbrev Station := Fin 12

/-- A tariff window, 0 to 11. -/
abbrev Window := Fin 12

/-- A timetable entry, 0 to 23. -/
abbrev Entry := Fin 24

/-- An alarm code, 0 to 255. -/
abbrev Code := Fin 256

/-- A day of the week, 0 to 6. -/
abbrev Day := Fin 7

/-- A unit of the station bus: a station, or the meter unit at address 15 (R147). -/
inductive BusUnit where
  | station (s : Station)
  | meter
  deriving DecidableEq, Repr

/-- One of the three conditions of a house (R23). -/
inductive Condition where
  | suctionLow
  | overflow
  | lowAlarm
  deriving DecidableEq, Repr

end Sys2Proof
end

