-- ==== Sys2Proof/Syntax.lean ====
section
/-! DEFINITION. The commands of the part: one constructor for each row of spec/opcode_table.json, in the table's order.
The table gives no operand and no bits; the operands are what the rule of the row speaks of (log 2). -/

namespace Sys2Proof

/-- A command: an operation or an event of the part, taken whole (95_what_each_step_holds.md). -/
inductive Instr where
  /-- POWER_ON (R193): the levels of the two rate straps, and whether the store image's CRC matches when it is read. -/
  | powerOn (strap1 strap0 crcMatches : Bool)
  /-- RESET_ASSERTED (R193): RESET_N goes low. -/
  | resetAsserted
  /-- RESET_LINE (R193): RESET_N is released; operands as for `powerOn`. -/
  | resetLine (strap1 strap0 crcMatches : Bool)
  /-- HOST_RESTART (R196): the last byte of the RESTART reply leaves the line. -/
  | hostRestart
  /-- SUP_FRAME_RECEIVED (R185): the bytes that arrive, the last of which completes a frame. -/
  | supFrameReceived (bytes : List Byte)
  /-- SUP_GAP_EXPIRY (R185): 50 ms pass inside an incomplete frame. -/
  | supGapExpiry
  /-- REPLY_SENT (R186): the last byte of the reply leaves the line. -/
  | replySent
  /-- IDENT (R195). Each request row carries the request's tag and body (R184). -/
  | ident (tag : Byte) (body : List Byte)
  /-- SET_TIME (R111): second of day in four bytes, day of week in one. -/
  | setTime (tag : Byte) (body : List Byte)
  /-- TABLE_WRITE (R168): bank, table kind, first index, count, records. -/
  | tableWrite (tag : Byte) (body : List Byte)
  /-- TABLE_READ (R170): bank, table kind, first index, count. -/
  | tableRead (tag : Byte) (body : List Byte)
  /-- BANK_CLEAR (R171): bank. -/
  | bankClear (tag : Byte) (body : List Byte)
  /-- BANK_CHECK (R172): bank. -/
  | bankCheck (tag : Byte) (body : List Byte)
  /-- BANK_SWAP (R175, R176, R177): bank. -/
  | bankSwap (tag : Byte) (body : List Byte)
  /-- PLAN_STORE (R178). -/
  | planStore (tag : Byte) (body : List Byte)
  /-- HOUSE_MODE (R77): house, mode. -/
  | houseMode (tag : Byte) (body : List Byte)
  /-- HOUSE_TARGET (R78): house, value. -/
  | houseTarget (tag : Byte) (body : List Byte)
  /-- HOUSE_CLEAR (R139): house. -/
  | houseClear (tag : Byte) (body : List Byte)
  /-- HOUSE_SUPPRESS (R140): house, setting. -/
  | houseSuppress (tag : Byte) (body : List Byte)
  /-- PUMP_ISOLATE (R54): pump. -/
  | pumpIsolate (tag : Byte) (body : List Byte)
  /-- PUMP_RESTORE (R55): pump. -/
  | pumpRestore (tag : Byte) (body : List Byte)
  /-- PUMP_CLEAR (R55): pump. -/
  | pumpClear (tag : Byte) (body : List Byte)
  /-- STATE_READ (R191): subject, index, page. -/
  | stateRead (tag : Byte) (body : List Byte)
  /-- EVENT_READ (R198). -/
  | eventRead (tag : Byte) (body : List Byte)
  /-- RESTART (R196). -/
  | restart (tag : Byte) (body : List Byte)
  /-- UNKNOWN_KIND (R188): a request whose kind is none of the defined codes. -/
  | unknownKind (kind tag : Byte) (body : List Byte)
  /-- MINUTE_CROSSING (R110, R116): network time advances to a second of day that is a multiple of 60. -/
  | minuteCrossing
  /-- MIDNIGHT_CROSSING (R110, R119): network time advances past second of day 86399. -/
  | midnightCrossing
  /-- BUS_REQUEST_SENT (R146, R201): the last byte of the request leaves the line. -/
  | busRequestSent
  /-- REPORT (R151): the bytes that arrive, the last of which completes a frame while a POLL is in flight. -/
  | report (bytes : List Byte)
  /-- ORDER_REPLY (R153): the same while an ORDER is in flight. -/
  | orderReply (bytes : List Byte)
  /-- METER_REPLY (R154): the same while a METER_POLL is in flight. -/
  | meterReply (bytes : List Byte)
  /-- REPLY_TIMEOUT (R149). -/
  | replyTimeout
  /-- BUS_GAP_EXPIRY (R148): more than 50 ms pass inside an incomplete frame. -/
  | busGapExpiry
  /-- POLL_DUE (R156) of a unit. -/
  | pollDue (unit : BusUnit)
  /-- LEVEL_STALE (R21) of a tank. -/
  | levelStale (tank : Tank)
  /-- CONDITION_FILTER_EXPIRY (R23) of a condition of a house. -/
  | conditionFilterExpiry (house : House) (condition : Condition)
  /-- START_WINDOW_END (R44) of a pump. -/
  | startWindowEnd (pump : Pump)
  /-- PERMIT_RELEASE_EXPIRY (R43) of a pump. -/
  | permitReleaseExpiry (pump : Pump)
  /-- MIN_RUN_EXPIRY (R39) of a pump. -/
  | minRunExpiry (pump : Pump)
  /-- MIN_OFF_EXPIRY (R38) of a pump. -/
  | minOffExpiry (pump : Pump)
  /-- START_HISTORY_EXPIRY (R37) of a pump's oldest entry. -/
  | startHistoryExpiry (pump : Pump)
  /-- MAIN_SETTLED (R72) of a house, and whether the Feeder Budget Unit takes it before the House Dispatcher. -/
  | mainSettled (house : House) (feederFirst : Bool)
  /-- METER_STALE (R104). -/
  | meterStale
  /-- METER_PHASE_EXPIRY (R106). -/
  | meterPhaseExpiry
  /-- TT_ENDED (R118) of an active window, named by its timetable entry. -/
  | ttEnded (entry : Entry)
  /-- ALARM_FILTER_EXPIRY (R130) of an alarm list entry, named by house and code. -/
  | alarmFilterExpiry (house : House) (code : Code)
  /-- RECOVERY_EXPIRY (R137) of a house. -/
  | recoveryExpiry (house : House)
  /-- FORGIVE_EXPIRY (R138) of a house. -/
  | forgiveExpiry (house : House)
  /-- STORE_WRITE_COMPLETE (R179), and whether the CRC matches when the image is read back. -/
  | storeWriteComplete (crcMatches : Bool)
  /-- SUP_BYTE_RECEIVED (R185): a byte, and whether its stop bit is present. -/
  | supByteReceived (byte : Byte) (stopBit : Bool)
  /-- BUS_BYTE_RECEIVED (R148): a byte. -/
  | busByteReceived (byte : Byte)
  deriving DecidableEq, Repr

end Sys2Proof
end

