-- ==== Sys2Proof/Config.lean ====
section
/-! DEFINITION. What an implementation fixes and the spec does not state. -/

namespace Sys2Proof

/-- FREE VALUE (log 31): the silicon revision number that IDENT returns (R195). The spec states no value; the model
gives it one byte and no body, so nothing can be proved of it. UNSAFE only in the width of one byte. -/
opaque Config.siliconRevision : Byte

/-- FREE VALUE (log 46): the byte that STATE_READ PART gives for the number of permits K (R109) while no bank is active.
K is the active bank's, and the spec states no value then. -/
opaque Config.unplannedPermitLimit : Byte

end Sys2Proof
end

