-- ==== Sys2Proof/Machine/Bytes.lean ====
section
/-! DEFINITION. Byte order and the CRC of both ports: multi-byte fields most significant byte first (R147, R184). -/

namespace Sys2Proof.Machine

/-- A number as k bytes, most significant first; the number is taken modulo 256^k. -/
def toBytes : Nat → Nat → List Byte
  | 0, _ => []
  | k + 1, n => BitVec.ofNat 8 (n / 256 ^ k) :: toBytes k n

/-- Bytes read as a number, most significant first. -/
def ofBytes (bs : List Byte) : Nat := bs.foldl (fun n b => n * 256 + b.toNat) 0

/-- The number in the bytes of `bs` from an offset on, `len` bytes long. -/
def fieldAt (bs : List Byte) (offset len : Nat) : Nat := ofBytes ((bs.drop offset).take len)

/-- One bit of the CRC: polynomial 0x1021, most significant bit first (R147). -/
def crcBit (c : BitVec 16) : BitVec 16 := if c.msb then (c <<< 1) ^^^ 0x1021#16 else c <<< 1

/-- One byte of the CRC (R147). -/
def crcByte (c : BitVec 16) (b : Byte) : BitVec 16 :=
  Nat.repeat crcBit 8 (c ^^^ (b.setWidth 16 <<< 8))

/-- The CRC-16 of both ports: initial value 0xFFFF, not inverted (R147, R184). -/
def crc16 (bs : List Byte) : BitVec 16 := bs.foldl crcByte 0xFFFF#16

/-- The two CRC bytes that follow a span, high byte first (R147, R184). -/
def crcBytes (bs : List Byte) : List Byte := toBytes 2 (crc16 bs).toNat

/-- Whether bytes end in the CRC of what stands before it. -/
def crcMatches (bs : List Byte) : Bool :=
  bs.drop (bs.length - 2) == crcBytes (bs.take (bs.length - 2))

end Sys2Proof.Machine
end

