-- ==== Sys2Proof/Machine/Plan.lean ====
section
/-! DEFINITION. The records of a plan bank and their clear values: the field tables of R3, R5, R10, R14, R112, R114,
R126 and R155, and the bank of R166 with its booking table (R86). Index fields hold an index type, so a record can name
only what exists; the other numeric fields are natural numbers whose ranges TABLE_WRITE tests (Records.lean). -/

namespace Sys2Proof.Machine

/-- A house's mode (R5, R60), in the order of its codes (R188). -/
inductive Mode where
  | auto
  | manual
  | disabled
  deriving DecidableEq, Repr

/-- The bank header (R3). -/
structure Header where
  label : Nat
  defaultCap : Nat
  permitCount : Nat
  replyTimeout : Nat
  silenceLimit : Nat
  levelHold : Nat
  meterPoll : Nat
  meterHoldLevel : Nat
  meterShedLevel : Nat
  meterFilter : Nat
  meterShedSettle : Nat
  meterStale : Nat
  suctionMargin : Nat
  lowAlarmMargin : Nat
  deriving DecidableEq, Repr

/-- A house record (R5). `suction` is absent for the value SOURCE (R7). -/
structure HouseRecord where
  inUse : Bool
  station : Station
  suction : Option Tank
  sourceElevation : Nat
  delivery : Tank
  pumpCount : Nat
  priority : Nat
  friction : Nat
  mainSettle : Nat
  levelFilter : Nat
  recoveryTime : Nat
  recoveryRetries : Nat
  fallback : Nat
  initialMode : Mode
  deriving DecidableEq, Repr

/-- A tank record (R10). `stop` and `start` hold the levels of positions 1 to 4 in order. -/
structure TankRecord where
  inUse : Bool
  station : Station
  channel : Fin 2
  base : Nat
  height : Nat
  overflow : Nat
  stop : Vector Nat 4
  start : Vector Nat 4
  lowAlarm : Nat
  cutoff : Nat
  deriving DecidableEq, Repr

/-- One point of a pump's curve (R14). -/
structure CurvePoint where
  head : Nat
  draw : Nat
  deriving DecidableEq, Repr

/-- A pump record of a plan (R14). The curve point count is the length of `curve`. -/
structure PumpRecord where
  inUse : Bool
  curve : List CurvePoint
  startFactor : Nat
  startWindow : Nat
  minRun : Nat
  minOff : Nat
  startsPerHour : Nat
  deriving DecidableEq, Repr

/-- A station record (R155). -/
structure StationRecord where
  inUse : Bool
  pollInterval : Nat
  deriving DecidableEq, Repr

/-- What an alarm code does (R126), in the order of its codes. -/
inductive AlarmAction where
  | none
  | note
  | inhibit
  | trip
  | lockout
  deriving DecidableEq, Repr

/-- An alarm map entry (R126). -/
structure AlarmMapEntry where
  action : AlarmAction
  filter : Nat
  deriving DecidableEq, Repr

/-- A day set: for each day 0 to 6, whether the set holds it. -/
abbrev DaySet := Vector Bool 7

/-- A tariff window record (R112). -/
structure TariffWindow where
  inUse : Bool
  startMinute : Nat
  days : DaySet
  cap : Nat
  periodLabel : Nat
  deriving DecidableEq, Repr

/-- FLOOR or CEILING (R114). -/
inductive WindowKind where
  | floor
  | ceiling
  deriving DecidableEq, Repr

/-- The kind byte of a guard (R190): absent, BELOW or ABOVE. -/
inductive GuardKind where
  | absent
  | below
  | above
  deriving DecidableEq, Repr

/-- A timetable entry (R114). The level of an absent guard is kept for TABLE_READ and read by nothing else. -/
structure TimetableEntry where
  inUse : Bool
  house : House
  kind : WindowKind
  count : Nat
  startMinute : Nat
  duration : Nat
  days : DaySet
  guardKind : GuardKind
  guardLevel : Nat
  limited : Bool
  runs : Nat
  retired : Bool
  deriving DecidableEq, Repr

/-- All the records of one bank (R1). -/
structure Plan where
  header : Header
  houses : Vector HouseRecord 8
  tanks : Vector TankRecord 12
  pumps : Vector PumpRecord 32
  stations : Vector StationRecord 12
  alarmMap : Vector AlarmMapEntry 256
  tariff : Vector TariffWindow 12
  timetable : Vector TimetableEntry 24
  deriving DecidableEq, Repr

/-- The clear values of R3. -/
def clearHeader : Header :=
  { label := 0, defaultCap := 0, permitCount := 1, replyTimeout := 200, silenceLimit := 3, levelHold := 300,
    meterPoll := 2, meterHoldLevel := 65534, meterShedLevel := 65535, meterFilter := 10, meterShedSettle := 60,
    meterStale := 30, suctionMargin := 20, lowAlarmMargin := 20 }

/-- The clear values of R5: station address 1 is station 0 here. -/
def clearHouse : HouseRecord :=
  { inUse := false, station := 0, suction := some 0, sourceElevation := 0, delivery := 0, pumpCount := 1,
    priority := 7, friction := 0, mainSettle := 30, levelFilter := 10, recoveryTime := 300, recoveryRetries := 3,
    fallback := 0, initialMode := .disabled }

/-- The clear values of R10. -/
def clearTank : TankRecord :=
  { inUse := false, station := 0, channel := 0, base := 0, height := 100, overflow := 0,
    stop := Vector.replicate 4 0, start := Vector.replicate 4 0, lowAlarm := 0, cutoff := 0 }

/-- The clear values of R14. -/
def clearPump : PumpRecord :=
  { inUse := false, curve := [⟨0, 0⟩, ⟨1, 0⟩], startFactor := 10, startWindow := 10, minRun := 0, minOff := 0,
    startsPerHour := 6 }

/-- The clear values of R155. -/
def clearStation : StationRecord := { inUse := false, pollInterval := 10 }

/-- The clear values of R126. -/
def clearAlarm : AlarmMapEntry := { action := .none, filter := 0 }

/-- The empty day set. -/
def noDays : DaySet := Vector.replicate 7 false

/-- The clear values of R112. -/
def clearWindow : TariffWindow :=
  { inUse := false, startMinute := 0, days := noDays, cap := 0, periodLabel := 0 }

/-- The clear values of R114. -/
def clearEntry : TimetableEntry :=
  { inUse := false, house := 0, kind := .floor, count := 0, startMinute := 0, duration := 1, days := noDays,
    guardKind := .absent, guardLevel := 0, limited := false, runs := 0, retired := false }

/-- A bank with every record at its clear value (R1, R171). -/
def clearPlan : Plan :=
  { header := clearHeader, houses := Vector.replicate 8 clearHouse, tanks := Vector.replicate 12 clearTank,
    pumps := Vector.replicate 32 clearPump, stations := Vector.replicate 12 clearStation,
    alarmMap := Vector.replicate 256 clearAlarm, tariff := Vector.replicate 12 clearWindow,
    timetable := Vector.replicate 24 clearEntry }

/-- One pump's rows of the booking table (R86): B[p][m] and S[p][m] for m from 1 to 4. -/
structure BookingRow where
  running : Vector Nat 4
  charge : Vector Nat 4
  deriving DecidableEq, Repr

/-- The booking table (R86). Rows of pumps not in use, and places above the pump count, hold 0 and are read by nothing. -/
abbrev BookingTable := Vector BookingRow 32

/-- A row of zeros. -/
def zeroRow : BookingRow := { running := Vector.replicate 4 0, charge := Vector.replicate 4 0 }

/-- A table of zeros, read only where no bank is active. -/
def zeroTable : BookingTable := Vector.replicate 32 zeroRow

/-- Bank A or bank B. -/
inductive BankId where
  | a
  | b
  deriving DecidableEq, Repr

/-- The state of a bank (R166). -/
inductive BankState where
  | empty
  | edited
  | checked
  deriving DecidableEq, Repr

/-- The eight table kinds, in the order of their codes (chapter 9, section 9.2). -/
inductive TableKind where
  | header
  | house
  | tank
  | pump
  | station
  | alarmMap
  | tariffWindow
  | timetable
  deriving DecidableEq, Repr

/-- The relations of a bank check by their codes (R173). -/
inductive CheckCode where
  | meterLevels
  | stationUnused
  | stationShared
  | tankUnused
  | sameTank
  | deliveryShared
  | cascadeLoop
  | channelShared
  | bandOrder
  | restoreMargin
  | pumpUse
  | curveOrder
  | windowClash
  | ttHouseUnused
  | ttRuns
  | overHead
  | chargeExceedsCap
  deriving DecidableEq, Repr

/-- A failed check: the code, the record kind and the record index (R2). -/
structure CheckFailure where
  code : CheckCode
  kind : TableKind
  index : Nat
  deriving DecidableEq, Repr

/-- The last check result of a bank (R166). -/
inductive CheckResult where
  | absent
  | passed
  | failed (f : CheckFailure)
  deriving DecidableEq, Repr

/-- One of the two banks (R166). -/
structure Bank where
  plan : Plan
  state : BankState
  lastCheck : CheckResult
  table : Option BookingTable
  deriving DecidableEq, Repr

/-- An EMPTY bank (R167). -/
def emptyBank : Bank := { plan := clearPlan, state := .empty, lastCheck := .absent, table := none }

/-- The house a pump belongs to (R1). -/
def houseOf (p : Pump) : House := ⟨p.val / 4, by omega⟩

/-- A pump's position in its house (R1). -/
def positionOf (p : Pump) : Nat := p.val % 4

/-- The four pump slots of a house, in ascending order. -/
def pumpsOf (h : House) : List Pump :=
  [⟨h.val * 4, by omega⟩, ⟨h.val * 4 + 1, by omega⟩, ⟨h.val * 4 + 2, by omega⟩, ⟨h.val * 4 + 3, by omega⟩]

/-- The pump at a position of a house, if the position is 0 to 3. -/
def pumpAt (h : House) (k : Nat) : Option Pump := (pumpsOf h)[k]?

/-- All houses, in ascending order. -/
def allHouses : List House := List.finRange 8

/-- All pumps, in ascending order. -/
def allPumps : List Pump := List.finRange 32

/-- All tanks, in ascending order. -/
def allTanks : List Tank := List.finRange 12

/-- All stations, in ascending order of their addresses. -/
def allStations : List Station := List.finRange 12

/-- All timetable entries, in ascending order. -/
def allEntries : List Entry := List.finRange 24

/-- All tariff windows, in ascending order. -/
def allWindows : List Window := List.finRange 12

/-- The bus address of a station. -/
def stationAddress (s : Station) : Nat := s.val + 1

/-- The in-use houses of a plan, in ascending order. -/
def Plan.housesInUse (pl : Plan) : List House := allHouses.filter fun h => pl.houses[h].inUse

/-- The pumps of a house that the plan has in use, in ascending order. -/
def Plan.pumpsInUse (pl : Plan) (h : House) : List Pump := (pumpsOf h).filter fun p => pl.pumps[p].inUse

/-- The in-use house that station s serves in this plan (R155): STATION_SHARED leaves at most one. -/
def Plan.servedHouse (pl : Plan) (s : Station) : Option House :=
  allHouses.find? fun h => pl.houses[h].inUse && pl.houses[h].station == s

/-- Whether a day set holds a day. -/
def dayIn (d : DaySet) (day : Day) : Bool := d[day]

end Sys2Proof.Machine
end

