-- ==== Sys2Proof/Machine/Records.lean ====
section
/-! DEFINITION. Plan records as runs of bytes (R190), their field ranges (R3, R5, R10, R14, R112, R114, R126, R155), and
the reading and replacing of a record of a plan by table kind and index (R168, R170). Decoding answers none when a field
is out of its range. -/

namespace Sys2Proof.Machine

/-! ### Fields -/

/-- A value in its range, both ends included. -/
def inRange (lo hi n : Nat) : Option Nat := if lo ≤ n ∧ n ≤ hi then some n else none

/-- Yes and no are coded 1 and 0 (R190). -/
def decodeFlag : Nat → Option Bool
  | 0 => some false
  | 1 => some true
  | _ => none

/-- Yes and no are coded 1 and 0 (R190). -/
def encodeFlag (b : Bool) : Nat := if b then 1 else 0

/-- An index below a bound. -/
def decodeIndex (n : Nat) (k : Nat) : Option (Fin n) := if h : k < n then some ⟨k, h⟩ else none

/-- A station address 1 to 12. -/
def decodeAddress (k : Nat) : Option Station := if k = 0 then none else decodeIndex 12 (k - 1)

/-- A suction tank, or 255 for SOURCE (R190). -/
def decodeSuction (k : Nat) : Option (Option Tank) :=
  if k = 255 then some none else (decodeIndex 12 k).map some

/-- A suction tank, or 255 for SOURCE (R190). -/
def encodeSuction : Option Tank → Nat
  | none => 255
  | some t => t.val

/-- A mode by its code (R188). -/
def decodeMode : Nat → Option Mode
  | 0 => some .auto
  | 1 => some .manual
  | 2 => some .disabled
  | _ => none

/-- A mode by its code (R188). -/
def encodeMode : Mode → Nat
  | .auto => 0
  | .manual => 1
  | .disabled => 2

/-- An alarm action by its place in the list of R126. -/
def decodeAction : Nat → Option AlarmAction
  | 0 => some .none
  | 1 => some .note
  | 2 => some .inhibit
  | 3 => some .trip
  | 4 => some .lockout
  | _ => none

/-- An alarm action by its place in the list of R126. -/
def encodeAction : AlarmAction → Nat
  | .none => 0
  | .note => 1
  | .inhibit => 2
  | .trip => 3
  | .lockout => 4

/-- FLOOR or CEILING by its place in the list of R114. -/
def decodeWindowKind : Nat → Option WindowKind
  | 0 => some .floor
  | 1 => some .ceiling
  | _ => none

/-- FLOOR or CEILING by its place in the list of R114. -/
def encodeWindowKind : WindowKind → Nat
  | .floor => 0
  | .ceiling => 1

/-- A guard kind by its code (R190). -/
def decodeGuardKind : Nat → Option GuardKind
  | 0 => some .absent
  | 1 => some .below
  | 2 => some .above
  | _ => none

/-- A guard kind by its code (R190). -/
def encodeGuardKind : GuardKind → Nat
  | .absent => 0
  | .below => 1
  | .above => 2

/-- A day set byte: bit d for day d; bit 7 names no day (R190). -/
def decodeDays (n : Nat) : Option DaySet :=
  if n < 128 then some (Vector.ofFn fun d => n.testBit d.val) else none

/-- A day set byte: bit d for day d (R190). -/
def encodeDays (d : DaySet) : Nat :=
  d.toList.foldr (fun b n => encodeFlag b + 2 * n) 0

/-- The four levels of positions 1 to 4, two bytes each. -/
def decodeLevels (bs : List Byte) (offset : Nat) : Option (Vector Nat 4) := do
  let l1 ← inRange 0 3000 (fieldAt bs offset 2)
  let l2 ← inRange 0 3000 (fieldAt bs (offset + 2) 2)
  let l3 ← inRange 0 3000 (fieldAt bs (offset + 4) 2)
  let l4 ← inRange 0 3000 (fieldAt bs (offset + 6) 2)
  return #v[l1, l2, l3, l4]

/-- The four levels of positions 1 to 4, two bytes each. -/
def encodeLevels (v : Vector Nat 4) : List Byte := v.toList.flatMap (toBytes 2)

/-- Curve points, four bytes each; head and draw take every value two bytes hold (R14). -/
def decodeCurve : Nat → List Byte → List CurvePoint
  | 0, _ => []
  | k + 1, bs => ⟨fieldAt bs 0 2, fieldAt bs 2 2⟩ :: decodeCurve k (bs.drop 4)

/-- Curve points, four bytes each (R190). -/
def encodeCurve (c : List CurvePoint) : List Byte := c.flatMap fun p => toBytes 2 p.head ++ toBytes 2 p.draw

/-! ### Records -/

/-- The header, 24 bytes (R3, R190). -/
def decodeHeader (bs : List Byte) : Option Header := do
  let permitCount ← inRange 1 4 (fieldAt bs 6 1)
  let replyTimeout ← inRange 50 1000 (fieldAt bs 7 2)
  let silenceLimit ← inRange 1 10 (fieldAt bs 9 1)
  let levelHold ← inRange 10 3600 (fieldAt bs 10 2)
  let meterPoll ← inRange 1 10 (fieldAt bs 12 1)
  let meterFilter ← inRange 0 60 (fieldAt bs 17 1)
  let meterShedSettle ← inRange 5 600 (fieldAt bs 18 2)
  let meterStale ← inRange 5 600 (fieldAt bs 20 2)
  let suctionMargin ← inRange 1 200 (fieldAt bs 22 1)
  let lowAlarmMargin ← inRange 0 200 (fieldAt bs 23 1)
  return { label := fieldAt bs 0 4, defaultCap := fieldAt bs 4 2, permitCount, replyTimeout, silenceLimit, levelHold,
           meterPoll, meterHoldLevel := fieldAt bs 13 2, meterShedLevel := fieldAt bs 15 2, meterFilter,
           meterShedSettle, meterStale, suctionMargin, lowAlarmMargin }

/-- The header, 24 bytes (R3, R190). -/
def encodeHeader (r : Header) : List Byte :=
  toBytes 4 r.label ++ toBytes 2 r.defaultCap ++ toBytes 1 r.permitCount ++ toBytes 2 r.replyTimeout ++
  toBytes 1 r.silenceLimit ++ toBytes 2 r.levelHold ++ toBytes 1 r.meterPoll ++ toBytes 2 r.meterHoldLevel ++
  toBytes 2 r.meterShedLevel ++ toBytes 1 r.meterFilter ++ toBytes 2 r.meterShedSettle ++ toBytes 2 r.meterStale ++
  toBytes 1 r.suctionMargin ++ toBytes 1 r.lowAlarmMargin

/-- A house record, 18 bytes (R5, R190). -/
def decodeHouse (bs : List Byte) : Option HouseRecord := do
  let inUse ← decodeFlag (fieldAt bs 0 1)
  let station ← decodeAddress (fieldAt bs 1 1)
  let suction ← decodeSuction (fieldAt bs 2 1)
  let sourceElevation ← inRange 0 60000 (fieldAt bs 3 2)
  let delivery ← decodeIndex 12 (fieldAt bs 5 1)
  let pumpCount ← inRange 1 4 (fieldAt bs 6 1)
  let priority ← inRange 0 7 (fieldAt bs 7 1)
  let friction ← inRange 0 500 (fieldAt bs 8 2)
  let mainSettle ← inRange 5 300 (fieldAt bs 10 2)
  let levelFilter ← inRange 0 60 (fieldAt bs 12 1)
  let recoveryTime ← inRange 10 3600 (fieldAt bs 13 2)
  let recoveryRetries ← inRange 0 15 (fieldAt bs 15 1)
  let fallback ← inRange 0 4 (fieldAt bs 16 1)
  let initialMode ← decodeMode (fieldAt bs 17 1)
  return { inUse, station, suction, sourceElevation, delivery, pumpCount, priority, friction, mainSettle, levelFilter,
           recoveryTime, recoveryRetries, fallback, initialMode }

/-- A house record, 18 bytes (R5, R190). -/
def encodeHouse (r : HouseRecord) : List Byte :=
  toBytes 1 (encodeFlag r.inUse) ++ toBytes 1 (stationAddress r.station) ++ toBytes 1 (encodeSuction r.suction) ++
  toBytes 2 r.sourceElevation ++ toBytes 1 r.delivery.val ++ toBytes 1 r.pumpCount ++ toBytes 1 r.priority ++
  toBytes 2 r.friction ++ toBytes 2 r.mainSettle ++ toBytes 1 r.levelFilter ++ toBytes 2 r.recoveryTime ++
  toBytes 1 r.recoveryRetries ++ toBytes 1 r.fallback ++ toBytes 1 (encodeMode r.initialMode)

/-- A tank record, 29 bytes (R10, R190). -/
def decodeTank (bs : List Byte) : Option TankRecord := do
  let inUse ← decodeFlag (fieldAt bs 0 1)
  let station ← decodeAddress (fieldAt bs 1 1)
  let channel ← decodeIndex 2 (fieldAt bs 2 1)
  let base ← inRange 0 60000 (fieldAt bs 3 2)
  let height ← inRange 100 3000 (fieldAt bs 5 2)
  let overflow ← inRange 0 3000 (fieldAt bs 7 2)
  let stop ← decodeLevels bs 9
  let start ← decodeLevels bs 17
  let lowAlarm ← inRange 0 3000 (fieldAt bs 25 2)
  let cutoff ← inRange 0 3000 (fieldAt bs 27 2)
  return { inUse, station, channel, base, height, overflow, stop, start, lowAlarm, cutoff }

/-- A tank record, 29 bytes (R10, R190). -/
def encodeTank (r : TankRecord) : List Byte :=
  toBytes 1 (encodeFlag r.inUse) ++ toBytes 1 (stationAddress r.station) ++ toBytes 1 r.channel.val ++
  toBytes 2 r.base ++ toBytes 2 r.height ++ toBytes 2 r.overflow ++ encodeLevels r.stop ++ encodeLevels r.start ++
  toBytes 2 r.lowAlarm ++ toBytes 2 r.cutoff

/-- A pump record, 9 bytes and 4 for each curve point (R14, R190). -/
def decodePump (bs : List Byte) : Option PumpRecord := do
  let inUse ← decodeFlag (fieldAt bs 0 1)
  let count ← inRange 2 6 (fieldAt bs 1 1)
  let tail := bs.drop (2 + 4 * count)
  let startFactor ← inRange 10 80 (fieldAt tail 0 1)
  let startWindow ← inRange 1 120 (fieldAt tail 1 1)
  let minRun ← inRange 0 7200 (fieldAt tail 2 2)
  let minOff ← inRange 0 7200 (fieldAt tail 4 2)
  let startsPerHour ← inRange 1 6 (fieldAt tail 6 1)
  return { inUse, curve := decodeCurve count (bs.drop 2), startFactor, startWindow, minRun, minOff, startsPerHour }

/-- A pump record, 9 bytes and 4 for each curve point (R14, R190). -/
def encodePump (r : PumpRecord) : List Byte :=
  toBytes 1 (encodeFlag r.inUse) ++ toBytes 1 r.curve.length ++ encodeCurve r.curve ++ toBytes 1 r.startFactor ++
  toBytes 1 r.startWindow ++ toBytes 2 r.minRun ++ toBytes 2 r.minOff ++ toBytes 1 r.startsPerHour

/-- A station record, 2 bytes (R155, R190). -/
def decodeStation (bs : List Byte) : Option StationRecord := do
  let inUse ← decodeFlag (fieldAt bs 0 1)
  let pollInterval ← inRange 2 60 (fieldAt bs 1 1)
  return { inUse, pollInterval }

/-- A station record, 2 bytes (R155, R190). -/
def encodeStation (r : StationRecord) : List Byte :=
  toBytes 1 (encodeFlag r.inUse) ++ toBytes 1 r.pollInterval

/-- An alarm map entry, 3 bytes (R126, R190). -/
def decodeAlarm (bs : List Byte) : Option AlarmMapEntry := do
  let action ← decodeAction (fieldAt bs 0 1)
  let filter ← inRange 0 600 (fieldAt bs 1 2)
  return { action, filter }

/-- An alarm map entry, 3 bytes (R126, R190). -/
def encodeAlarm (r : AlarmMapEntry) : List Byte := toBytes 1 (encodeAction r.action) ++ toBytes 2 r.filter

/-- A tariff window, 7 bytes (R112, R190). -/
def decodeWindow (bs : List Byte) : Option TariffWindow := do
  let inUse ← decodeFlag (fieldAt bs 0 1)
  let startMinute ← inRange 0 1439 (fieldAt bs 1 2)
  let days ← decodeDays (fieldAt bs 3 1)
  let periodLabel ← inRange 0 3 (fieldAt bs 6 1)
  return { inUse, startMinute, days, cap := fieldAt bs 4 2, periodLabel }

/-- A tariff window, 7 bytes (R112, R190). -/
def encodeWindow (r : TariffWindow) : List Byte :=
  toBytes 1 (encodeFlag r.inUse) ++ toBytes 2 r.startMinute ++ toBytes 1 (encodeDays r.days) ++ toBytes 2 r.cap ++
  toBytes 1 r.periodLabel

/-- A timetable entry, 15 bytes; the guard level is tested even when the guard is absent (R114, R190). -/
def decodeEntry (bs : List Byte) : Option TimetableEntry := do
  let inUse ← decodeFlag (fieldAt bs 0 1)
  let house ← decodeIndex 8 (fieldAt bs 1 1)
  let kind ← decodeWindowKind (fieldAt bs 2 1)
  let count ← inRange 0 4 (fieldAt bs 3 1)
  let startMinute ← inRange 0 1439 (fieldAt bs 4 2)
  let duration ← inRange 1 1439 (fieldAt bs 6 2)
  let days ← decodeDays (fieldAt bs 8 1)
  let guardKind ← decodeGuardKind (fieldAt bs 9 1)
  let guardLevel ← inRange 0 3000 (fieldAt bs 10 2)
  let limited ← decodeFlag (fieldAt bs 12 1)
  let retired ← decodeFlag (fieldAt bs 14 1)
  return { inUse, house, kind, count, startMinute, duration, days, guardKind, guardLevel, limited,
           runs := fieldAt bs 13 1, retired }

/-- A timetable entry, 15 bytes (R114, R190). -/
def encodeEntry (r : TimetableEntry) : List Byte :=
  toBytes 1 (encodeFlag r.inUse) ++ toBytes 1 r.house.val ++ toBytes 1 (encodeWindowKind r.kind) ++
  toBytes 1 r.count ++ toBytes 2 r.startMinute ++ toBytes 2 r.duration ++ toBytes 1 (encodeDays r.days) ++
  toBytes 1 (encodeGuardKind r.guardKind) ++ toBytes 2 r.guardLevel ++ toBytes 1 (encodeFlag r.limited) ++
  toBytes 1 r.runs ++ toBytes 1 (encodeFlag r.retired)

/-! ### Records by table kind and index -/

/-- A table kind by its code (chapter 9, section 9.2). -/
def decodeTableKind : Nat → Option TableKind
  | 0 => some .header
  | 1 => some .house
  | 2 => some .tank
  | 3 => some .pump
  | 4 => some .station
  | 5 => some .alarmMap
  | 6 => some .tariffWindow
  | 7 => some .timetable
  | _ => none

/-- A table kind by its code (chapter 9, section 9.2). -/
def encodeTableKind : TableKind → Nat
  | .header => 0
  | .house => 1
  | .tank => 2
  | .pump => 3
  | .station => 4
  | .alarmMap => 5
  | .tariffWindow => 6
  | .timetable => 7

/-- A bank by its code (R188). -/
def decodeBank : Nat → Option BankId
  | 0 => some .a
  | 1 => some .b
  | _ => none

/-- A bank by its code (R188). -/
def encodeBank : BankId → Nat
  | .a => 0
  | .b => 1

/-- The first index of a table kind (chapter 9, section 9.2). -/
def firstIndex : TableKind → Nat
  | .station => 1
  | _ => 0

/-- The last index of a table kind (chapter 9, section 9.2). -/
def lastIndex : TableKind → Nat
  | .header => 0
  | .house => 7
  | .tank => 11
  | .pump => 31
  | .station => 12
  | .alarmMap => 255
  | .tariffWindow => 11
  | .timetable => 23

/-- Whether a run of records lies in its kind's index range and is not empty (R169 test 3, R170). -/
def indicesInRange (kind : TableKind) (first count : Nat) : Bool :=
  decide (1 ≤ count ∧ firstIndex kind ≤ first ∧ first + count - 1 ≤ lastIndex kind)

/-- One record of any kind. -/
inductive TableRecord where
  | header (r : Header)
  | house (r : HouseRecord)
  | tank (r : TankRecord)
  | pump (r : PumpRecord)
  | station (r : StationRecord)
  | alarm (r : AlarmMapEntry)
  | window (r : TariffWindow)
  | entry (r : TimetableEntry)
  deriving DecidableEq, Repr

/-- The bytes of a record as a record of its kind, none if a field is out of range (R169 test 6). -/
def decodeRecord (kind : TableKind) (bs : List Byte) : Option TableRecord :=
  match kind with
  | .header => (decodeHeader bs).map .header
  | .house => (decodeHouse bs).map .house
  | .tank => (decodeTank bs).map .tank
  | .pump => (decodePump bs).map .pump
  | .station => (decodeStation bs).map .station
  | .alarmMap => (decodeAlarm bs).map .alarm
  | .tariffWindow => (decodeWindow bs).map .window
  | .timetable => (decodeEntry bs).map .entry

/-- A record as its bytes (R190). -/
def encodeRecord : TableRecord → List Byte
  | .header r => encodeHeader r
  | .house r => encodeHouse r
  | .tank r => encodeTank r
  | .pump r => encodePump r
  | .station r => encodeStation r
  | .alarm r => encodeAlarm r
  | .window r => encodeWindow r
  | .entry r => encodeEntry r

/-- The record of a plan at an index of a kind's range; outside it, none. -/
def getRecord (pl : Plan) (kind : TableKind) (i : Nat) : Option TableRecord :=
  match kind with
  | .header => if i = 0 then some (.header pl.header) else none
  | .house => (decodeIndex 8 i).map fun k => .house pl.houses[k]
  | .tank => (decodeIndex 12 i).map fun k => .tank pl.tanks[k]
  | .pump => (decodeIndex 32 i).map fun k => .pump pl.pumps[k]
  | .station => (decodeAddress i).map fun k => .station pl.stations[k]
  | .alarmMap => (decodeIndex 256 i).map fun k => .alarm pl.alarmMap[k]
  | .tariffWindow => (decodeIndex 12 i).map fun k => .window pl.tariff[k]
  | .timetable => (decodeIndex 24 i).map fun k => .entry pl.timetable[k]

/-- The plan with one record replaced; an index outside the kind's range replaces nothing. -/
def putRecord (pl : Plan) (i : Nat) (r : TableRecord) : Plan :=
  match r with
  | .header r => { pl with header := r }
  | .house r => if h : i < 8 then { pl with houses := pl.houses.set i r } else pl
  | .tank r => if h : i < 12 then { pl with tanks := pl.tanks.set i r } else pl
  | .pump r => if h : i < 32 then { pl with pumps := pl.pumps.set i r } else pl
  | .station r => if h : 1 ≤ i ∧ i ≤ 12 then { pl with stations := pl.stations.set (i - 1) r (by omega) } else pl
  | .alarm r => if h : i < 256 then { pl with alarmMap := pl.alarmMap.set i r } else pl
  | .window r => if h : i < 12 then { pl with tariff := pl.tariff.set i r } else pl
  | .entry r => if h : i < 24 then { pl with timetable := pl.timetable.set i r } else pl

/-- The plan with a run of records replaced from an index onward (R168). -/
def putRecords (pl : Plan) (first : Nat) : List TableRecord → Plan
  | [] => pl
  | r :: rs => putRecords (putRecord pl first r) (first + 1) rs

/-- The number of bytes of the record that begins the bytes: a PUMP record is taken with the curve point count it
carries, whether that count is in range or not (R169 test 1). None if the bytes end before that count. -/
def recordSize (kind : TableKind) (bs : List Byte) : Option Nat :=
  match kind with
  | .header => some 24
  | .house => some 18
  | .tank => some 29
  | .pump => bs[1]?.map fun c => 9 + 4 * c.toNat
  | .station => some 2
  | .alarmMap => some 3
  | .tariffWindow => some 7
  | .timetable => some 15

/-- The bytes cut into count records of a kind, none if their length is not what kind and count give (R169 test 1). -/
def splitRecords (kind : TableKind) : Nat → List Byte → Option (List (List Byte))
  | 0, bs => if bs.isEmpty then some [] else none
  | k + 1, bs => do
    let size ← recordSize kind bs
    if bs.length < size then none
    else
      let rest ← splitRecords kind k (bs.drop size)
      return bs.take size :: rest

/-- The records of a write from an index onward, or the index of the first one with a field out of range (R169 test 6). -/
def decodeRecords (kind : TableKind) (first : Nat) : List (List Byte) → Except Nat (List TableRecord)
  | [] => .ok []
  | bs :: rest =>
    match decodeRecord kind bs with
    | none => .error first
    | some r =>
      match decodeRecords kind (first + 1) rest with
      | .error i => .error i
      | .ok rs => .ok (r :: rs)

/-- The run of records a TABLE_READ carries: from an index onward, at most count of them, while their bytes fit in the
room (R170). Answers the number of records and their bytes. -/
def readRecords (pl : Plan) (kind : TableKind) : Nat → Nat → Nat → Nat × List Byte
  | _, 0, _ => (0, [])
  | i, k + 1, room =>
    match getRecord pl kind i with
    | none => (0, [])
    | some r =>
      let bs := encodeRecord r
      if room < bs.length then (0, [])
      else
        let rest := readRecords pl kind (i + 1) k (room - bs.length)
        (rest.1 + 1, bs ++ rest.2)

end Sys2Proof.Machine
end

