-- ==== Sys2Proof/Machine/State.lean ====
section
/-! DEFINITION. The state of the part, block by block (00_scope.md, Block overview), the outcomes of a step, and the
state after reset. State is plain data. An uptime or an interval is a natural number of seconds. What the spec defines
as a count over other fields (the permit set, on-count, booking count, n_level, the inhibited and order-busy flags, the
operating state) is computed where it is read, so that it has one home (log 32). A house, tank or station that is not in
use has no record in the spec; here its slot holds the blank form (log 33). -/

namespace Sys2Proof.Machine

/-! ### Time Base (chapter 6) -/

/-- Network time while SET (R110). -/
structure NetTime where
  second : Nat
  day : Day
  deriving DecidableEq, Repr

/-- Uptime and network time; `net` is absent while the time state is UNSET (R110). `crossingWaits` is the model's own:
uptime stands at the second of a crossing that network time has not made yet, so that what else falls at that uptime may
be taken before it (R111, R116, log 47). -/
structure TimeBase where
  uptime : Nat
  net : Option NetTime
  crossingWaits : Bool := false
  deriving DecidableEq, Repr

/-! ### Plan Banks and Plan Store (chapter 9) -/

/-- The two banks and the active selection, absent for NONE (R166). -/
structure PlanBanks where
  a : Bank
  b : Bank
  active : Option BankId
  deriving DecidableEq, Repr

/-- A store write in progress (R178): the bank being stored, the copy, and the seconds since the request (R183). The
seconds are counted, because uptime begins again at a HOST_RESTART that the write runs across (R181, log 34). -/
structure StoreWrite where
  bank : BankId
  copy : Plan
  age : Nat
  deriving DecidableEq, Repr

/-- The plan store (R178): `image` is what the medium holds, absent while nothing whole stands there; `valid` says VALID
or INVALID; the write is absent while IDLE. The stored label is the label of the image while VALID. -/
structure PlanStore where
  image : Option Plan
  valid : Bool
  writing : Option StoreWrite
  deriving DecidableEq, Repr

/-! ### Station Bus Controller (chapter 8) -/

/-- START or STOP, the commands of an ORDER (R152). -/
inductive OrderKind where
  | start
  | stop
  deriving DecidableEq, Repr

/-- The class of a transmit queue entry, highest first (R157). -/
inductive TxClass where
  | order
  | urgent
  | routine
  deriving DecidableEq, Repr

/-- The pump and command of an order (R157). -/
structure Order where
  pump : Pump
  command : OrderKind
  deriving DecidableEq, Repr

/-- A transmit queue entry (R157). -/
structure TxEntry where
  unit : BusUnit
  cls : TxClass
  order : Option Order
  arrival : Nat
  deriving DecidableEq, Repr

/-- The request of the transaction in flight (R146): for an ORDER the pump, the command and the tag sent. -/
inductive Request where
  | poll
  | meterPoll
  | order (o : Order) (tag : Nat)
  deriving DecidableEq, Repr

/-- The transaction in flight (R146). `sentAt` is absent while the request is being sent; `partialReply` holds the bytes
of a reply frame still incomplete (R148); `discarded` marks a transaction whose station went out of use (R164). -/
structure Flight where
  unit : BusUnit
  request : Request
  timeout : Nat
  frame : List Byte
  sentAt : Option Nat
  partialReply : List Byte
  discarded : Bool
  deriving DecidableEq, Repr

/-- The state of a station, in the order of its codes (R160). -/
inductive StationState where
  | unknown
  | online
  | silent
  deriving DecidableEq, Repr

/-- The reason of a failed transaction, in the order of its codes 0 to 5 (R149). -/
inductive FailReason where
  | timeout
  | badCrc
  | wrongAddress
  | wrongKind
  | malformed
  | wrongTag
  deriving DecidableEq, Repr

/-- The live record of a station (R160). -/
structure StationLive where
  state : StationState
  silence : Nat
  nextTag : Nat
  pollDue : Option Nat
  lastGood : Option Nat
  lastFail : Option FailReason
  good : Nat
  failed : Nat
  deriving DecidableEq, Repr

/-- What is kept of the meter unit (R160). -/
structure MeterUnit where
  pollDue : Option Nat
  lastFail : Option FailReason
  good : Nat
  failed : Nat
  deriving DecidableEq, Repr

/-- The Station Bus Controller: `flight` is absent while the bus is IDLE (R146). -/
structure StationBus where
  queue : List TxEntry
  nextArrival : Nat
  flight : Option Flight
  stations : Vector StationLive 12
  meter : MeterUnit
  deriving DecidableEq, Repr

/-! ### Level Tracker (chapter 2) -/

/-- The quality of a level, in the order of R17. -/
inductive Quality where
  | fresh
  | held
  | stale
  | failed
  deriving DecidableEq, Repr

/-- A level record (R17). -/
structure LevelRecord where
  value : Option Nat
  quality : Quality
  lastGood : Option Nat
  staleAt : Option Nat
  clampEpisode : Bool
  deriving DecidableEq, Repr

/-- A pending of a condition: its since time and its filter length (R23). -/
structure PendingSince where
  since : Nat
  filter : Nat
  deriving DecidableEq, Repr

/-- A condition record (R23). -/
structure ConditionRecord where
  active : Bool
  pending : Option PendingSince
  deriving DecidableEq, Repr

/-- What the Level Tracker keeps for a house: conditions (R23), wanted flags of positions 1 to 4 (R27), degraded (R28). -/
structure Hydraulics where
  suctionLow : ConditionRecord
  overflow : ConditionRecord
  lowAlarm : ConditionRecord
  wanted : Vector Bool 4
  degraded : Bool
  deriving DecidableEq, Repr

/-! ### Pump Table (chapter 3) -/

/-- The twelve pump states, in the order of their codes (R35). -/
inductive PumpState where
  | unused
  | rest
  | ready
  | queued
  | ordered
  | starting
  | running
  | stopping
  | unconfirmed
  | localControl
  | faulted
  | isolated
  deriving DecidableEq, Repr

/-- A fault cause (R34, R52). -/
inductive FaultCause where
  | tripAlarm (code : Code)
  | stationTrip
  | startFailed
  | refusedTripped
  | unknownPump
  deriving DecidableEq, Repr

/-- A pump state as a REPORT gives it, in the order of its codes (R150). -/
inductive Reported where
  | run
  | stop
  | trip
  | localControl
  deriving DecidableEq, Repr

/-- A stop cause, in the order of its codes (R59). -/
inductive StopCause where
  | demand
  | overflow
  | shed
  | meterShed
  | isolate
  | protect
  deriving DecidableEq, Repr

/-- A pump record (R34). `reachedRunning` is the model's own: whether the current start has reached RUNNING, which
R50 asks when it resolves a pump RUN (log 17). -/
structure PumpLive where
  state : PumpState
  fault : Option FaultCause
  permit : Option Nat
  booking : Nat
  admittedM : Option Nat
  startTime : Option Nat
  admittedStart : Bool
  reachedRunning : Bool
  windowEnd : Option Nat
  permitRelease : Option Nat
  minRunUntil : Option Nat
  lastStop : Option Nat
  minOffUntil : Option Nat
  history : List Nat
  lastReported : Option Reported
  lastReportedAt : Option Nat
  timedOut : Option OrderKind
  stopCause : Option StopCause
  isolatePending : Bool
  protectPending : Bool
  faultPending : Option FaultCause
  deriving DecidableEq, Repr

/-! ### House Dispatcher (chapter 4) -/

/-- The limit codes 0 to 12, in order (R63). -/
inductive Limit where
  | survey
  | silent
  | interlock
  | protection
  | disabled
  | suctionLow
  | overflow
  | manual
  | level
  | floor
  | ceiling
  | fallback
  | rotation
  deriving DecidableEq, Repr

/-- The live record of a house (R60). -/
structure HouseLive where
  mode : Mode
  manualTarget : Nat
  mainSettledAt : Option Nat
  want : Nat
  limit : Limit
  shortfall : Bool
  dutyList : List Pump
  deriving DecidableEq, Repr

/-- The survey record (R80). `answered` is the model's own: the stations that left the awaited set by answering, which
SURVEY_DONE carries (R83, log 35). -/
structure Survey where
  running : Bool
  awaited : List Station
  answered : Nat
  deriving DecidableEq, Repr

/-! ### Feeder Budget Unit (chapter 5) -/

/-- A Start Queue entry (R92). -/
structure StartEntry where
  pump : Pump
  house : House
  seq : Nat
  enqueued : Nat
  deriving DecidableEq, Repr

/-- VALID or STALE (R104). -/
inductive MeterState where
  | valid
  | stale
  deriving DecidableEq, Repr

/-- The shed phase of the meter (R104). -/
inductive ShedPhase where
  | idle
  | filtering
  | due
  | settling
  deriving DecidableEq, Repr

/-- The meter record (R104). -/
structure MeterRecord where
  state : MeterState
  reading : Option Nat
  lastGood : Option Nat
  staleAt : Option Nat
  hold : Bool
  phase : ShedPhase
  phaseUntil : Option Nat
  deriving DecidableEq, Repr

/-- Why an admission pass ended (R99). -/
inductive PassEnd where
  | queueEnd
  | survey
  | meterHold
  | noPermit
  | budget
  deriving DecidableEq, Repr

/-- The pass record (R99). `candidate` holds the candidate pump and its need, `tested` the committed sum and the cap. -/
structure PassRecord where
  uptime : Nat
  admittedCount : Nat
  passedOver : Nat
  ended : PassEnd
  candidate : Option (Pump × Int)
  tested : Option (Nat × Nat)
  deriving DecidableEq, Repr

/-- The Feeder Budget Unit. `lastPass` is absent while the pass record is empty (R99). -/
structure Feeder where
  committed : Nat
  committedForShed : Nat
  cap : Nat
  queue : List StartEntry
  nextSeq : Nat
  overCap : Bool
  meter : MeterRecord
  lastPass : Option PassRecord
  deriving DecidableEq, Repr

/-! ### Timetable Unit (chapter 6) -/

/-- An active timetable window (R115). -/
structure ActiveWindow where
  entry : Entry
  house : House
  activeUntil : Nat
  deriving DecidableEq, Repr

/-- The Timetable Unit (R113, R115, R116). -/
structure Timetable where
  windowInForce : Option Window
  windows : List ActiveWindow
  fired : Vector Bool 24
  deriving DecidableEq, Repr

/-! ### Protection Unit (chapter 7) -/

/-- An alarm list entry (R127). `activeAt` is present exactly while the entry is PENDING. -/
structure AlarmEntry where
  code : Code
  pump : Option Pump
  firstSeen : Nat
  activeAt : Option Nat
  deriving DecidableEq, Repr

/-- A fault record entry (R134). -/
structure FaultEntry where
  code : Code
  pump : Option Pump
  firstTime : Nat
  count : Nat
  deriving DecidableEq, Repr

/-- CLEAR, RECOVERY or LOCKED_OUT (R135). -/
inductive ProtState where
  | clear
  | recovery
  | lockedOut
  deriving DecidableEq, Repr

/-- What the Protection Unit keeps for a house (R127, R134, R135, R140, R141). -/
structure Protection where
  alarms : List AlarmEntry
  listFull : Bool
  faults : List FaultEntry
  more : Bool
  state : ProtState
  attempts : Nat
  recoveryUntil : Option Nat
  forgiveAt : Option Nat
  causeCode : Option Code
  interlock : Bool
  suppression : Bool
  deriving DecidableEq, Repr

/-! ### Supervisory Link and Event Queue (chapter 10) -/

/-- The frame receiver (R185): in FRAME, the bytes received after the sync. -/
inductive Receiver where
  | hunt
  | frame (bytes : List Byte)
  deriving DecidableEq, Repr

/-- A complete request frame whose CRC matched (R184). -/
structure Frame where
  kind : Byte
  tag : Byte
  body : List Byte
  deriving DecidableEq, Repr

/-- The reply in progress (R186, R189). `restarts` marks the reply of RESTART, which HOST_RESTART follows (R196). -/
structure Reply where
  kind : Byte
  tag : Byte
  body : List Byte
  restarts : Bool
  deriving DecidableEq, Repr

/-- The link counters (R187). -/
structure LinkCounters where
  framesTaken : Nat
  badFrames : Nat
  lengthDiscards : Nat
  gapDiscards : Nat
  bufferDiscards : Nat
  deriving DecidableEq, Repr

/-- The Supervisory Link (R185, R186, R187). `reply` is absent while no reply is in progress. -/
structure SupervisoryLink where
  receiver : Receiver
  buffer : List Frame
  reply : Option Reply
  counters : LinkCounters
  deriving DecidableEq, Repr

/-- The event kinds, in the order of their codes 1 to 47 (R197). -/
inductive EventKind where
  | admitted | startAccepted | startRefused | run | stopIssued | stopped | orderTimeout | resolved
  | unexpectedStop | unexpectedRun | pumpFault | pumpCleared | overCap | overCapEnd | shed | meterHold
  | meterHoldEnd | meterShed | meterStale | stationSilent | stationOnline | levelStale | levelFailed | levelClamped
  | conditionOn | conditionOff | alarmActive | alarmListFull | recoveryStart | recoveryEnd | lockedOut | interlockOn
  | interlockOff | wantUnmet | ttFired | ttSkipped | ttMissed | ttRetired | ttEnded | tariffWindow
  | bankSwapped | storeDone | storeFailed | storeInvalid | timeSet | surveyDone | restarted
  deriving DecidableEq, Repr

/-- An event record (R197). `minute` is absent while network time is UNSET; an absent index is coded 255 on the link. -/
structure EventRecord where
  seq : Nat
  uptime : Nat
  minute : Option Nat
  kind : EventKind
  house : Option House
  pump : Option Pump
  tank : Option Tank
  value1 : Nat
  value2 : Nat
  deriving DecidableEq, Repr

/-- The Event Queue (R199). -/
structure EventQueue where
  records : List EventRecord
  overflow : Bool
  nextSeq : Nat
  deriving DecidableEq, Repr

/-! ### The part as a whole -/

/-- The three restart causes, in the order of their codes (R193). -/
inductive RestartCause where
  | powerOn
  | resetLine
  | hostRestart
  deriving DecidableEq, Repr

/-- What an event has handed on between blocks and no block has taken up yet (the model's own, log 41): the houses named
in notices to the House Dispatcher (R62), the admission passes triggered (R96), whether a shed test is called for (R101),
whether the survey's awaited set has emptied (R81), and whether a transaction has ended in this event, so that the next
one waits for the event's work (R146). It is empty between commands. -/
structure Work where
  notices : Vector Bool 8
  passes : Nat
  shedTest : Bool
  surveyEnd : Bool
  busEnded : Bool
  deriving DecidableEq, Repr

/-- The state of the part. -/
structure State where
  /-- RESET_N is held low (R193). -/
  inReset : Bool
  /-- ATTN_N is asserted (R200). -/
  attn : Bool
  /-- BUS_DE is asserted (R201). -/
  busDe : Bool
  /-- The strap rate code in force, 0 to 3 (R194). -/
  rateCode : Fin 4
  /-- The cause of the last restart (R192). -/
  restartCause : RestartCause
  /-- The Time Base. -/
  time : TimeBase
  /-- The Plan Banks. -/
  banks : PlanBanks
  /-- The Plan Store. -/
  store : PlanStore
  /-- The Station Bus Controller. -/
  bus : StationBus
  /-- The Level Tracker's level records. -/
  levels : Vector LevelRecord 12
  /-- The Level Tracker's conditions, positions and degraded flags. -/
  hydraulics : Vector Hydraulics 8
  /-- The Pump Table. -/
  pumps : Vector PumpLive 32
  /-- The House Dispatcher's live house records. -/
  houses : Vector HouseLive 8
  /-- The survey record. -/
  survey : Survey
  /-- The Feeder Budget Unit. -/
  feeder : Feeder
  /-- The Timetable Unit. -/
  timetable : Timetable
  /-- The Protection Unit's house records. -/
  protection : Vector Protection 8
  /-- The Protection Unit's note sets of stations that serve no house (R133). -/
  noteSets : Vector (List Code) 12
  /-- The Supervisory Link. -/
  link : SupervisoryLink
  /-- The Event Queue. -/
  eventQueue : EventQueue
  /-- What has been handed on and not yet taken up. -/
  work : Work
  /-- The commands waiting, first in first out. -/
  pending : List Instr
  deriving DecidableEq, Repr

/-- The faults of the machine: none. The spec names no behaviour that stops the part, and no meaning raises a fault. -/
inductive Fault
  deriving DecidableEq, Repr

/-- The refusals of the machine. The part's own refusals of requests are replies (R189), not these. -/
inductive Refusal where
  /-- Raised by an arm of `exec` whose command has no meaning yet. Safe: nothing is claimed of it. No arm raises it. -/
  | notModelled (mnemonic : String)
  deriving DecidableEq, Repr

/-! ### Blank forms: what a block holds after a restart, for what is not in use -/

/-- A station's live record as R163 sets it up. -/
def blankStation : StationLive :=
  { state := .unknown, silence := 0, nextTag := 0, pollDue := none, lastGood := none, lastFail := none, good := 0,
    failed := 0 }

/-- The meter unit as R163 sets it up, before its poll-due is given. -/
def blankMeterUnit : MeterUnit := { pollDue := none, lastFail := none, good := 0, failed := 0 }

/-- The Station Bus Controller with the bus IDLE and nothing queued (R163). -/
def blankBus : StationBus :=
  { queue := [], nextArrival := 0, flight := none, stations := Vector.replicate 12 blankStation,
    meter := blankMeterUnit }

/-- The initial form of a level record (R17). -/
def blankLevel : LevelRecord :=
  { value := none, quality := .stale, lastGood := none, staleAt := none, clampEpisode := false }

/-- A condition inactive with no pending (R30). -/
def blankCondition : ConditionRecord := { active := false, pending := none }

/-- The starting state of a house's conditions, positions and degraded flag (R30). -/
def blankHydraulics : Hydraulics :=
  { suctionLow := blankCondition, overflow := blankCondition, lowAlarm := blankCondition,
    wanted := Vector.replicate 4 false, degraded := true }

/-- The record of an UNUSED pump (R36). -/
def blankPump : PumpLive :=
  { state := .unused, fault := none, permit := none, booking := 0, admittedM := none, startTime := none,
    admittedStart := false, reachedRunning := false, windowEnd := none, permitRelease := none, minRunUntil := none,
    lastStop := none, minOffUntil := none, history := [], lastReported := none, lastReportedAt := none,
    timedOut := none, stopCause := none, isolatePending := false, protectPending := false, faultPending := none }

/-- A live house record before its initial mode is given (R61). -/
def blankHouse : HouseLive :=
  { mode := .disabled, manualTarget := 0, mainSettledAt := none, want := 0, limit := .survey, shortfall := false,
    dutyList := [] }

/-- The survey record while no survey has begun (R80). -/
def blankSurvey : Survey := { running := false, awaited := [], answered := 0 }

/-- The meter record after a restart (R107). -/
def blankMeter : MeterRecord :=
  { state := .stale, reading := none, lastGood := none, staleAt := none, hold := false, phase := .idle,
    phaseUntil := none }

/-- The Feeder Budget Unit while nothing is booked (R107). -/
def blankFeeder : Feeder :=
  { committed := 0, committedForShed := 0, cap := 0, queue := [], nextSeq := 0, overCap := false, meter := blankMeter,
    lastPass := none }

/-- The Timetable Unit after a restart (R123). -/
def blankTimetable : Timetable := { windowInForce := none, windows := [], fired := Vector.replicate 24 false }

/-- The Protection Unit's record of a house after a restart (R143). -/
def blankProtection : Protection :=
  { alarms := [], listFull := false, faults := [], more := false, state := .clear, attempts := 0,
    recoveryUntil := none, forgiveAt := none, causeCode := none, interlock := false, suppression := false }

/-- The Supervisory Link after a restart (R194). -/
def blankLink : SupervisoryLink :=
  { receiver := .hunt, buffer := [], reply := none,
    counters := { framesTaken := 0, badFrames := 0, lengthDiscards := 0, gapDiscards := 0, bufferDiscards := 0 } }

/-- Nothing handed on. -/
def blankWork : Work :=
  { notices := Vector.replicate 8 false, passes := 0, shedTest := false, surveyEnd := false, busEnded := false }

/-- The state right after POWER_ON of a part whose store has never been written (R180, R182, R199, log 7): UNPLANNED,
with RESTARTED and STORE_INVALID in the Event Queue and the attention output asserted. -/
def State.reset : State where
  inReset := false
  attn := true
  busDe := false
  rateCode := 0
  restartCause := .powerOn
  time := { uptime := 0, net := none }
  banks := { a := emptyBank, b := emptyBank, active := none }
  store := { image := none, valid := false, writing := none }
  bus := blankBus
  levels := Vector.replicate 12 blankLevel
  hydraulics := Vector.replicate 8 blankHydraulics
  pumps := Vector.replicate 32 blankPump
  houses := Vector.replicate 8 blankHouse
  survey := blankSurvey
  feeder := blankFeeder
  timetable := blankTimetable
  protection := Vector.replicate 8 blankProtection
  noteSets := Vector.replicate 12 []
  link := blankLink
  eventQueue :=
    { records :=
        [{ seq := 0, uptime := 0, minute := none, kind := .restarted, house := none, pump := none, tank := none,
           value1 := 0, value2 := 0 },
         { seq := 1, uptime := 0, minute := none, kind := .storeInvalid, house := none, pump := none, tank := none,
           value1 := 0, value2 := 0 }]
      overflow := false
      nextSeq := 2 }
  work := blankWork
  pending := []

end Sys2Proof.Machine
end

