-- ==== Sys2Proof/Machine/Codes.lean ====
section
/-! DEFINITION. The codes by which events and replies name enumerated values. -/

namespace Sys2Proof.Machine

/-- A pump state's code (R35). -/
def pumpStateCode : PumpState → Nat
  | .unused => 0
  | .rest => 1
  | .ready => 2
  | .queued => 3
  | .ordered => 4
  | .starting => 5
  | .running => 6
  | .stopping => 7
  | .unconfirmed => 8
  | .localControl => 9
  | .faulted => 10
  | .isolated => 11

/-- A fault cause's code (R59). -/
def faultCode : FaultCause → Nat
  | .tripAlarm _ => 0
  | .stationTrip => 1
  | .startFailed => 2
  | .refusedTripped => 3
  | .unknownPump => 4

/-- The alarm code of TRIP_ALARM, otherwise 0 (R59). -/
def faultAlarm : FaultCause → Nat
  | .tripAlarm c => c.val
  | .stationTrip => 0
  | .startFailed => 0
  | .refusedTripped => 0
  | .unknownPump => 0

/-- A reported state's code (R150). -/
def reportedCode : Reported → Nat
  | .run => 0
  | .stop => 1
  | .trip => 2
  | .localControl => 3

/-- A stop cause's code (R59). -/
def stopCauseCode : StopCause → Nat
  | .demand => 0
  | .overflow => 1
  | .shed => 2
  | .meterShed => 3
  | .isolate => 4
  | .protect => 5

/-- An order kind's code in events (R59). -/
def orderKindCode : OrderKind → Nat
  | .start => 0
  | .stop => 1

/-- A failure reason's code (R149). -/
def failReasonCode : FailReason → Nat
  | .timeout => 0
  | .badCrc => 1
  | .wrongAddress => 2
  | .wrongKind => 3
  | .malformed => 4
  | .wrongTag => 5

/-- A station state's code (R160). -/
def stationStateCode : StationState → Nat
  | .unknown => 0
  | .online => 1
  | .silent => 2

/-- A condition's code (R33). -/
def conditionCode : Condition → Nat
  | .suctionLow => 0
  | .overflow => 1
  | .lowAlarm => 2

/-- A limit's code (R63). -/
def limitCode : Limit → Nat
  | .survey => 0
  | .silent => 1
  | .interlock => 2
  | .protection => 3
  | .disabled => 4
  | .suctionLow => 5
  | .overflow => 6
  | .manual => 7
  | .level => 8
  | .floor => 9
  | .ceiling => 10
  | .fallback => 11
  | .rotation => 12

/-- A restart cause's code (R193). -/
def restartCode : RestartCause → Nat
  | .powerOn => 0
  | .resetLine => 1
  | .hostRestart => 2

/-- A quality by its place in R17. -/
def qualityCode : Quality → Nat
  | .fresh => 0
  | .held => 1
  | .stale => 2
  | .failed => 3

/-- A protection state by its place in R135. -/
def protStateCode : ProtState → Nat
  | .clear => 0
  | .recovery => 1
  | .lockedOut => 2

/-- A meter state by its place in R104. -/
def meterStateCode : MeterState → Nat
  | .valid => 0
  | .stale => 1

/-- A shed phase by its place in R104. -/
def shedPhaseCode : ShedPhase → Nat
  | .idle => 0
  | .filtering => 1
  | .due => 2
  | .settling => 3

/-- The reason of an ended pass by its place in R99. -/
def passEndCode : PassEnd → Nat
  | .queueEnd => 0
  | .survey => 1
  | .meterHold => 2
  | .noPermit => 3
  | .budget => 4

/-- A transmit class by its place in R157. -/
def txClassCode : TxClass → Nat
  | .order => 0
  | .urgent => 1
  | .routine => 2

/-- A bank state by its place in R166. -/
def bankStateCode : BankState → Nat
  | .empty => 0
  | .edited => 1
  | .checked => 2

/-- An event kind's code (R197). -/
def eventCode : EventKind → Nat
  | .admitted => 1
  | .startAccepted => 2
  | .startRefused => 3
  | .run => 4
  | .stopIssued => 5
  | .stopped => 6
  | .orderTimeout => 7
  | .resolved => 8
  | .unexpectedStop => 9
  | .unexpectedRun => 10
  | .pumpFault => 11
  | .pumpCleared => 12
  | .overCap => 13
  | .overCapEnd => 14
  | .shed => 15
  | .meterHold => 16
  | .meterHoldEnd => 17
  | .meterShed => 18
  | .meterStale => 19
  | .stationSilent => 20
  | .stationOnline => 21
  | .levelStale => 22
  | .levelFailed => 23
  | .levelClamped => 24
  | .conditionOn => 25
  | .conditionOff => 26
  | .alarmActive => 27
  | .alarmListFull => 28
  | .recoveryStart => 29
  | .recoveryEnd => 30
  | .lockedOut => 31
  | .interlockOn => 32
  | .interlockOff => 33
  | .wantUnmet => 34
  | .ttFired => 35
  | .ttSkipped => 36
  | .ttMissed => 37
  | .ttRetired => 38
  | .ttEnded => 39
  | .tariffWindow => 40
  | .bankSwapped => 41
  | .storeDone => 42
  | .storeFailed => 43
  | .storeInvalid => 44
  | .timeSet => 45
  | .surveyDone => 46
  | .restarted => 47

end Sys2Proof.Machine
end

