-- ==== Sys2Proof/Machine/Check.lean ====
section
/-! DEFINITION. The bank check: heads and draws (R84, R85), the booking table (R86, R174), and the relations of a plan
in the order in which BANK_CHECK takes them (R173). -/

namespace Sys2Proof.Machine

/-! ### Heads, draws and the booking table -/

/-- The delivery term of a house (R84). -/
def deliveryTerm (pl : Plan) (h : House) : Nat :=
  pl.tanks[pl.houses[h].delivery].base + pl.tanks[pl.houses[h].delivery].overflow

/-- The suction term of a house (R84, R7). -/
def suctionTerm (pl : Plan) (h : House) : Nat :=
  match pl.houses[h].suction with
  | none => pl.houses[h].sourceElevation
  | some t => pl.tanks[t].base + pl.tanks[t].cutoff

/-- The worst static head, 0 where the difference is negative (R84). -/
def worstStaticHead (pl : Plan) (h : House) : Nat := deliveryTerm pl h - suctionTerm pl h

/-- The head H_m of a house with m pumps on its main (R84). -/
def headAt (pl : Plan) (h : House) (m : Nat) : Nat := worstStaticHead pl h + pl.houses[h].friction * m * m

/-- A quotient rounded up toward positive infinity; the divisor is positive where the spec divides. -/
def ceilDiv (a : Int) (b : Nat) : Int := -((-a) / (b : Int))

/-- The draw on the segment between two curve points (R85). -/
def segmentDraw (p q : CurvePoint) (head : Nat) : Nat :=
  ((p.draw : Int) + ceilDiv (((q.draw : Int) - p.draw) * ((head : Int) - p.head)) (q.head - p.head)).toNat

/-- The draw of a curve at a head (R85). A head above the last point is not read: R16 refuses such a bank. -/
def drawAt : List CurvePoint → Nat → Nat
  | [], _ => 0
  | [p], _ => p.draw
  | p :: q :: rest, head =>
    if head ≤ p.head then p.draw
    else if head ≤ q.head then segmentDraw p q head
    else drawAt (q :: rest) head

/-- The running draw B[p][m] computed from a plan (R86). -/
def runningDraw (pl : Plan) (p : Pump) (m : Nat) : Nat := drawAt pl.pumps[p].curve (headAt pl (houseOf p) m)

/-- The start charge for a running draw and a start factor in tenths, rounded up (R86). -/
def startCharge (draw factor : Nat) : Nat := (draw * factor + 9) / 10

/-- One pump's rows, from 1 to its house's pump count (R86). -/
def bookingRow (pl : Plan) (p : Pump) : BookingRow :=
  let n := pl.houses[houseOf p].pumpCount
  if pl.pumps[p].inUse && pl.houses[houseOf p].inUse then
    { running := Vector.ofFn fun i => if i.val < n then runningDraw pl p (i.val + 1) else 0
      charge := Vector.ofFn fun i =>
        if i.val < n then startCharge (runningDraw pl p (i.val + 1)) pl.pumps[p].startFactor else 0 }
  else zeroRow

/-- The booking table of a plan that passes its check (R86, R174). -/
def bookingTable (pl : Plan) : BookingTable := Vector.ofFn (bookingRow pl)

/-! ### The relations -/

/-- The failure reported for a record. -/
def failure (code : CheckCode) (kind : TableKind) (index : Nat) : CheckFailure := { code, kind, index }

/-- The first house in use, in ascending index, of which a test is broken. -/
def firstBrokenHouse (pl : Plan) (code : CheckCode) (broken : House → Bool) : Option CheckFailure :=
  (pl.housesInUse.find? broken).map fun h => failure code .house h.val

/-- The first tank in use, in ascending index, of which a test is broken. -/
def firstBrokenTank (pl : Plan) (code : CheckCode) (broken : Tank → Bool) : Option CheckFailure :=
  (allTanks.find? fun t => pl.tanks[t].inUse && broken t).map fun t => failure code .tank t.val

/-- METER_LEVELS: the shed level exceeds the hold level (R3). -/
def checkMeterLevels (pl : Plan) : Option CheckFailure :=
  if pl.header.meterHoldLevel < pl.header.meterShedLevel then none else some (failure .meterLevels .header 0)

/-- STATION_UNUSED of a house (R8). -/
def checkHouseStation (pl : Plan) : Option CheckFailure :=
  firstBrokenHouse pl .stationUnused fun h => !pl.stations[pl.houses[h].station].inUse

/-- STATION_SHARED: the higher index of the pair is reported (R8). -/
def checkStationShared (pl : Plan) : Option CheckFailure :=
  firstBrokenHouse pl .stationShared fun h =>
    pl.housesInUse.any fun g => decide (g < h) && pl.houses[g].station == pl.houses[h].station

/-- Whether a house draws from a tank that is not in use (R8). -/
def suctionUnused (pl : Plan) (h : House) : Bool :=
  match pl.houses[h].suction with
  | none => false
  | some t => !pl.tanks[t].inUse

/-- TANK_UNUSED: the delivery tank, then the suction tank unless SOURCE (R8). -/
def checkTankUnused (pl : Plan) : Option CheckFailure :=
  firstBrokenHouse pl .tankUnused fun h => !pl.tanks[pl.houses[h].delivery].inUse || suctionUnused pl h

/-- SAME_TANK (R8). -/
def checkSameTank (pl : Plan) : Option CheckFailure :=
  firstBrokenHouse pl .sameTank fun h => pl.houses[h].suction == some pl.houses[h].delivery

/-- DELIVERY_SHARED: the higher index of the pair is reported (R8). -/
def checkDeliveryShared (pl : Plan) : Option CheckFailure :=
  firstBrokenHouse pl .deliveryShared fun h =>
    pl.housesInUse.any fun g => decide (g < h) && pl.houses[g].delivery == pl.houses[h].delivery

/-- The upstream house: the in-use house that delivers into a house's suction tank (R9). -/
def upstream (pl : Plan) (h : House) : Option House :=
  match pl.houses[h].suction with
  | none => none
  | some t => pl.housesInUse.find? fun g => pl.houses[g].delivery == t

/-- Whether the upstream walk from a house comes back to its start within a number of steps (R9). -/
def walkReturns (pl : Plan) (start : House) : Nat → House → Bool
  | 0, _ => false
  | k + 1, h =>
    match upstream pl h with
    | none => false
    | some u => u == start || walkReturns pl start k u

/-- CASCADE_LOOP: the walk stops when it has visited eight houses (R9). -/
def checkCascade (pl : Plan) : Option CheckFailure :=
  firstBrokenHouse pl .cascadeLoop fun h => walkReturns pl h 8 h

/-- STATION_UNUSED of a tank (R11). -/
def checkTankStation (pl : Plan) : Option CheckFailure :=
  firstBrokenTank pl .stationUnused fun t => !pl.stations[pl.tanks[t].station].inUse

/-- CHANNEL_SHARED: the higher index of the pair is reported (R11). -/
def checkChannelShared (pl : Plan) : Option CheckFailure :=
  firstBrokenTank pl .channelShared fun t =>
    allTanks.any fun u => decide (u < t) && pl.tanks[u].inUse && pl.tanks[u].station == pl.tanks[t].station &&
      pl.tanks[u].channel == pl.tanks[t].channel

/-- The band order of a tank for positions 1 to n (R12). -/
def bandsInOrder (pl : Plan) (t : TankRecord) (n : Nat) : Bool :=
  let starts := t.start.toList.take n
  let stops := t.stop.toList.take n
  (starts.zip stops).all (fun b => decide (b.1 < b.2)) &&
  (starts.zip (starts.drop 1)).all (fun b => decide (b.1 > b.2)) &&
  (stops.zip (stops.drop 1)).all (fun b => decide (b.1 ≥ b.2)) &&
  decide (t.stop[0] < t.overflow ∧ t.overflow ≤ t.height) &&
  (starts.getLast?.all fun s => decide (t.lowAlarm < s)) &&
  decide (t.lowAlarm + pl.header.lowAlarmMargin < t.height)

/-- BAND_ORDER: of each tank that an in-use house delivers into (R12). -/
def checkBandOrder (pl : Plan) : Option CheckFailure :=
  firstBrokenTank pl .bandOrder fun t =>
    pl.housesInUse.any fun h =>
      pl.houses[h].delivery == t && !bandsInOrder pl pl.tanks[t] pl.houses[h].pumpCount

/-- RESTORE_MARGIN: of each tank that an in-use house draws from (R13). -/
def checkRestoreMargin (pl : Plan) : Option CheckFailure :=
  firstBrokenTank pl .restoreMargin fun t =>
    (pl.housesInUse.any fun h => pl.houses[h].suction == some t) &&
      decide (pl.tanks[t].height < pl.tanks[t].cutoff + pl.header.suctionMargin)

/-- PUMP_USE: a pump is in use exactly below its house's pump count (R14). -/
def checkPumpUse (pl : Plan) : Option CheckFailure :=
  (allPumps.find? fun p =>
    pl.pumps[p].inUse !=
      (pl.houses[houseOf p].inUse && decide (positionOf p < pl.houses[houseOf p].pumpCount))).map
    fun p => failure .pumpUse .pump p.val

/-- Whether the heads of a curve strictly increase (R15). -/
def headsIncrease (c : List CurvePoint) : Bool := (c.zip (c.drop 1)).all fun b => decide (b.1.head < b.2.head)

/-- CURVE_ORDER (R15). -/
def checkCurveOrder (pl : Plan) : Option CheckFailure :=
  (allPumps.find? fun p => pl.pumps[p].inUse && !headsIncrease pl.pumps[p].curve).map
    fun p => failure .curveOrder .pump p.val

/-- Whether two day sets share a day. -/
def daysMeet (a b : DaySet) : Bool := (a.toList.zip b.toList).any fun d => d.1 && d.2

/-- WINDOW_CLASH: the higher index of the pair is reported (R112). -/
def checkWindowClash (pl : Plan) : Option CheckFailure :=
  (allWindows.find? fun w => pl.tariff[w].inUse &&
    allWindows.any fun v => decide (v < w) && pl.tariff[v].inUse &&
      pl.tariff[v].startMinute == pl.tariff[w].startMinute && daysMeet pl.tariff[v].days pl.tariff[w].days).map
    fun w => failure .windowClash .tariffWindow w.val

/-- TT_HOUSE_UNUSED (R114). -/
def checkEntryHouse (pl : Plan) : Option CheckFailure :=
  (allEntries.find? fun e => pl.timetable[e].inUse && !pl.houses[pl.timetable[e].house].inUse).map
    fun e => failure .ttHouseUnused .timetable e.val

/-- TT_RUNS: a limited entry that is not retired has a run left (R114). -/
def checkEntryRuns (pl : Plan) : Option CheckFailure :=
  (allEntries.find? fun e => pl.timetable[e].inUse && pl.timetable[e].limited && !pl.timetable[e].retired &&
    pl.timetable[e].runs == 0).map
    fun e => failure .ttRuns .timetable e.val

/-- The largest cap of a bank: the default cap and the caps of in-use windows whose day sets are not empty (R16). -/
def largestCap (pl : Plan) : Nat :=
  pl.tariff.toList.foldl
    (fun c w => if w.inUse && w.days.toList.any id then max c w.cap else c) pl.header.defaultCap

/-- The last curve head of a pump. -/
def lastHead (pl : Plan) (p : Pump) : Nat := (pl.pumps[p].curve.getLast?.map (·.head)).getD 0

/-- The three tests of R16 for one house, in their order. -/
def checkHouseHeads (pl : Plan) (h : House) : Option CheckFailure :=
  let n := pl.houses[h].pumpCount
  if 65535 < headAt pl h n then some (failure .overHead .house h.val)
  else
    match (pl.pumpsInUse h).find? fun p => decide (lastHead pl p < headAt pl h n) with
    | some p => some (failure .overHead .pump p.val)
    | none =>
      ((pl.pumpsInUse h).find? fun p =>
        decide (largestCap pl < startCharge (runningDraw pl p 1) pl.pumps[p].startFactor)).map
        fun p => failure .chargeExceedsCap .pump p.val

/-- OVER_HEAD and CHARGE_EXCEEDS_CAP, house by house (R16, R173 step 17). H_n is the largest head of a house, so testing
it tests every H_m. -/
def checkHeads (pl : Plan) : Option CheckFailure := pl.housesInUse.findSome? (checkHouseHeads pl)

/-- The relations in the order of R173. -/
def relations : List (Plan → Option CheckFailure) :=
  [checkMeterLevels, checkHouseStation, checkStationShared, checkTankUnused, checkSameTank, checkDeliveryShared,
   checkCascade, checkTankStation, checkChannelShared, checkBandOrder, checkRestoreMargin, checkPumpUse,
   checkCurveOrder, checkWindowClash, checkEntryHouse, checkEntryRuns, checkHeads]

/-- The first relation of a plan found broken, if any (R172). -/
def firstFailure (pl : Plan) : Option CheckFailure := relations.findSome? fun r => r pl

/-- A relation code's number (R173). -/
def checkCodeNumber : CheckCode → Nat
  | .meterLevels => 1
  | .stationUnused => 2
  | .stationShared => 3
  | .tankUnused => 4
  | .sameTank => 5
  | .deliveryShared => 6
  | .cascadeLoop => 7
  | .channelShared => 8
  | .bandOrder => 9
  | .restoreMargin => 10
  | .pumpUse => 11
  | .curveOrder => 12
  | .windowClash => 13
  | .ttHouseUnused => 14
  | .ttRuns => 15
  | .overHead => 16
  | .chargeExceedsCap => 17

end Sys2Proof.Machine
end

