-- ==== Sys2Proof/Machine/Ops.lean ====
section
/-! DEFINITION. The named operations on State that every block uses: the active plan, the record updates, raising an
event (R197, R199), handing a notice on (R62), and the sums of the bookings (R88). -/

namespace Sys2Proof.Machine

/-! ### Reading -/

/-- The uptime (R110). -/
def now (s : State) : Nat := s.time.uptime

/-- A bank by its name. -/
def bankOf (s : State) : BankId → Bank
  | .a => s.banks.a
  | .b => s.banks.b

/-- Whether a bank is active; the part is UNPLANNED when none is (R166). -/
def planned (s : State) : Bool := s.banks.active.isSome

/-- The plan of the active bank. While UNPLANNED nothing is in use, as in a cleared plan (R182). -/
def planOf (s : State) : Plan :=
  match s.banks.active with
  | none => clearPlan
  | some k => (bankOf s k).plan

/-- The booking table of the active bank (R86). -/
def tableOf (s : State) : BookingTable :=
  match s.banks.active with
  | none => zeroTable
  | some k => ((bankOf s k).table).getD zeroTable

/-- The running draw B[p][m] of the active bank; 0 where the table has no entry (R86). -/
def drawB (s : State) (p : Pump) (m : Nat) : Nat :=
  if m = 0 then 0 else ((tableOf s)[p].running.toList[m - 1]?).getD 0

/-- The start charge S[p][m] of the active bank; 0 where the table has no entry (R86). -/
def chargeS (s : State) (p : Pump) (m : Nat) : Nat :=
  if m = 0 then 0 else ((tableOf s)[p].charge.toList[m - 1]?).getD 0

/-- Whether a house is in use in the active bank (R6). -/
def houseInUse (s : State) (h : House) : Bool := (planOf s).houses[h].inUse

/-- Whether a pump is in use in the active bank (R14). -/
def pumpInUse (s : State) (p : Pump) : Bool := (planOf s).pumps[p].inUse

/-- The station that serves a house (R155). -/
def stationOf (s : State) (h : House) : Station := (planOf s).houses[h].station

/-- The pumps of a house in one of some states, in ascending order. -/
def pumpsIn (s : State) (h : House) (f : PumpState → Bool) : List Pump :=
  (pumpsOf h).filter fun p => f s.pumps[p].state

/-- The states counted in a house's booking count (R60). -/
def countsInM : PumpState → Bool
  | .ordered | .starting | .running | .stopping | .unconfirmed => true
  | .unused | .rest | .ready | .queued | .localControl | .faulted | .isolated => false

/-- The states counted in a house's on-count (R60). -/
def countsOn : PumpState → Bool
  | .queued | .ordered | .starting | .running | .unconfirmed => true
  | .unused | .rest | .ready | .stopping | .localControl | .faulted | .isolated => false

/-- The booking count m of a house (R60). -/
def bookingCount (s : State) (h : House) : Nat := (pumpsIn s h countsInM).length

/-- The on-count of a house (R60). -/
def onCount (s : State) (h : House) : Nat := (pumpsIn s h countsOn).length

/-- The number of duty positions wanted (R27). -/
def nLevel (y : Hydraulics) : Nat := (y.wanted.toList.filter id).length

/-- A level is usable when its quality is FRESH or HELD (R17). -/
def usableQuality : Quality → Bool
  | .fresh | .held => true
  | .stale | .failed => false

/-- The value of a level where it is usable (R17). -/
def usableLevel (r : LevelRecord) : Option Nat := if usableQuality r.quality then r.value else none

/-- The action of an alarm code in the active bank (R127). -/
def actionOf (s : State) (c : Code) : AlarmAction := (planOf s).alarmMap[c].action

/-- Whether an ACTIVE entry holds back starts: INHIBIT, or TRIP with no pump (R127). -/
def inhibits (s : State) (e : AlarmEntry) : Bool :=
  e.activeAt.isNone && (actionOf s e.code == .inhibit || (actionOf s e.code == .trip && e.pump.isNone))

/-- The inhibited flag of a house, counted from its alarm list (R127). -/
def inhibited (s : State) (h : House) : Bool := s.protection[h].alarms.any (inhibits s)

/-- The permits held, each with its pump, in ascending pump order (R90). -/
def permitsHeld (s : State) : List (Nat × Pump) :=
  allPumps.filterMap fun p => s.pumps[p].permit.map fun k => (k, p)

/-- The number of permits held (R90). -/
def permitCountHeld (s : State) : Nat := (permitsHeld s).length

/-- A house's main is settled when main-settled-at is absent or has been reached (R72). -/
def mainSettled (s : State) (h : House) : Bool :=
  s.houses[h].mainSettledAt.all fun t => decide (t ≤ now s)

/-- A house's main is free when it is settled and no pump of the house is in ORDERED or STOPPING (R72). -/
def mainFree (s : State) (h : House) : Bool :=
  mainSettled s h && (pumpsIn s h fun st => st == .ordered || st == .stopping).isEmpty

/-- Whether the order of a pump waits in the transmit queue (R45, R158). -/
def orderWaits (s : State) (p : Pump) : Bool :=
  s.bus.queue.any fun e => e.order.any fun o => o.pump == p

/-- Whether the order of a pump is in flight (R45). -/
def orderInFlight (s : State) (p : Pump) : Bool :=
  s.bus.flight.any fun f =>
    match f.request with
    | .order o _ => o.pump == p
    | .poll => false
    | .meterPoll => false

/-- The age of a number against the counter that gives it out (R93). An entry whose number the counter has come back to
is the oldest, with age 65536: the remainder alone would make it 0 and the youngest, against the rule's "Renumbering
keeps the order of the entries" (DEDUCED, log 22). -/
def seqAge (counter seq : Nat) : Nat := (counter + 65535 - seq) % 65536 + 1

/-! ### Record updates -/

/-- A pump's record changed. -/
def updPump (p : Pump) (f : PumpLive → PumpLive) (s : State) : State :=
  { s with pumps := s.pumps.set p (f s.pumps[p]) }

/-- A live house record changed. -/
def updHouse (h : House) (f : HouseLive → HouseLive) (s : State) : State :=
  { s with houses := s.houses.set h (f s.houses[h]) }

/-- A house's conditions, positions and degraded flag changed. -/
def updHydraulics (h : House) (f : Hydraulics → Hydraulics) (s : State) : State :=
  { s with hydraulics := s.hydraulics.set h (f s.hydraulics[h]) }

/-- A house's protection record changed. -/
def updProtection (h : House) (f : Protection → Protection) (s : State) : State :=
  { s with protection := s.protection.set h (f s.protection[h]) }

/-- A level record changed. -/
def updLevel (t : Tank) (f : LevelRecord → LevelRecord) (s : State) : State :=
  { s with levels := s.levels.set t (f s.levels[t]) }

/-- A station's live record changed. -/
def updStation (st : Station) (f : StationLive → StationLive) (s : State) : State :=
  { s with bus := { s.bus with stations := s.bus.stations.set st (f s.bus.stations[st]) } }

/-- What is kept of the meter unit changed. -/
def updMeterUnit (f : MeterUnit → MeterUnit) (s : State) : State :=
  { s with bus := { s.bus with meter := f s.bus.meter } }

/-- The meter record changed. -/
def updMeter (f : MeterRecord → MeterRecord) (s : State) : State :=
  { s with feeder := { s.feeder with meter := f s.feeder.meter } }

/-- A bank changed. -/
def updBank (k : BankId) (f : Bank → Bank) (s : State) : State :=
  match k with
  | .a => { s with banks := { s.banks with a := f s.banks.a } }
  | .b => { s with banks := { s.banks with b := f s.banks.b } }

/-- The link counters changed. -/
def updCounters (f : LinkCounters → LinkCounters) (s : State) : State :=
  { s with link := { s.link with counters := f s.link.counters } }

/-- One more, stopping at a limit (00, Arithmetic). -/
def satSucc (limit n : Nat) : Nat := min limit (n + 1)

/-! ### Handing on -/

/-- A notice for a house to the House Dispatcher (R62). -/
def notice (h : House) (s : State) : State :=
  { s with work := { s.work with notices := s.work.notices.set h true } }

/-- Notices for several houses. -/
def noticeAll (hs : List House) (s : State) : State := hs.foldl (fun s h => notice h s) s

/-- An admission pass is triggered (R96). An event that triggers a pass twice runs it twice. -/
def triggerPass (s : State) : State := { s with work := { s.work with passes := s.work.passes + 1 } }

/-- A shed test is called for (R101). -/
def callShedTest (s : State) : State := { s with work := { s.work with shedTest := true } }

/-! ### Events -/

/-- A network minute, absent while UNSET (R197). -/
def networkMinute (s : State) : Option Nat := s.time.net.map fun t => t.second / 60

/-- The limit of a 16-bit value (R197). -/
def sat16 (n : Nat) : Nat := min n 65535

/-- The record of an event raised now (R197). -/
def eventNow (kind : EventKind) (house : Option House) (pump : Option Pump) (tank : Option Tank) (value1 value2 : Nat)
    (s : State) : EventRecord :=
  { seq := s.eventQueue.nextSeq, uptime := now s, minute := networkMinute s, kind, house, pump, tank
    value1 := sat16 value1, value2 := sat16 value2 }

/-- A record enters the queue at the back, or, with 128 records there, is discarded with the overflow flag set. The next
sequence number steps either way (R199). -/
def enterEvent (r : EventRecord) (q : EventQueue) : EventQueue :=
  if q.records.length < 128 then
    { records := q.records ++ [r], overflow := q.overflow, nextSeq := (q.nextSeq + 1) % 65536 }
  else { records := q.records, overflow := true, nextSeq := (q.nextSeq + 1) % 65536 }

/-- An event is raised (R197, R199). -/
def raise (kind : EventKind) (house : Option House) (pump : Option Pump) (tank : Option Tank) (value1 value2 : Nat)
    (s : State) : State :=
  { s with eventQueue := enterEvent (eventNow kind house pump tank value1 value2 s) s.eventQueue }

/-- An event of a pump carries its pump and house indices (R59). -/
def raisePump (kind : EventKind) (p : Pump) (value1 value2 : Nat) (s : State) : State :=
  raise kind (some (houseOf p)) (some p) none value1 value2 s

/-- An event that carries a house index alone. -/
def raiseHouse (kind : EventKind) (h : House) (value1 value2 : Nat) (s : State) : State :=
  raise kind (some h) none none value1 value2 s

/-- An event with no index present. -/
def raisePart (kind : EventKind) (value1 value2 : Nat) (s : State) : State :=
  raise kind none none none value1 value2 s

/-- An event that carries a 32-bit label, high half then low half (R183). -/
def raiseLabel (kind : EventKind) (label : Nat) (s : State) : State :=
  raisePart kind (label / 65536) (label % 65536) s

/-! ### The committed sums -/

/-- The sum of the bookings of all pumps (R88). -/
def sumBookings (s : State) : Nat := (s.pumps.toList.map fun r => r.booking).sum

/-- The sum of the bookings of the pumps that are not in STOPPING (R88). -/
def sumForShed (s : State) : Nat :=
  (s.pumps.toList.map fun r => if r.state == .stopping then 0 else r.booking).sum

/-- The two sums recomputed: a fall in committed triggers an admission pass (R88), and a change of either sum calls for
the shed test (R101, R103). -/
def resum (s : State) : State :=
  let c := sumBookings s
  let f := sumForShed s
  { s with
    feeder := { s.feeder with committed := c, committedForShed := f }
    work := { s.work with
      passes := if c < s.feeder.committed then s.work.passes + 1 else s.work.passes
      shedTest := s.work.shedTest || c != s.feeder.committed || f != s.feeder.committedForShed } }

/-- The sums recomputed within an admission, where a fall in committed triggers no pass (R88, R96). -/
def resumQuietly (s : State) : State :=
  let c := sumBookings s
  let f := sumForShed s
  { s with
    feeder := { s.feeder with committed := c, committedForShed := f }
    work := { s.work with
      shedTest := s.work.shedTest || c != s.feeder.committed || f != s.feeder.committedForShed } }

/-- One RUNNING or STOPPING pump booked at a booking count, and the sums recomputed at that change (R87, R88). -/
def rebookPump (sums : State → State) (m : Nat) (s : State) (p : Pump) : State :=
  let st := s.pumps[p].state
  if st == .running || st == .stopping then sums (updPump p (fun r => { r with booking := drawB s p m }) s) else s

/-- Every RUNNING and STOPPING pump of a house re-booked at the house's current booking count (R87). The sums are
recomputed at every change of a booking (R88), with `resum`, or with `resumQuietly` within an admission. -/
def rebook (sums : State → State) (h : House) (s : State) : State :=
  (pumpsOf h).foldl (rebookPump sums (bookingCount s h)) s

/-- What follows a change of a pump's state: the sums are recomputed at the change itself, and again at each booking that
the re-booking of its house changes in the same event (R87, R88), and a notice for the house is handed on (R35). So each
booking that falls triggers an admission pass (R35), though others rise with it (log 12). -/
def pumpChanged (p : Pump) (s : State) : State := notice (houseOf p) (rebook resum (houseOf p) (resum s))

end Sys2Proof.Machine
end

