-- ==== Sys2Proof/Machine/LevelTracker.lean ====
section
/-! DEFINITION. The Level Tracker (chapter 2): level records, level updates, the three conditions of a house, duty
positions and the degraded flag. -/

namespace Sys2Proof.Machine

/-! ### Findings (R23 to R26) -/

/-- What a level update says of a condition (R23). `untrue` is false for an inactive condition and hold for an active
one; `clears` is false for an inactive condition as well. -/
inductive Finding where
  | rawTrue
  | untrue
  | clears
  | hold
  deriving DecidableEq, Repr

/-- SUCTION_LOW's finding (R24). -/
def suctionFinding (cutoff margin : Nat) (level : Option Nat) : Finding :=
  match level with
  | none => .rawTrue
  | some l => if l ≤ cutoff then .rawTrue else if cutoff + margin ≤ l then .clears else .untrue

/-- OVERFLOW's finding (R25). -/
def overflowFinding (overflow stop1 : Nat) (level : Option Nat) : Finding :=
  match level with
  | none => .hold
  | some l => if overflow ≤ l then .rawTrue else if l < stop1 then .clears else .untrue

/-- LOW_ALARM's finding (R26). -/
def lowAlarmFinding (alarm margin : Nat) (level : Option Nat) : Finding :=
  match level with
  | none => .hold
  | some l => if l ≤ alarm then .rawTrue else if alarm + margin < l then .clears else .untrue

/-- A condition record moved by a finding at an uptime (R23). -/
def moveCondition (uptime filter : Nat) (f : Finding) (c : ConditionRecord) : ConditionRecord :=
  match f with
  | .rawTrue =>
    if c.active || c.pending.isSome then c
    else if filter = 0 then { active := true, pending := none }
    else { active := false, pending := some { since := uptime, filter } }
  | .untrue => if c.active then c else { active := false, pending := none }
  | .clears => { active := false, pending := none }
  | .hold => c

/-! ### Duty positions (R27) -/

/-- A position's wanted flag after a usable level (R27). -/
def moveFlag (start stop level : Nat) (flag : Bool) : Bool :=
  if level ≤ start then true else if stop ≤ level then false else flag

/-- The wanted flags of a house of n positions after a level update of its delivery tank (R27). -/
def movePositions (tank : TankRecord) (n : Nat) (level : Option Nat) (flags : Vector Bool 4) : Vector Bool 4 :=
  match level with
  | none => Vector.replicate 4 false
  | some l =>
    Vector.ofFn fun i => decide (i.val < n) && moveFlag tank.start[i] tank.stop[i] l flags[i]

/-! ### Conditions of a house -/

/-- A condition of a house. -/
def conditionOf (y : Hydraulics) : Condition → ConditionRecord
  | .suctionLow => y.suctionLow
  | .overflow => y.overflow
  | .lowAlarm => y.lowAlarm

/-- A condition of a house replaced. -/
def putCondition (c : Condition) (r : ConditionRecord) (y : Hydraulics) : Hydraulics :=
  match c with
  | .suctionLow => { y with suctionLow := r }
  | .overflow => { y with overflow := r }
  | .lowAlarm => { y with lowAlarm := r }

/-- The tank of a condition in a plan: the suction tank for SUCTION_LOW, the delivery tank for the others (R24 to R26). -/
def conditionTank (pl : Plan) (h : House) : Condition → Option Tank
  | .suctionLow => pl.houses[h].suction
  | .overflow => some pl.houses[h].delivery
  | .lowAlarm => some pl.houses[h].delivery

/-- The value of a tank that CONDITION_ON and CONDITION_OFF carry (R33). -/
def shownLevel (s : State) (t : Option Tank) : Nat := (t.bind fun t => s.levels[t].value).getD 65535

/-- CONDITION_ON or CONDITION_OFF (R33). -/
def raiseCondition (kind : EventKind) (h : House) (t : Option Tank) (c : Condition) (value2 : Nat) (s : State) : State :=
  raise kind (some h) none t (conditionCode c) value2 s

/-- A finding applied to a condition of a house, with its event (R23). -/
def applyFinding (h : House) (c : Condition) (f : Finding) (s : State) : State :=
  let before := conditionOf s.hydraulics[h] c
  let after := moveCondition (now s) (planOf s).houses[h].levelFilter f before
  let tank := conditionTank (planOf s) h c
  let t := updHydraulics h (putCondition c after) s
  if after.active && !before.active then raiseCondition .conditionOn h tank c (shownLevel s tank) t
  else if before.active && !after.active then raiseCondition .conditionOff h tank c (shownLevel s tank) t
  else t

/-- What of a house's state the House Dispatcher is told of: the active flags, n_level and degraded (R29). -/
def handedOn (y : Hydraulics) : Bool × Bool × Bool × Nat × Bool :=
  (y.suctionLow.active, y.overflow.active, y.lowAlarm.active, nLevel y, y.degraded)

/-- A notice for a house whose state is no longer what it was (R29). -/
def noticeIfChanged (h : House) (before : Hydraulics) (s : State) : State :=
  if handedOn before = handedOn s.hydraulics[h] then s else notice h s

/-- A level update seen by a house whose suction tank it is (R22, R24). -/
def suctionUpdate (h : House) (t : Tank) (s : State) : State :=
  applyFinding h .suctionLow
    (suctionFinding (planOf s).tanks[t].cutoff (planOf s).header.suctionMargin (usableLevel s.levels[t])) s

/-- A level update seen by a house whose delivery tank it is (R22, R25 to R28). -/
def deliveryUpdate (h : House) (t : Tank) (s : State) : State :=
  let tank := (planOf s).tanks[t]
  let level := usableLevel s.levels[t]
  let n := (planOf s).houses[h].pumpCount
  applyFinding h .overflow (overflowFinding tank.overflow tank.stop[0] level) s |>
    applyFinding h .lowAlarm (lowAlarmFinding tank.lowAlarm (planOf s).header.lowAlarmMargin level) |>
    updHydraulics h fun y => { y with wanted := movePositions tank n level y.wanted, degraded := level.isNone }

/-- A level update seen by one house (R22), with its notice (R29): the suction tank's part first (DESIGN CHOICE,
log 48). -/
def updateHouseLevels (t : Tank) (s : State) (h : House) : State :=
  let r := (planOf s).houses[h]
  let a := if r.suction == some t then suctionUpdate h t s else s
  let b := if r.delivery == t then deliveryUpdate h t a else a
  noticeIfChanged h s.hydraulics[h] b

/-- A level update for a tank: every in-use house that names it (R22). R22 orders the houses nowhere; the model takes them
in ascending index (DESIGN CHOICE, log 48). -/
def levelUpdate (t : Tank) (s : State) : State := (planOf s).housesInUse.foldl (updateHouseLevels t) s

/-! ### Level records (R18 to R21) -/

/-- A tank channel entry of a REPORT (R150). -/
structure ChannelEntry where
  channel : Nat
  failed : Bool
  level : Nat
  deriving DecidableEq, Repr

/-- An entry with status OK (R18). -/
def acceptLevel (t : Tank) (level : Nat) (s : State) : State :=
  let height := (planOf s).tanks[t].height
  let clamped := decide (height < level)
  let a := updLevel t
    (fun _ => { value := some (min level height), quality := .fresh, lastGood := some (now s)
                staleAt := some (now s + (planOf s).header.levelHold), clampEpisode := clamped }) s
  if clamped && !s.levels[t].clampEpisode then raise .levelClamped none none (some t) level height a else a

/-- An entry with status FAILED (R19). -/
def failLevel (t : Tank) (s : State) : State :=
  if s.levels[t].quality == .failed then s
  else
    updLevel t (fun r => { r with quality := .failed }) s |>
      raise .levelFailed none none (some t) (stationAddress (planOf s).tanks[t].station)
        (planOf s).tanks[t].channel.val

/-- The entry of a REPORT that applies to a tank: the last one for its channel (R18). -/
def entryFor (s : State) (entries : List ChannelEntry) (t : Tank) : Option ChannelEntry :=
  (entries.filter fun e => e.channel == (planOf s).tanks[t].channel.val).getLast?

/-- The in-use tanks that a station reports, in ascending index. -/
def tanksOf (s : State) (st : Station) : List Tank :=
  allTanks.filter fun t => (planOf s).tanks[t].inUse && (planOf s).tanks[t].station == st

/-- One tank's entry applied to its level record. -/
def applyEntry (entries : List ChannelEntry) (s : State) (t : Tank) : State :=
  match entryFor s entries t with
  | none => s
  | some e => if e.failed then failLevel t s else acceptLevel t e.level s

/-- Whether a REPORT's entries make a level update for a tank: an OK entry does, a FAILED one if the quality was not
FAILED already (R22). -/
def touches (s : State) (entries : List ChannelEntry) (t : Tank) : Bool :=
  match entryFor s entries t with
  | none => false
  | some e => !e.failed || s.levels[t].quality != .failed

/-- The tank entries of a good REPORT: all records first, then one level update for each tank touched, both in ascending
tank index (R18, R22, log 40; DESIGN CHOICE, log 55). -/
def applyLevels (st : Station) (entries : List ChannelEntry) (s : State) : State :=
  let touched := (tanksOf s st).filter (touches s entries)
  touched.foldl (fun s t => levelUpdate t s) ((tanksOf s st).foldl (applyEntry entries) s)

/-- A tank held while its station is SILENT (R20). -/
def holdLevel (s : State) (t : Tank) : State :=
  if s.levels[t].quality == .fresh then updLevel t (fun r => { r with quality := .held }) s |> levelUpdate t else s

/-- The tanks of a station that becomes SILENT (R20). -/
def silenceLevels (st : Station) (s : State) : State := (tanksOf s st).foldl holdLevel s

/-- A level's hold interval runs out (R21). -/
def levelBecomesStale (t : Tank) (s : State) : State :=
  let r := s.levels[t]
  updLevel t (fun r => { r with quality := .stale, staleAt := none }) s |>
    raise .levelStale none none (some t) (r.value.getD 65535) ((r.lastGood.map fun g => now s - g).getD 65535) |>
    levelUpdate t

/-! ### The filter's expiry (R23) -/

/-- A pending condition becomes active (R23). -/
def conditionActivates (h : House) (c : Condition) (s : State) : State :=
  let tank := conditionTank (planOf s) h c
  updHydraulics h (putCondition c { active := true, pending := none }) s |>
    raiseCondition .conditionOn h tank c (shownLevel s tank) |> notice h

/-! ### Restart (R17, R30) -/

/-- A house's starting state, with the initial update of its suction tank: SUCTION_LOW begins pending, or is active at
once with a filter of 0. No event is raised (R30, log 24). -/
def startHydraulics (s : State) (h : House) : State :=
  let r := (planOf s).houses[h]
  let low := if r.suction.isSome then moveCondition (now s) r.levelFilter .rawTrue blankCondition else blankCondition
  updHydraulics h (fun _ => { blankHydraulics with suctionLow := low }) s

end Sys2Proof.Machine
end

