-- ==== Sys2Proof/Machine/Transmit.lean ====
section
/-! DEFINITION. The transmit queue: the start of the next transaction (R146, R147, R152, R201), joining, polls, orders and
withdrawals (R157, R158, R159). -/

namespace Sys2Proof.Machine

/-! ### The next transaction (R146) -/

/-- The age of a queued entry against the arrival counter (R157). -/
def arrivalAge (s : State) (e : TxEntry) : Nat := seqAge s.bus.nextArrival e.arrival

/-- A unit's bus address (R147). -/
def unitAddress : BusUnit → Nat
  | .station st => stationAddress st
  | .meter => 15

/-- The kind byte of a request (R147). -/
def requestKind : Request → Nat
  | .poll => 1
  | .order _ _ => 3
  | .meterPoll => 5

/-- The kind byte of the reply that belongs to a request (R147). -/
def replyKind : Request → Nat
  | .poll => 2
  | .order _ _ => 4
  | .meterPoll => 6

/-- The command byte of an ORDER (R152). -/
def orderCode : OrderKind → Nat
  | .start => 1
  | .stop => 2

/-- The body of a request (R147, R152). -/
def requestBody : Request → List Byte
  | .poll => []
  | .meterPoll => []
  | .order o tag => toBytes 1 (positionOf o.pump) ++ toBytes 1 (orderCode o.command) ++ toBytes 1 tag

/-- A station bus frame: address, kind, body length, body, CRC over all of them (R147). -/
def busFrame (address kind : Nat) (body : List Byte) : List Byte :=
  let span := toBytes 1 address ++ toBytes 1 kind ++ toBytes 1 body.length ++ body
  span ++ crcBytes span

/-- The entry of oldest arrival number among those of a class (R157). -/
def oldestOf (s : State) (cls : TxClass) : Option TxEntry :=
  s.bus.queue.foldl
    (fun best e =>
      if e.cls == cls then
        match best with
        | none => some e
        | some d => if arrivalAge s d < arrivalAge s e then some e else some d
      else best)
    none

/-- The entry that goes next: the oldest arrival number in the highest class present (R157). -/
def nextEntry (s : State) : Option TxEntry :=
  oldestOf s .order <|> oldestOf s .urgent <|> oldestOf s .routine

/-- The request an entry makes: an ORDER takes its station's next tag at sending (R152). -/
def requestOf (s : State) (e : TxEntry) : Request :=
  match e.order, e.unit with
  | some o, .station st => .order o (s.bus.stations[st].nextTag)
  | some o, .meter => .order o 0
  | none, .station _ => .poll
  | none, .meter => .meterPoll

/-- The station's next-tag counter steps when an ORDER is sent, wrapping from 255 to 0 (R152). -/
def stepTag (e : TxEntry) (s : State) : State :=
  match e.order, e.unit with
  | some _, .station st => updStation st (fun r => { r with nextTag := (r.nextTag + 1) % 256 }) s
  | some _, .meter => s
  | none, .station _ => s
  | none, .meter => s

/-- The sending of an entry begins: it leaves the queue and the bus becomes IN_FLIGHT (R146). -/
def send (e : TxEntry) (s : State) : State :=
  let request := requestOf s e
  let s := stepTag e s
  { s with bus := { s.bus with
      queue := s.bus.queue.filter fun d => d != e
      flight := some
        { unit := e.unit, request, timeout := (planOf s).header.replyTimeout
          frame := busFrame (unitAddress e.unit) (requestKind request) (requestBody request)
          sentAt := none, partialReply := [], discarded := false } } }

/-- When the bus is IDLE and the queue holds an entry, the next transaction begins at once (R146); while the part is
UNPLANNED the bus stays IDLE. -/
def startTransaction (s : State) : State :=
  if planned s && s.bus.flight.isNone then
    match nextEntry s with
    | none => s
    | some e => send e s
  else s

/-! ### Joining (R157) -/

/-- The queued entries renumbered in order of age, the youngest taking the counter's value less one (R93, R157). -/
def renumberArrivals (s : State) : List TxEntry :=
  s.bus.queue.map fun e =>
    let rank := (s.bus.queue.filter fun d => decide (arrivalAge s d ≤ arrivalAge s e)).length
    { e with arrival := (s.bus.nextArrival + 65536 - rank) % 65536 }

/-- The queue as it stands before a join gives out a number: renumbered if a queued entry holds that number (R157). -/
def queueBeforeJoin (s : State) : List TxEntry :=
  if s.bus.queue.any fun e => e.arrival == s.bus.nextArrival then renumberArrivals s else s.bus.queue

/-- An entry put at the back of the queue, with the next arrival number (R157). -/
def enqueue (unit : BusUnit) (cls : TxClass) (order : Option Order) (s : State) : State :=
  { s with bus := { s.bus with
      queue := queueBeforeJoin s ++ [{ unit, cls, order, arrival := s.bus.nextArrival }]
      nextArrival := (s.bus.nextArrival + 1) % 65536 } }

/-- An entry joins the back of its class (R157, R158, R159). On an IDLE bus it starts a transaction when it joins (R146);
in an event that has ended a transaction the bus goes on when the event's work is done (log 45). -/
def joinTransmit (unit : BusUnit) (cls : TxClass) (order : Option Order) (s : State) : State :=
  let t := enqueue unit cls order s
  if s.work.busEnded then t else startTransaction t

/-- An order for a pump joins the ORDER class (R158). -/
def joinOrder (p : Pump) (command : OrderKind) (s : State) : State :=
  joinTransmit (.station (stationOf s (houseOf p))) .order (some { pump := p, command }) s

/-- Whether a queued entry is the poll of a unit. -/
def isPollOf (unit : BusUnit) (e : TxEntry) : Bool := e.unit == unit && e.order.isNone

/-- The queued poll of a unit, if any: there is at most one (R157). -/
def queuedPoll (s : State) (unit : BusUnit) : Option TxEntry := s.bus.queue.find? (isPollOf unit)

/-- A ROUTINE poll requested (R159). -/
def requestRoutine (unit : BusUnit) (s : State) : State :=
  match queuedPoll s unit with
  | some _ => s
  | none => joinTransmit unit .routine none s

/-- An URGENT poll requested: a queued ROUTINE poll is upgraded in place and keeps its arrival number (R159). -/
def requestUrgent (unit : BusUnit) (s : State) : State :=
  match queuedPoll s unit with
  | some _ =>
    { s with bus := { s.bus with
        queue := s.bus.queue.map fun e => if isPollOf unit e then { e with cls := .urgent } else e } }
  | none => joinTransmit unit .urgent none s

/-- The Pump Table withdraws a pump's waiting order: the entry leaves the queue unsent (R158). -/
def withdrawOrder (p : Pump) (s : State) : State :=
  { s with bus := { s.bus with queue := s.bus.queue.filter fun e => !(e.order.any fun o => o.pump == p) } }

/-- A unit's queued poll leaves the queue (R164). -/
def dropPoll (unit : BusUnit) (s : State) : State :=
  { s with bus := { s.bus with queue := s.bus.queue.filter fun e => !isPollOf unit e } }

/-- The order-busy flag: an order for one of the station's pumps is queued or in flight (R158). -/
def orderBusy (s : State) (st : Station) : Bool :=
  (s.bus.queue.any fun e => e.unit == .station st && e.order.isSome) ||
  (s.bus.flight.any fun f => f.unit == .station st &&
    match f.request with
    | .order _ _ => true
    | .poll => false
    | .meterPoll => false)

end Sys2Proof.Machine
end

