-- ==== Sys2Proof/Machine/PumpTable.lean ====
section
/-! DEFINITION. The Pump Table (chapter 3): what each event does to one pump. Every operation that changes a pump's
state ends in `pumpChanged`, which re-books the house, recomputes the sums and hands a notice on (R35, R87). -/

namespace Sys2Proof.Machine

/-! ### Parts of a transition -/

/-- The active bank's record of a pump. -/
def pumpPlan (s : State) (p : Pump) : PumpRecord := (planOf s).pumps[p]

/-- A pump's entry leaves the Start Queue (R94). -/
def leaveStartQueue (p : Pump) (s : State) : State :=
  { s with feeder := { s.feeder with queue := s.feeder.queue.filter fun e => e.pump != p } }

/-- A permit the pump holds is released, which triggers an admission pass; permit release becomes absent (R43, R91). -/
def releasePermit (p : Pump) (s : State) : State :=
  let t := updPump p (fun r => { r with permit := none, permitRelease := none }) s
  if s.pumps[p].permit.isSome then triggerPass t else t

/-- A pump leaves its house's duty list; the order of the others is kept (R56). -/
def leaveDuty (p : Pump) (s : State) : State :=
  updHouse (houseOf p) (fun r => { r with dutyList := r.dutyList.filter fun q => q != p }) s

/-- A pump joins the back of its house's duty list; a pump already in it keeps its place (R56). -/
def joinDuty (p : Pump) (s : State) : State :=
  updHouse (houseOf p)
    (fun r => { r with dutyList := if r.dutyList.contains p then r.dutyList else r.dutyList ++ [p] }) s

/-- What happens together when a pump enters LOCAL, FAULTED or ISOLATED (R35). -/
def takeOut (p : Pump) (st : PumpState) (s : State) : State :=
  s |> leaveStartQueue p |> releasePermit p |> leaveDuty p |>
    updPump p fun r =>
      { r with state := st, fault := none, booking := 0, admittedM := none, windowEnd := none, minRunUntil := none,
               minOffUntil := none, timedOut := none, stopCause := none }

/-- A pump enters ISOLATED: its pending flags go (R53, R54). -/
def enterIsolated (p : Pump) (s : State) : State :=
  takeOut p .isolated s |>
    updPump p fun r => { r with isolatePending := false, protectPending := false, faultPending := none }

/-- An isolate-pending pump that has entered a stopped state becomes ISOLATED (R53). -/
def actIsolate (p : Pump) (s : State) : State := if s.pumps[p].isolatePending then enterIsolated p s else s

/-- A pump enters LOCAL, and its pending flags are acted on (R53). -/
def enterLocal (p : Pump) (s : State) : State :=
  takeOut p .localControl s |> updPump p (fun r => { r with faultPending := none }) |> actIsolate p

/-- A pump enters FAULTED with a cause: PUMP_FAULT, and its pending flags are acted on (R52, R53). -/
def enterFaulted (p : Pump) (cause : FaultCause) (s : State) : State :=
  takeOut p .faulted s |> updPump p (fun r => { r with fault := some cause, faultPending := none }) |>
    raisePump .pumpFault p (faultCode cause) (faultAlarm cause) |> actIsolate p

/-- Entering REST or READY: fault-pending, then isolate-pending, are acted on (R53). -/
def actStopped (p : Pump) (s : State) : State :=
  match s.pumps[p].faultPending with
  | some cause => enterFaulted p cause s
  | none => actIsolate p s

/-- A pump enters REST at the end of a run: it stopped now (R38). Start time, admitted start and min-run-until are cleared
on every such move, as R46 and R50 say (DEDUCED for R51, log 15). -/
def enterRest (p : Pump) (s : State) : State :=
  let stopped := now s
  releasePermit p s |> updPump p fun r =>
    { r with state := .rest, fault := none, booking := 0, admittedM := none, startTime := none, admittedStart := false,
             windowEnd := none, minRunUntil := none, lastStop := some stopped,
             minOffUntil := some (stopped + (pumpPlan s p).minOff), timedOut := none, stopCause := none }

/-- With a min off of 0 a pump in REST passes to READY at the uptime of the stop (R38). -/
def passRest (p : Pump) (s : State) : State :=
  let r := s.pumps[p]
  if r.state == .rest && (r.minOffUntil.all fun t => decide (t ≤ now s)) then
    updPump p (fun r => { r with state := .ready, minOffUntil := none }) s
  else s

/-- The end of a move to REST: the pending flags, the pass to READY, and the re-booking (R38, R53). -/
def settleRest (p : Pump) (s : State) : State := s |> actStopped p |> passRest p |> pumpChanged p

/-- An admission undone (R42). -/
def undoAdmission (p : Pump) (s : State) : State :=
  releasePermit p s |> updPump p fun r =>
    { r with booking := 0, history := r.history.dropLast, admittedM := none, windowEnd := none, startTime := none,
             admittedStart := false }

/-! ### Stops (R45 to R48) -/

/-- A RUNNING or STARTING pump goes to STOPPING and its stop order joins the queue (R45). A STARTING pump releases its
permit; the booking becomes B at the house's m. -/
def beginStop (cause : StopCause) (p : Pump) (s : State) : State :=
  s |> releasePermit p |>
    updPump p (fun r =>
      { r with state := .stopping, windowEnd := none, stopCause := some cause,
               isolatePending := r.isolatePending || cause == .isolate }) |>
    joinOrder p .stop |> pumpChanged p |> raisePump .stopIssued p (stopCauseCode cause) 0

/-- An ORDERED pump whose order still waits has it withdrawn and its admission undone, and goes to READY (R45). -/
def withdrawStart (p : Pump) (s : State) : State := s |> withdrawOrder p |> undoAdmission p

/-- A PROTECT stop of an ORDERED pump (R45). -/
def protectOrdered (p : Pump) (s : State) : State :=
  if orderInFlight s p then updPump p (fun r => { r with protectPending := true }) s
  else
    s |> withdrawStart p |> updPump p (fun r => { r with state := .ready, stopCause := none }) |>
      raisePump .stopIssued p (stopCauseCode .protect) 1 |> actStopped p |> pumpChanged p

/-- A stop with a cause, taken according to the pump's state (R45). -/
def issueStop (cause : StopCause) (p : Pump) (s : State) : State :=
  match s.pumps[p].state with
  | .running => beginStop cause p s
  | .starting => beginStop cause p s
  | .ordered => if cause == .protect then protectOrdered p s else s
  | .unconfirmed => if cause == .protect then updPump p (fun r => { r with protectPending := true }) s else s
  | .stopping => if cause == .protect then updPump p (fun r => { r with stopCause := some .protect }) s else s
  | .unused => s
  | .rest => s
  | .ready => s
  | .queued => s
  | .localControl => s
  | .faulted => s
  | .isolated => s

/-- Entering STARTING or RUNNING: protect-pending or fault-pending brings a PROTECT stop at once (R53). -/
def actStarted (p : Pump) (s : State) : State :=
  let r := s.pumps[p]
  if r.protectPending || r.faultPending.isSome then
    updPump p (fun r => { r with protectPending := false }) s |> issueStop .protect p
  else s

/-- The cause code of a stop in progress. -/
def stopCauseOf (s : State) (p : Pump) : Nat := ((s.pumps[p].stopCause).map stopCauseCode).getD 0

/-- An ACCEPTED reply to a stop order (R46). The end of a stop calls for the shed test (R103). -/
def stopAccepted (p : Pump) (s : State) : State :=
  enterRest p s |> raisePump .stopped p (stopCauseOf s p) 0 |> settleRest p |> callShedTest

/-- The reasons of a refused order, in the order of their codes 1 to 4 (R152). -/
inductive RefuseReason where
  | localControl
  | tripped
  | interlocked
  | unknownPump
  deriving DecidableEq, Repr

/-- A refusal reason's code (R59, R152). -/
def refuseCode : RefuseReason → Nat
  | .localControl => 1
  | .tripped => 2
  | .interlocked => 3
  | .unknownPump => 4

/-- A pump becomes UNCONFIRMED after a stop order that did not settle it; its booking is held (R47, R48). -/
def stopUnresolved (p : Pump) (s : State) : State :=
  updPump p (fun r => { r with state := .unconfirmed, timedOut := some .stop }) s

/-- The station of a pump is asked for an urgent poll (R43, R47, R48). -/
def urgentPollOf (p : Pump) (s : State) : State := requestUrgent (.station (stationOf s (houseOf p))) s

/-- A REFUSED reply to a stop order (R47). The interlock is the Protection Unit's (R142, R153). The end of the stop calls
for the shed test (R103). -/
def stopRefused (reason : RefuseReason) (p : Pump) (s : State) : State :=
  let t := raisePump .stopped p (stopCauseOf s p) (refuseCode reason) (callShedTest s)
  match reason with
  | .localControl => enterLocal p t |> pumpChanged p
  | .tripped => enterFaulted p .refusedTripped t |> pumpChanged p
  | .interlocked => stopUnresolved p t |> pumpChanged p |> urgentPollOf p
  | .unknownPump => enterFaulted p .unknownPump t |> pumpChanged p

/-- A stop order that ends in a failed transaction (R48), and so the shed test that follows it (R103). -/
def stopTimedOut (p : Pump) (s : State) : State :=
  stopUnresolved p s |> pumpChanged p |> raisePump .orderTimeout p (orderKindCode .stop) s.pumps[p].booking |>
    callShedTest |> urgentPollOf p

/-! ### Starts (R40 to R44) -/

/-- A QUEUED pump goes back to READY and leaves the Start Queue (R40, R94). -/
def unqueue (p : Pump) (s : State) : State :=
  if s.pumps[p].state == .queued then
    s |> leaveStartQueue p |> updPump p (fun r => { r with state := .ready, admittedM := none, stopCause := none }) |>
      actStopped p |> pumpChanged p
  else s

/-- An ACCEPTED reply to a start order (R41). -/
def startAccepted (p : Pump) (s : State) : State :=
  let window := (pumpPlan s p).startWindow
  updPump p (fun r => { r with state := .starting, windowEnd := some (now s + window) }) s |> pumpChanged p |>
    raisePump .startAccepted p (s.pumps[p].permit.getD 65535) window |> actStarted p

/-- A REFUSED reply to a start order: the admission is undone and the pump takes the state its reason calls for (R42).
START_REFUSED carries that state, also where isolate-pending then makes the pump ISOLATED (log 14, log 21). -/
def startRefused (reason : RefuseReason) (p : Pump) (s : State) : State :=
  let t := undoAdmission p s
  match reason with
  | .localControl =>
    enterLocal p t |> pumpChanged p |>
      raisePump .startRefused p (refuseCode reason) (pumpStateCode .localControl)
  | .tripped =>
    enterFaulted p .refusedTripped t |> pumpChanged p |>
      raisePump .startRefused p (refuseCode reason) (pumpStateCode .faulted)
  | .interlocked =>
    enterFaulted p .refusedTripped t |> pumpChanged p |>
      raisePump .startRefused p (refuseCode reason) (pumpStateCode .faulted)
  | .unknownPump =>
    enterFaulted p .unknownPump t |> pumpChanged p |>
      raisePump .startRefused p (refuseCode reason) (pumpStateCode .faulted)

/-- A start order that ends in a failed transaction (R43). -/
def startTimedOut (p : Pump) (s : State) : State :=
  updPump p
      (fun r => { r with state := .unconfirmed, timedOut := some .start,
                         permitRelease := some (now s + (pumpPlan s p).startWindow) }) s |>
    pumpChanged p |> raisePump .orderTimeout p (orderKindCode .start) s.pumps[p].booking |> urgentPollOf p

/-- A min-run-until that has not passed (R44, R50). One that already lies in the past is absent (DEDUCED, log 16). -/
def stillToCome (s : State) (t : Nat) : Option Nat := if now s < t then some t else none

/-- Start time plus the min run of the active bank, if still to come (R39). -/
def minRunOf (s : State) (p : Pump) : Option Nat :=
  stillToCome s ((s.pumps[p].startTime).getD 0 + (pumpPlan s p).minRun)

/-- The end of the start window: STARTING goes to RUNNING (R44). -/
def windowEnded (p : Pump) (s : State) : State :=
  let t := releasePermit p s |>
    updPump p (fun r => { r with state := .running, windowEnd := none, reachedRunning := true,
                                 minRunUntil := minRunOf s p }) |> pumpChanged p
  raisePump .run p ((t.pumps[p].admittedM).getD 0) t.pumps[p].booking t |> actStarted p

/-! ### Reports (R49 to R51) -/

/-- The silence of a pump's station: RUNNING and STARTING go to UNCONFIRMED with the booking held (R49). -/
def silencePump (s : State) (p : Pump) : State :=
  let st := s.pumps[p].state
  if st == .running || st == .starting then
    s |> releasePermit p |>
      updPump p (fun r => { r with state := .unconfirmed, windowEnd := none, timedOut := none }) |> pumpChanged p
  else s

/-- The fields of a pump adopted RUNNING from a report at an uptime (R39, R51). -/
def adoptedFields (startTime : Nat) (r : PumpLive) : PumpLive :=
  { r with state := .running, fault := none, startTime := some startTime, admittedStart := false,
           reachedRunning := true, windowEnd := none, minRunUntil := none, minOffUntil := none, timedOut := none,
           stopCause := none }

/-- A pump adopted: RUNNING from the report, with UNEXPECTED_RUN, which names the state at the report (R51). -/
def adopt (p : Pump) (before : PumpState) (s : State) : State :=
  let t := leaveStartQueue p s |> updPump p (adoptedFields (now s)) |> pumpChanged p
  raisePump .unexpectedRun p (pumpStateCode before) t.pumps[p].booking t |> actStarted p

/-- A pump faulted by a report of TRIP or by a failed start (R51, R52). -/
def faultFromReport (p : Pump) (cause : FaultCause) (s : State) : State := enterFaulted p cause s |> pumpChanged p

/-- A pump sent to LOCAL by a report (R51). -/
def localFromReport (p : Pump) (s : State) : State := enterLocal p s |> pumpChanged p

/-- A FAULTED or ISOLATED pump reported RUN: UNEXPECTED_RUN if it was not reported RUN before (R51). -/
def noteRunning (p : Pump) (before : PumpState) (s : State) : State :=
  if s.pumps[p].lastReported == some .run then s
  else raisePump .unexpectedRun p (pumpStateCode before) 0 s

/-- The record of a pump resolved RUN (R50). -/
def resolvedRunning (s : State) (p : Pump) (r : PumpLive) : PumpLive :=
  if r.admittedStart then
    { r with state := .running, timedOut := none, stopCause := none, reachedRunning := true,
             minRunUntil := match r.minRunUntil with
               | some t => some t
               | none => if r.reachedRunning then none else minRunOf s p }
  else adoptedFields (now s) r

/-- An UNCONFIRMED pump resolved by a report (R50). -/
def resolve (p : Pump) (rep : Reported) (s : State) : State :=
  match rep with
  | .run =>
    releasePermit p s |> updPump p (resolvedRunning s p) |> pumpChanged p |>
      raisePump .resolved p (reportedCode .run) (pumpStateCode .running) |> actStarted p
  | .stop =>
    enterRest p s |> raisePump .resolved p (reportedCode .stop) (pumpStateCode .rest) |> settleRest p
  | .trip =>
    faultFromReport p .stationTrip s |> raisePump .resolved p (reportedCode .trip) (pumpStateCode .faulted)
  | .localControl =>
    localFromReport p s |> raisePump .resolved p (reportedCode .localControl) (pumpStateCode .localControl)

/-- A report of a READY, REST or QUEUED pump (R51). -/
def reportStopped (p : Pump) (rep : Reported) (s : State) : State :=
  match rep with
  | .run => adopt p s.pumps[p].state s
  | .stop => s
  | .trip => faultFromReport p .stationTrip s
  | .localControl => localFromReport p s

/-- A report of an ORDERED pump whose order waits (R51). -/
def reportOrdered (p : Pump) (rep : Reported) (s : State) : State :=
  match rep with
  | .run => withdrawStart p s |> adopt p .ordered
  | .stop => s
  | .trip => withdrawStart p s |> faultFromReport p .stationTrip
  | .localControl => withdrawStart p s |> localFromReport p

/-- A report of a STARTING pump (R51). -/
def reportStarting (p : Pump) (rep : Reported) (s : State) : State :=
  match rep with
  | .run => s
  | .stop => faultFromReport p .startFailed s
  | .trip => faultFromReport p .stationTrip s
  | .localControl => localFromReport p s

/-- The seconds since a pump's start time, the limit where it is absent. -/
def sinceStart (s : State) (p : Pump) : Nat := ((s.pumps[p].startTime).map fun t => now s - t).getD 65535

/-- A report of a RUNNING pump (R51). -/
def reportRunning (p : Pump) (rep : Reported) (s : State) : State :=
  match rep with
  | .run => s
  | .stop =>
    enterRest p s |> raisePump .unexpectedStop p (pumpStateCode .running) (sinceStart s p) |> settleRest p
  | .trip => faultFromReport p .stationTrip s
  | .localControl => localFromReport p s

/-- A stop that a report ends before its order was sent: the order is withdrawn (R51), and the end of the stop calls for
the shed test (R103). -/
def withdrawStop (p : Pump) (s : State) : State := withdrawOrder p s |> callShedTest

/-- A report of a STOPPING pump whose order waits (R51). -/
def reportStopping (p : Pump) (rep : Reported) (s : State) : State :=
  match rep with
  | .run => s
  | .stop =>
    withdrawStop p s |> enterRest p |> raisePump .stopped p (stopCauseOf s p) 5 |> settleRest p
  | .trip => withdrawStop p s |> faultFromReport p .stationTrip
  | .localControl => withdrawStop p s |> localFromReport p

/-- A report of a LOCAL pump (R51). -/
def reportLocal (p : Pump) (rep : Reported) (s : State) : State :=
  match rep with
  | .run =>
    joinDuty p s |> updPump p (adoptedFields (now s)) |> pumpChanged p |>
      raisePump .resolved p (reportedCode .run) (pumpStateCode .running) |> actStarted p
  | .stop =>
    joinDuty p s |> enterRest p |> raisePump .resolved p (reportedCode .stop) (pumpStateCode .rest) |> settleRest p
  | .trip => faultFromReport p .stationTrip s
  | .localControl => s

/-- A report of a FAULTED pump (R51). -/
def reportFaulted (p : Pump) (rep : Reported) (s : State) : State :=
  match rep with
  | .run => noteRunning p .faulted s
  | .stop => s
  | .trip => s
  | .localControl =>
    localFromReport p s |> raisePump .resolved p (reportedCode .localControl) (pumpStateCode .localControl)

/-- A report of an ISOLATED pump (R51). -/
def reportIsolated (p : Pump) (rep : Reported) (s : State) : State :=
  match rep with
  | .run => noteRunning p .isolated s
  | .stop => s
  | .trip => s
  | .localControl => s

/-- A reported state reconciled with the pump's state, outside the survey (R50, R51). -/
def reconcile (p : Pump) (rep : Reported) (s : State) : State :=
  match s.pumps[p].state with
  | .unused => s
  | .rest => reportStopped p rep s
  | .ready => reportStopped p rep s
  | .queued => reportStopped p rep s
  | .ordered => reportOrdered p rep s
  | .starting => reportStarting p rep s
  | .running => reportRunning p rep s
  | .stopping => reportStopping p rep s
  | .unconfirmed => resolve p rep s
  | .localControl => reportLocal p rep s
  | .faulted => reportFaulted p rep s
  | .isolated => reportIsolated p rep s

/-- Last reported and last reported at of a pump that a REPORT names (R36, R51). -/
def setReported (s : State) (pr : Pump × Reported) : State :=
  let at_ := now s
  updPump pr.1 (fun r => { r with lastReported := some pr.2, lastReportedAt := some at_ }) s

/-- The pump entries of a good REPORT of the station that serves a house (R51). Entries at or above the pump count are
ignored; while the survey runs only last reported and last reported at are set (R36, R80). R51 orders the pumps nowhere:
they are taken in ascending position (DESIGN CHOICE, log 55). -/
def applyPumpEntries (h : House) (entries : List Reported) (s : State) : State :=
  let n := (planOf s).houses[h].pumpCount
  let named := ((pumpsOf h).take n).zip entries
  let t := if s.survey.running then s else named.foldl (fun s pr => reconcile pr.1 pr.2 s) s
  named.foldl setReported t

/-! ### A TRIP alarm (R52) -/

/-- The activation of a TRIP alarm that names a pump (R52, R132). A later activation replaces a fault-pending that still
waits (log 19). -/
def tripActivated (p : Pump) (code : Code) (s : State) : State :=
  let cause := FaultCause.tripAlarm code
  let pend := updPump p (fun r => { r with faultPending := some cause }) s
  match s.pumps[p].state with
  | .rest => faultFromReport p cause s
  | .ready => faultFromReport p cause s
  | .queued => faultFromReport p cause s
  | .localControl => faultFromReport p cause s
  | .ordered =>
    if orderInFlight s p then updPump p (fun r => { r with protectPending := true }) pend
    else withdrawStart p s |> faultFromReport p cause
  | .running => issueStop .protect p pend
  | .starting => issueStop .protect p pend
  | .stopping => pend
  | .unconfirmed => updPump p (fun r => { r with protectPending := true }) pend
  | .unused => s
  | .faulted => s
  | .isolated => s

/-! ### Host requests (R54, R55) -/

/-- PUMP_ISOLATE acting on the pump's state (R54). -/
def isolatePump (p : Pump) (s : State) : State :=
  let pend := updPump p (fun r => { r with isolatePending := true }) s
  match s.pumps[p].state with
  | .ready => enterIsolated p s |> pumpChanged p
  | .rest => enterIsolated p s |> pumpChanged p
  | .faulted => enterIsolated p s |> pumpChanged p
  | .localControl => enterIsolated p s |> pumpChanged p
  | .queued => enterIsolated p s |> pumpChanged p
  | .running => notice (houseOf p) pend
  | .starting => notice (houseOf p) pend
  | .ordered => notice (houseOf p) pend
  | .stopping => notice (houseOf p) pend
  | .unconfirmed => notice (houseOf p) pend
  | .isolated => notice (houseOf p) s
  | .unused => s

/-- The min off test: REST if last stop plus min off is still to come, otherwise READY; the pump joins the back of its
house's duty list (R55). Start time and admitted start of the run before are kept (DESIGN CHOICE, log 20). -/
def returnByMinOff (p : Pump) (s : State) : State :=
  let due := s.pumps[p].lastStop.bind fun t => stillToCome s (t + (pumpPlan s p).minOff)
  updPump p
      (fun r => { r with state := if due.isSome then .rest else .ready, fault := none, minOffUntil := due,
                         admittedM := none, stopCause := none }) s |>
    joinDuty p |> actStopped p |> pumpChanged p

/-- PUMP_RESTORE (R55). -/
def restorePump (p : Pump) (s : State) : State :=
  let r := s.pumps[p]
  if r.state == .isolated then returnByMinOff p s
  else if r.isolatePending then updPump p (fun r => { r with isolatePending := false }) s
  else s

/-- PUMP_CLEAR of a FAULTED pump, with PUMP_CLEARED (R55). -/
def clearPumpFault (p : Pump) (cause : FaultCause) (s : State) : State :=
  let t := returnByMinOff p s
  raisePump .pumpCleared p (faultCode cause) (pumpStateCode t.pumps[p].state) t

/-! ### The survey's adoption (R82) -/

/-- A surveyed pump adopted from its last reported field (R82 step 1). -/
def adoptSurveyed (p : Pump) (rep : Reported) (s : State) : State :=
  let r := s.pumps[p]
  match rep with
  | .run =>
    updPump p (adoptedFields (r.lastReportedAt.getD (now s))) s |> pumpChanged p |>
      raisePump .resolved p (reportedCode .run) (pumpStateCode .running) |> actStarted p
  | .stop =>
    releasePermit p s |>
      updPump p (fun r => { r with state := .ready, booking := 0, admittedM := none, startTime := none,
                                   admittedStart := false, minRunUntil := none, minOffUntil := none,
                                   lastStop := none, timedOut := none, stopCause := none }) |>
      raisePump .resolved p (reportedCode .stop) (pumpStateCode .ready) |> actStopped p |> pumpChanged p
  | .trip =>
    faultFromReport p .stationTrip s |> raisePump .resolved p (reportedCode .trip) (pumpStateCode .faulted)
  | .localControl =>
    localFromReport p s |> raisePump .resolved p (reportedCode .localControl) (pumpStateCode .localControl)

/-- One in-use pump at the end of the survey: adopted if UNCONFIRMED, reported, and its house's station not SILENT. -/
def adoptAtSurveyEnd (s : State) (p : Pump) : State :=
  let r := s.pumps[p]
  if r.state == .unconfirmed && s.bus.stations[stationOf s (houseOf p)].state != .silent then
    match r.lastReported with
    | none => s
    | some rep => adoptSurveyed p rep s
  else s

end Sys2Proof.Machine
end

