-- ==== Sys2Proof/Machine/FeederUnit.lean ====
section
/-! DEFINITION. The Feeder Budget Unit (chapter 5): the Start Queue, the admission arbiter, the cap in force, shedding
and the meter. -/

namespace Sys2Proof.Machine

/-! ### The Start Queue (R92, R93, R94) -/

/-- A house's priority in the active bank (R5). -/
def priorityOf (s : State) (h : House) : Nat := (planOf s).houses[h].priority

/-- The age of a Start Queue entry (R93). -/
def startAge (s : State) (e : StartEntry) : Nat := seqAge s.feeder.nextSeq e.seq

/-- The live entries renumbered in order of age, the youngest taking the counter's value less one (R93). -/
def renumberStarts (s : State) : List StartEntry :=
  s.feeder.queue.map fun e =>
    let rank := (s.feeder.queue.filter fun d => decide (startAge s d ≤ startAge s e)).length
    { e with seq := (s.feeder.nextSeq + 65536 - rank) % 65536 }

/-- The entries as they stand before a join gives out a number: renumbered if a live entry holds that number (R93). -/
def startsBeforeJoin (s : State) : List StartEntry :=
  if s.feeder.queue.any fun e => e.seq == s.feeder.nextSeq then renumberStarts s else s.feeder.queue

/-- An entry put before the first one of a greater priority number (R92). -/
def insertStart (s : State) (n : StartEntry) : List StartEntry → List StartEntry
  | [] => [n]
  | e :: rest =>
    if priorityOf s n.house < priorityOf s e.house then n :: e :: rest else e :: insertStart s n rest

/-- A pump joins the Start Queue, which triggers an admission pass (R92, R93, R96). -/
def joinStart (p : Pump) (s : State) : State :=
  let entry : StartEntry := { pump := p, house := houseOf p, seq := s.feeder.nextSeq, enqueued := now s }
  triggerPass
    { s with feeder := { s.feeder with
        queue := insertStart s entry (startsBeforeJoin s)
        nextSeq := (s.feeder.nextSeq + 1) % 65536 } }

/-- An eligible pump is queued (R40, R67). -/
def queuePump (p : Pump) (s : State) : State :=
  joinStart p s |> updPump p (fun r => { r with state := .queued }) |> pumpChanged p

/-- Every queued entry of a house leaves the queue, and its pump goes back to READY (R94). -/
def dropHouseQueue (h : House) (s : State) : State := (pumpsOf h).foldl (fun s p => unqueue p s) s

/-- Whether an entry stands before another: a smaller priority number, or an equal one and a greater age (R92). -/
def standsBefore (s : State) (d e : StartEntry) : Bool :=
  decide (priorityOf s d.house < priorityOf s e.house) ||
  (priorityOf s d.house == priorityOf s e.house && decide (startAge s e ≤ startAge s d))

/-- An entry put into a queue before the first one that does not stand before it. -/
def insertSorted (s : State) (n : StartEntry) : List StartEntry → List StartEntry
  | [] => [n]
  | e :: rest => if standsBefore s e n then e :: insertSorted s n rest else n :: e :: rest

/-- The queue re-sorted by the priorities in force, entries of equal priority by age (R95). -/
def resortQueue (s : State) : State :=
  { s with feeder := { s.feeder with queue := s.feeder.queue.foldr (insertSorted s) [] } }

/-! ### The admission arbiter (R89, R90, R96 to R99) -/

/-- The re-booking part of a need (R89). -/
def rebookNeed (s : State) (h : House) (m : Nat) : Int :=
  ((pumpsIn s h fun st => st == .running).map fun q => (drawB s q m : Int) - (s.pumps[q].booking : Int)).sum

/-- The need of a queued pump's start (R89). -/
def needOf (s : State) (p : Pump) : Int :=
  let m := bookingCount s (houseOf p) + 1
  (chargeS s p m : Int) + rebookNeed s (houseOf p) m

/-- The number of permits K of the active bank (R3). -/
def permitLimit (s : State) : Nat := (planOf s).header.permitCount

/-- The permit a grant takes: the lowest index below K that is not held (R90). -/
def freePermit (s : State) : Option Nat :=
  (List.range (permitLimit s)).find? fun k => !((permitsHeld s).any fun g => g.1 == k)

/-- Whether a house has a pump in one of the states that keep a lead rotation from happening (R56). -/
def houseRuns (s : State) (h : House) : Bool :=
  !(pumpsIn s h fun st =>
      st == .starting || st == .running || st == .stopping || st == .unconfirmed).isEmpty

/-- The lead rotation: the pump moves to the back of its house's duty list (R56). -/
def rotateLead (p : Pump) (s : State) : State :=
  updHouse (houseOf p) (fun r => { r with dutyList := (r.dutyList.filter fun q => q != p) ++ [p] }) s

/-- The fields of an admitted pump (R40). -/
def admittedFields (uptime : Nat) (permit : Option Nat) (m charge : Nat) (r : PumpLive) : PumpLive :=
  { r with state := .ordered, permit := permit, admittedM := some m, startTime := some uptime, admittedStart := true,
           reachedRunning := false, booking := charge, history := r.history ++ [uptime], minRunUntil := none,
           stopCause := none }

/-- The candidate admitted (R98). The sums change within the pass, so a fall in committed triggers no pass (R96). -/
def admitPump (p : Pump) (s : State) : State :=
  let h := houseOf p
  let m := bookingCount s h + 1
  let need := needOf s p
  let permit := freePermit s
  let left := leaveStartQueue p s
  let ordered := updPump p (admittedFields (now s) permit m (chargeS s p m)) left
  let rotated := if houseRuns s h then ordered else rotateLead p ordered
  resumQuietly rotated |> rebook resumQuietly h |> notice h |> joinOrder p .start |>
    raisePump .admitted p need.toNat (permit.getD 65535)

/-- Whether a walk passes over the entries of a house: its main is not settled, or it has a pump in ORDERED, STARTING or
STOPPING (R97). -/
def passedOver (s : State) (h : House) : Bool :=
  !mainSettled s h ||
    !(pumpsIn s h fun st => st == .ordered || st == .starting || st == .stopping).isEmpty

/-- Why the walk ends at a candidate, if it does (R97). -/
def candidateEnd (s : State) (p : Pump) : Option PassEnd :=
  if s.feeder.meter.hold then some .meterHold
  else if permitLimit s ≤ permitCountHeld s then some .noPermit
  else if (s.feeder.cap : Int) < (s.feeder.committed : Int) + needOf s p then some .budget
  else none

/-- The pass record overwritten (R99). -/
def recordPass (r : PassRecord) (s : State) : State := { s with feeder := { s.feeder with lastPass := some r } }

/-- The walk over the entries of the queue (R97), with the pumps admitted and the entries passed over so far. -/
def passWalk : List StartEntry → Nat → Nat → State → State
  | [], admitted, skipped, s =>
    recordPass
      { uptime := now s, admittedCount := admitted, passedOver := skipped, ended := .queueEnd, candidate := none,
        tested := none } s
  | e :: rest, admitted, skipped, s =>
    if passedOver s e.house then passWalk rest admitted (skipped + 1) s
    else
      match candidateEnd s e.pump with
      | none => passWalk rest (admitted + 1) skipped (admitPump e.pump s)
      | some why =>
        recordPass
          { uptime := now s, admittedCount := admitted, passedOver := skipped, ended := why
            candidate := some (e.pump, needOf s e.pump)
            tested := if why == .budget then some (s.feeder.committed, s.feeder.cap) else none } s

/-- An admission pass (R97). -/
def admissionPass (s : State) : State :=
  if s.survey.running then
    recordPass
      { uptime := now s, admittedCount := 0, passedOver := 0, ended := .survey, candidate := none, tested := none } s
  else passWalk s.feeder.queue 0 0 s

/-! ### The cap in force (R100) -/

/-- A value of the cap taken from the Timetable Unit (R100). -/
def takeCap (c : Nat) (s : State) : State :=
  let t := { s with feeder := { s.feeder with cap := c } }
  if c = s.feeder.cap then s
  else if s.feeder.cap < c then callShedTest (triggerPass t)
  else callShedTest t

/-! ### Shedding (R101, R102, R103, R106) -/

/-- A pump's start time, 0 where it is absent. -/
def startTimeOf (s : State) (p : Pump) : Nat := (s.pumps[p].startTime).getD 0

/-- The candidate of latest start time among pumps in ascending order, ties to the higher index (R102 step 3). -/
def latestStarted (s : State) (ps : List Pump) : Option Pump :=
  ps.foldl
    (fun best p =>
      match best with
      | none => some p
      | some b => if startTimeOf s b ≤ startTimeOf s p then some p else some b)
    none

/-- A house's shed candidates: its RUNNING pumps (R102). -/
def runningPumps (s : State) (h : House) : List Pump := pumpsIn s h fun st => st == .running

/-- Whether a house takes part in a shed choice: its main is free and it has a candidate (R102). -/
def canShed (s : State) (h : House) : Bool := mainFree s h && !(runningPumps s h).isEmpty

/-- The house a shed choice takes: the greatest priority number, ties to the higher index (R102 step 2). -/
def shedHouse (s : State) : Option House :=
  ((planOf s).housesInUse.filter (canShed s)).foldl
    (fun best h =>
      match best with
      | none => some h
      | some b => if priorityOf s b ≤ priorityOf s h then some h else some b)
    none

/-- The pump a shed choice takes (R102). -/
def shedChoice (s : State) : Option Pump := (shedHouse s).bind fun h => latestStarted s (runningPumps s h)

/-- The METER_SHED stop of the phase DUE, if a house with a free main has a candidate (R106). -/
def meterShed (s : State) : State :=
  if s.feeder.meter.phase == .due && !s.survey.running then
    match shedChoice s with
    | none => s
    | some p =>
      issueStop .meterShed p s |>
        raisePump .meterShed p ((s.feeder.meter.reading).getD 65535) (planOf s).header.meterShedLevel |>
        updMeter fun r =>
          { r with phase := .settling, phaseUntil := some (now s + (planOf s).header.meterShedSettle) }
  else s

/-- SHED stops, one after another, while committed-for-shed exceeds the cap and a house with a free main has a candidate
(R102). Each stop takes its house out of the choice, so eight choices are enough. -/
def shedLoop : Nat → State → State
  | 0, s => s
  | k + 1, s =>
    if s.feeder.cap < s.feeder.committedForShed then
      match shedChoice s with
      | none => s
      | some p =>
        shedLoop k
          (issueStop .shed p s |> raisePump .shed p s.feeder.committedForShed s.feeder.cap)
    else s

/-- The over-cap episode opened or closed by what the sums show (R101). -/
def markEpisode (s : State) : State :=
  if s.feeder.cap < s.feeder.committedForShed then
    if s.feeder.overCap then s
    else
      raisePart .overCap s.feeder.committedForShed s.feeder.cap
        { s with feeder := { s.feeder with overCap := true } }
  else if s.feeder.overCap then
    raisePart .overCapEnd s.feeder.committedForShed s.feeder.cap
      { s with feeder := { s.feeder with overCap := false } }
  else s

/-- The shed test (R101): the episode opens if the sums call for it, the METER_SHED choice comes before the SHED choices
(R106), and the episode closes if they have brought committed-for-shed to the cap (log 13). An episode whose sum is at or
below the cap already when the test begins closes before the METER_SHED choice (DESIGN CHOICE, log 13). -/
def shedTest (s : State) : State :=
  if s.survey.running then s else s |> markEpisode |> meterShed |> shedLoop 8 |> markEpisode

/-! ### The meter (R104, R105, R106) -/

/-- Entry to DUE: one METER_SHED stop is issued at once if it can be (R106). -/
def enterDue (s : State) : State :=
  updMeter (fun r => { r with phase := .due, phaseUntil := none }) s |> meterShed

/-- The shed phase back at IDLE. -/
def enterIdle (s : State) : State := updMeter (fun r => { r with phase := .idle, phaseUntil := none }) s

/-- FILTERING begins; with a filter of 0 the phase is DUE at once (R106). -/
def beginFiltering (s : State) : State :=
  let f := (planOf s).header.meterFilter
  if f = 0 then enterDue s
  else updMeter (fun r => { r with phase := .filtering, phaseUntil := some (now s + f) }) s

/-- The hold ends, which triggers an admission pass; the second value says why (R105, R109). -/
def endHold (why : Nat) (s : State) : State :=
  updMeter (fun r => { r with hold := false }) s |>
    raisePart .meterHoldEnd ((s.feeder.meter.reading).getD 65535) why |> triggerPass

/-- The hold evaluated against a reading (R105). -/
def evaluateHold (reading : Nat) (s : State) : State :=
  let level := (planOf s).header.meterHoldLevel
  if level ≤ reading then
    if s.feeder.meter.hold then s
    else updMeter (fun r => { r with hold := true }) s |> raisePart .meterHold reading level
  else if s.feeder.meter.hold then endHold 0 s
  else s

/-- The shed phase moved by a reading (R106): the columns "at or above" and "below". -/
def evaluatePhase (reading : Nat) (s : State) : State :=
  let above := decide ((planOf s).header.meterShedLevel ≤ reading)
  match s.feeder.meter.phase with
  | .idle => if above then beginFiltering s else s
  | .filtering => if above then s else enterIdle s
  | .due => if above then s else enterIdle s
  | .settling => s

/-- A good reading (R104). -/
def goodReading (power : Nat) (s : State) : State :=
  let reading := sat16 power
  updMeter
      (fun r => { r with state := .valid, reading := some reading, lastGood := some (now s)
                         staleAt := some (now s + (planOf s).header.meterStale) }) s |>
    evaluateHold reading |> evaluatePhase reading

/-- The meter becomes STALE (R104, R105). -/
def meterBecomesStale (s : State) : State :=
  let m := s.feeder.meter
  let t := updMeter (fun r => { r with state := .stale, staleAt := none }) s |>
    raisePart .meterStale (m.reading.getD 65535) ((m.lastGood.map fun t => now s - t).getD 65535)
  enterIdle (if m.hold then endHold 1 t else t)

/-- The expiry of phase until (R106). -/
def phaseExpired (s : State) : State :=
  match s.feeder.meter.phase with
  | .idle => s
  | .filtering => enterDue s
  | .due => s
  | .settling =>
    if (s.feeder.meter.reading).any fun r => decide ((planOf s).header.meterShedLevel ≤ r) then enterDue s
    else enterIdle s

/-- The meter at a swap between two planned banks (R108 step 5): a VALID meter's last reading is held against the new
levels, and the phase moves as on a reading. -/
def meterAtSwap (s : State) : State :=
  if s.feeder.meter.state == .valid then
    match s.feeder.meter.reading with
    | none => s
    | some r => evaluateHold r s |> evaluatePhase r
  else s

end Sys2Proof.Machine
end

