-- ==== Sys2Proof/Machine/ProtectionUnit.lean ====
section
/-! DEFINITION. The Protection Unit (chapter 7): alarm lists, activations, fault records, recovery, interlocks and note
sets. -/

namespace Sys2Proof.Machine

/-- An alarm item of a REPORT: a code with a pump position or none (R128, R150). -/
structure AlarmItem where
  code : Code
  position : Option Nat
  deriving DecidableEq, Repr

/-! ### The alarm list (R128, R129) -/

/-- The pump of an item: none if its position is at or above the house's pump count (R128). -/
def itemPump (s : State) (h : House) (i : AlarmItem) : Option Pump :=
  i.position.bind fun k => if k < (planOf s).houses[h].pumpCount then pumpAt h k else none

/-- The entry an item adds: ACTIVE at once with a map filter of 0 (R128). -/
def newEntry (s : State) (h : House) (i : AlarmItem) : AlarmEntry :=
  let filter := (planOf s).alarmMap[i.code].filter
  { code := i.code, pump := itemPump s h i, firstSeen := now s
    activeAt := if filter = 0 then none else some (now s + filter) }

/-- An item turned away by a full list (R128). -/
def dropItem (h : House) (i : AlarmItem) (s : State) : State :=
  if s.protection[h].listFull then s
  else
    updProtection h (fun r => { r with listFull := true }) s |>
      raiseHouse .alarmListFull h i.code.val (i.position.getD 255)

/-- One item of a REPORT taken into a house's list (R128). -/
def takeItem (h : House) (s : State) (i : AlarmItem) : State :=
  if actionOf s i.code == .none then s
  else if s.protection[h].alarms.any fun e => e.code == i.code then s
  else if s.protection[h].alarms.length < 8 then
    updProtection h (fun r => { r with alarms := r.alarms ++ [newEntry s h i] }) s
  else dropItem h i s

/-- Every entry whose code the REPORT does not carry leaves, and the list-full flag follows (R128, R129). -/
def dropAbsent (items : List AlarmItem) (r : Protection) : Protection :=
  let alarms := r.alarms.filter fun e => items.any fun i => i.code == e.code
  { r with alarms, listFull := r.listFull && decide (8 ≤ alarms.length) }

/-! ### The fault record (R134) -/

/-- An activation entered in the fault record (R134). -/
def recordFault (uptime : Nat) (e : AlarmEntry) (r : Protection) : Protection :=
  if r.faults.any fun f => f.code == e.code then
    { r with faults := r.faults.map fun f => if f.code == e.code then { f with count := satSucc 255 f.count } else f }
  else if r.faults.length < 8 then
    { r with faults := r.faults ++ [{ code := e.code, pump := e.pump, firstTime := uptime, count := 1 }] }
  else { r with more := true }

/-- Whether activations of an action enter the fault record (R131). -/
def isRecorded : AlarmAction → Bool
  | .none => false
  | .note => false
  | .inhibit => true
  | .trip => true
  | .lockout => true

/-- The code of an action in ALARM_ACTIVE (R145); 5 is a LOCKOUT suppressed. -/
def alarmActionCode (suppressed : Bool) : AlarmAction → Nat
  | .none => 0
  | .note => 1
  | .inhibit => 2
  | .trip => 3
  | .lockout => if suppressed then 5 else 4

/-! ### Recovery (R135 to R140) -/

/-- A recovery period begun (R136, R137): the attempt count rises. -/
def beginPeriod (h : House) (code : Code) (s : State) : State :=
  let attempts := satSucc 255 s.protection[h].attempts
  updProtection h
      (fun r => { r with state := .recovery, attempts, forgiveAt := none, causeCode := some code
                         recoveryUntil := some (now s + (planOf s).houses[h].recoveryTime) }) s |>
    raiseHouse .recoveryStart h attempts code.val

/-- A house enters RECOVERY from another state: its Start Queue entries go, and a notice is handed on (R135, R136). -/
def enterRecovery (h : House) (code : Code) (s : State) : State :=
  beginPeriod h code s |> dropHouseQueue h |> notice h

/-- A LOCKOUT activation (R136). -/
def lockoutActivated (h : House) (s : State) (e : AlarmEntry) : State :=
  if s.protection[h].state == .clear && !s.protection[h].suppression then enterRecovery h e.code s else s

/-- The code of the first ACTIVE LOCKOUT entry in list order, if any (R137). -/
def firstLockout (s : State) (h : House) : Option Code :=
  (s.protection[h].alarms.find? fun e => e.activeAt.isNone && actionOf s e.code == .lockout).map (·.code)

/-- The LOCKOUT test with the code it finds: none if it does not hold (R137). -/
def lockoutTest (s : State) (h : House) : Option Code :=
  if s.protection[h].suppression then none else firstLockout s h

/-- A house becomes CLEAR: RECOVERY_END with its marking, and forgiveness begins if there is a count (R137, R139). -/
def becomeClear (h : House) (marking : Nat) (s : State) : State :=
  let attempts := s.protection[h].attempts
  updProtection h
      (fun r => { r with state := .clear, recoveryUntil := none, causeCode := none
                         forgiveAt := if attempts = 0 then none else some (now s + 3600) }) s |>
    raiseHouse .recoveryEnd h attempts marking |> notice h

/-- A house is locked out (R137). -/
def lockOut (h : House) (code : Code) (s : State) : State :=
  updProtection h (fun r => { r with state := .lockedOut, recoveryUntil := none, causeCode := some code }) s |>
    raiseHouse .lockedOut h s.protection[h].attempts code.val |> dropHouseQueue h |> notice h

/-- The expiry of recovery-until (R137). -/
def recoveryExpired (h : House) (s : State) : State :=
  let retries := (planOf s).houses[h].recoveryRetries
  match lockoutTest s h with
  | some code =>
    if retries ≠ 0 ∧ retries ≤ s.protection[h].attempts then lockOut h code s else beginPeriod h code s
  | none => becomeClear h (if (firstLockout s h).isSome then 2 else 0) s

/-- The attempt count forgiven (R138). -/
def forgive (h : House) (s : State) : State :=
  updProtection h (fun r => { r with attempts := 0, forgiveAt := none }) s

/-- HOUSE_CLEAR (R139). -/
def clearHouseRecord (h : House) (s : State) : State :=
  let t := updProtection h
    (fun r => { r with faults := [], more := false, attempts := 0, forgiveAt := none }) s
  match s.protection[h].state with
  | .clear => t
  | .recovery => t
  | .lockedOut =>
    match lockoutTest t h with
    | none => becomeClear h 1 t
    | some code => enterRecovery h code t

/-- HOUSE_SUPPRESS (R140). -/
def suppressHouse (h : House) (on : Bool) (s : State) : State :=
  let t := updProtection h (fun r => { r with suppression := on }) s
  if s.protection[h].suppression && !on && s.protection[h].state == .clear then
    match firstLockout s h with
    | none => t
    | some code => enterRecovery h code t
  else t

/-! ### Activations (R130, R131, R132) -/

/-- The effect of a TRIP activation on the pump it names (R131, R132). -/
def tripEffect (s : State) (e : AlarmEntry) : State :=
  match actionOf s e.code, e.pump with
  | .trip, some p => tripActivated p e.code s
  | .trip, none => s
  | .none, _ => s
  | .note, _ => s
  | .inhibit, _ => s
  | .lockout, _ => s

/-- ALARM_ACTIVE, the fault record, and the effect on a pump, of one activation (R131, R134). -/
def activate (h : House) (s : State) (e : AlarmEntry) : State :=
  let action := actionOf s e.code
  let raised :=
    raise .alarmActive (some h) e.pump none e.code.val
      (alarmActionCode s.protection[h].suppression action) s
  let recorded := if isRecorded action then updProtection h (recordFault (now s) e) raised else raised
  tripEffect recorded e

/-- The LOCKOUT entries among some. -/
def lockouts (s : State) (es : List AlarmEntry) : List AlarmEntry :=
  es.filter fun e => actionOf s e.code == .lockout

/-- Activations of a house in list order, and then the protection event they cause (R131, R145). What a TRIP raises of its
pump stands between one ALARM_ACTIVE and the next (DESIGN CHOICE, log 51). -/
def activateAll (h : House) (es : List AlarmEntry) (s : State) : State :=
  (lockouts s es).foldl (lockoutActivated h) (es.foldl (activate h) s)

/-- The end of a change of a house's list: a house that has become inhibited loses its queue entries, and a notice is
handed on (R131). -/
def listChanged (h : House) (wasInhibited : Bool) (s : State) : State :=
  (if !wasInhibited && inhibited s h then dropHouseQueue h s else s) |> notice h

/-- The expiry of an entry's filter (R130). -/
def filterExpired (h : House) (e : AlarmEntry) (s : State) : State :=
  updProtection h
      (fun r => { r with alarms := r.alarms.map fun d => if d.code == e.code then { d with activeAt := none } else d })
      s |>
    activateAll h [e] |> listChanged h (inhibited s h)

/-- The alarm items of a good REPORT of a house's station: items in order, activations, removals (R128 to R131). -/
def applyItems (h : House) (items : List AlarmItem) (s : State) : State :=
  let before := s.protection[h].alarms
  let taken := items.foldl (takeItem h) s
  let activated := taken.protection[h].alarms.filter fun e =>
    e.activeAt.isNone && !(before.any fun d => d.code == e.code)
  let acted := activateAll h activated taken |> updProtection h (dropAbsent items)
  let removed := before.any fun e => !(items.any fun i => i.code == e.code)
  if removed || !activated.isEmpty then listChanged h (inhibited s h) acted else acted

/-! ### Stations that serve no house (R133) -/

/-- The codes of a REPORT with an action other than NONE, each once, in order. -/
def noteCodes (s : State) (items : List AlarmItem) : List Code :=
  (items.map (·.code)).foldl
    (fun cs c => if actionOf s c == .none || cs.contains c then cs else cs ++ [c]) []

/-- The alarm items of a good REPORT of a station that serves no house (R133, log 25). -/
def noteItems (st : Station) (items : List AlarmItem) (s : State) : State :=
  let codes := noteCodes s items
  let logged := (codes.filter fun c => !(s.noteSets[st].contains c)).foldl
    (fun s c => raisePart .alarmActive c.val (16 + stationAddress st) s) s
  { logged with noteSets := logged.noteSets.set st codes }

/-! ### The interlock (R141, R142) -/

/-- The interlock becomes present, by a REPORT (0) or an ORDER_REPLY (1). -/
def interlockOn (h : House) (marking : Nat) (s : State) : State :=
  if s.protection[h].interlock then s
  else
    updProtection h (fun r => { r with interlock := true }) s |>
      raiseHouse .interlockOn h marking (stationAddress (stationOf s h)) |> dropHouseQueue h |> notice h

/-- The interlock becomes absent by a REPORT. -/
def interlockOff (h : House) (s : State) : State :=
  if s.protection[h].interlock then
    updProtection h (fun r => { r with interlock := false }) s |>
      raiseHouse .interlockOff h 0 (stationAddress (stationOf s h)) |> notice h
  else s

/-- The interlock flag of a good REPORT (R141). -/
def applyInterlock (h : House) (flag : Bool) (s : State) : State := if flag then interlockOn h 0 s else interlockOff h s

end Sys2Proof.Machine
end

