-- ==== Sys2Proof/Machine/HouseDispatcher.lean ====
section
/-! DEFINITION. The House Dispatcher (chapter 4): the want of a house, raising and lowering it, modes and targets, and
the rising main. -/

namespace Sys2Proof.Machine

/-! ### The want (R63 to R66) -/

/-- The counts of a house's active windows of one kind, read from the entries' records (R115). -/
def windowCounts (s : State) (h : House) (kind : WindowKind) : List Nat :=
  (s.timetable.windows.filter fun w => w.house == h && (planOf s).timetable[w.entry].kind == kind).map
    fun w => (planOf s).timetable[w.entry].count

/-- The largest active FLOOR count of a house, absent with no such window (R65, R115). -/
def largestFloor (s : State) (h : House) : Option Nat := (windowCounts s h .floor).max?

/-- The smallest active CEILING count of a house, absent with no such window (R65, R115). -/
def smallestCeiling (s : State) (h : House) : Option Nat := (windowCounts s h .ceiling).min?

/-- A house's station is SILENT (R60). -/
def stationSilent (s : State) (h : House) : Bool := s.bus.stations[stationOf s h].state == .silent

/-- The first limit that holds the want at 0, if any (R63). -/
def holdingLimit (s : State) (h : House) : Option Limit :=
  if s.survey.running then some .survey
  else if stationSilent s h then some .silent
  else if s.protection[h].interlock then some .interlock
  else if s.protection[h].state != .clear then some .protection
  else if s.houses[h].mode == .disabled then some .disabled
  else if s.hydraulics[h].suctionLow.active then some .suctionLow
  else if s.hydraulics[h].overflow.active then some .overflow
  else none

/-- A want with its limit. -/
structure Want where
  value : Nat
  limit : Limit
  deriving DecidableEq, Repr

/-- A stage that lowers the value to a cap, with its limit if it does. -/
def capWant (cap : Nat) (limit : Limit) (w : Want) : Want := if cap < w.value then { value := cap, limit } else w

/-- The base of the want in AUTO (R65 stage 1). -/
def baseWant (s : State) (h : House) : Want :=
  { value := if (usableLevel s.levels[(planOf s).houses[h].delivery]).isSome then nLevel s.hydraulics[h] else 0
    limit := .level }

/-- FLOOR windows raise the value (R65 stage 2). -/
def floorStage (s : State) (h : House) (w : Want) : Want :=
  match largestFloor s h with
  | none => w
  | some c => if w.value < c then { value := c, limit := .floor } else w

/-- CEILING windows lower the value, unless LOW_ALARM is active (R65 stage 3). -/
def ceilingStage (s : State) (h : House) (w : Want) : Want :=
  match smallestCeiling s h with
  | none => w
  | some c => if s.hydraulics[h].lowAlarm.active then w else capWant c .ceiling w

/-- A degraded house is held at its fallback ceiling (R65 stage 4). -/
def fallbackStage (s : State) (h : House) (w : Want) : Want :=
  if s.hydraulics[h].degraded then capWant (planOf s).houses[h].fallback .fallback w else w

/-- The want of AUTO before the duty list caps it (R65). -/
def autoWant (s : State) (h : House) : Want :=
  baseWant s h |> floorStage s h |> ceilingStage s h |> fallbackStage s h

/-- The want and limit of a house (R63 to R66). -/
def wantOf (s : State) (h : House) : Want :=
  match holdingLimit s h with
  | some limit => { value := 0, limit }
  | none =>
    capWant s.houses[h].dutyList.length .rotation
      (if s.houses[h].mode == .manual then { value := s.houses[h].manualTarget, limit := .manual } else autoWant s h)

/-! ### Raising (R67, R68) -/

/-- A pump is eligible: READY, with fewer history entries than its limit (R37). -/
def eligible (s : State) (p : Pump) : Bool :=
  s.pumps[p].state == .ready && decide (s.pumps[p].history.length < (pumpPlan s p).startsPerHour)

/-- One pump of the duty list queued, if the on-count is still below the want and the pump is eligible (R67). -/
def raiseStep (h : House) (want : Nat) (s : State) (p : Pump) : State :=
  if onCount s h < want && eligible s p then queuePump p s else s

/-- The walk over the duty list from the lead (R67). -/
def raiseHousePumps (h : House) (want : Nat) (s : State) : State :=
  s.houses[h].dutyList.foldl (raiseStep h want) s

/-- The shortfall test (R68). -/
def shortfallTest (h : House) (want : Nat) (s : State) : State :=
  let on := onCount s h
  if on < want then
    if s.houses[h].shortfall then s
    else updHouse h (fun r => { r with shortfall := true }) s |> raiseHouse .wantUnmet h want on
  else updHouse h (fun r => { r with shortfall := false }) s

/-! ### Lowering (R69 to R76) -/

/-- The house's most recently queued entry: the one of least age (R69, R93). -/
def youngestQueued (s : State) (h : House) : Option StartEntry :=
  (s.feeder.queue.filter fun e => e.house == h).foldl
    (fun best e =>
      match best with
      | none => some e
      | some b => if startAge s e < startAge s b then some e else some b)
    none

/-- QUEUED pumps withdrawn, the most recently queued first, until the on-count reaches the want (R69). A house has at
most four. -/
def withdrawQueued (h : House) (want : Nat) : Nat → State → State
  | 0, s => s
  | k + 1, s =>
    if want < onCount s h then
      match youngestQueued s h with
      | none => s
      | some e => withdrawQueued h want k (unqueue e.pump s)
    else s

/-- The stop cause that the state of a house calls for (R70). -/
def stopCauseFor (s : State) (h : House) : StopCause :=
  if s.protection[h].interlock || s.protection[h].state != .clear || s.hydraulics[h].suctionLow.active then .protect
  else if s.hydraulics[h].overflow.active then .overflow
  else .demand

/-- PROTECT stops to every pump of the house, in ascending index; a pump in a state that R75 does not name takes no
effect (R45, R75). -/
def protectHouse (h : House) (s : State) : State := (pumpsOf h).foldl (fun s p => issueStop .protect p s) s

/-- The pump due for an ISOLATE stop, the lower index first (R76). -/
def isolateDue (s : State) (h : House) : Option Pump :=
  (pumpsIn s h fun st => st == .running || st == .starting).find? fun p => s.pumps[p].isolatePending

/-- The candidate of earliest start time among pumps in ascending order, ties to the lower index (R73, R74). -/
def earliestStarted (s : State) (ps : List Pump) : Option Pump :=
  ps.foldl
    (fun best p =>
      match best with
      | none => some p
      | some b => if startTimeOf s p < startTimeOf s b then some p else some b)
    none

/-- The candidates of a DEMAND or OVERFLOW stop (R73, R74). -/
def surplusCandidates (s : State) (h : House) (cause : StopCause) : List Pump :=
  (runningPumps s h).filter fun p => cause == .overflow || s.pumps[p].minRunUntil.isNone

/-- An ISOLATE stop, if a pump is due and the main is free (R76). -/
def isolateStop (h : House) (s : State) : State :=
  if mainFree s h then
    match isolateDue s h with
    | none => s
    | some p => issueStop .isolate p s
  else s

/-- A DEMAND or OVERFLOW stop of one surplus pump, if the main is free (R73, R74). -/
def surplusStop (h : House) (want : Nat) (cause : StopCause) (s : State) : State :=
  if mainFree s h && decide (want < onCount s h) then
    match earliestStarted s (surplusCandidates s h cause) with
    | none => s
    | some p => issueStop cause p s
  else s

/-- The stops of an evaluation: none while the survey runs (R70). PROTECT stops go to all the house's pumps whether or
not the on-count exceeds the want, since R75 names STOPPING pumps too (log 23). -/
def lowerHouse (h : House) (want : Nat) (s : State) : State :=
  if s.survey.running then s
  else
    match stopCauseFor s h with
    | .protect => protectHouse h s
    | cause => isolateStop h s |> surplusStop h want cause

/-! ### Evaluation (R62) -/

/-- A house evaluated: the want and limit stored, and the house acted on (R62). -/
def evaluateHouse (h : House) (s : State) : State :=
  let w := wantOf s h
  let stored := updHouse h (fun r => { r with want := w.value, limit := w.limit }) s
  let raised :=
    if inhibited s h then stored else raiseHousePumps h w.value stored |> shortfallTest h w.value
  withdrawQueued h w.value 4 raised |> lowerHouse h w.value

/-! ### Host requests (R77, R78) -/

/-- HOUSE_MODE taken (R77). -/
def takeMode (h : House) (mode : Mode) (s : State) : State :=
  let r := s.houses[h]
  let target := if mode == .manual && r.mode != .manual then r.want else r.manualTarget
  updHouse h (fun r => { r with mode := mode, manualTarget := target }) s |> notice h

/-- HOUSE_TARGET taken (R78). -/
def takeTarget (h : House) (value : Nat) (s : State) : State :=
  updHouse h (fun r => { r with manualTarget := min value (planOf s).houses[h].pumpCount }) s |> notice h

/-! ### The rising main (R71, R72) -/

/-- main-settled-at set by an operation of the rising main, the later value kept (R71). -/
def setMainSettle (h : House) (s : State) : State :=
  let t := now s + (planOf s).houses[h].mainSettle
  updHouse h (fun r => { r with mainSettledAt := some (max t (r.mainSettledAt.getD 0)) }) s

/-- The main settles (R72). `feederFirst` says which of the two blocks takes it first: the Feeder Budget Unit, with its
shed test and its admission pass, or the House Dispatcher, with its evaluation (log 36). -/
def mainSettles (h : House) (feederFirst : Bool) (s : State) : State :=
  let t := updHouse h (fun r => { r with mainSettledAt := none }) s
  if feederFirst then shedTest t |> admissionPass |> notice h
  else evaluateHouse h t |> callShedTest |> triggerPass

end Sys2Proof.Machine
end

