-- ==== Sys2Proof/Machine/TimetableUnit.lean ====
section
/-! DEFINITION. The Time Base and the Timetable Unit (chapter 6): the passing of a second, tariff windows, timetable
entries, and changes of network time. -/

namespace Sys2Proof.Machine

/-! ### Tariff windows and the cap (R113) -/

/-- Whether a tariff window applies at a day and minute. -/
def windowApplies (pl : Plan) (day : Day) (minute : Nat) (w : Window) : Bool :=
  pl.tariff[w].inUse && dayIn pl.tariff[w].days day && decide (pl.tariff[w].startMinute ≤ minute)

/-- The applying window of greatest start minute, if any (R113). -/
def selectWindow (pl : Plan) (day : Day) (minute : Nat) : Option Window :=
  (allWindows.filter (windowApplies pl day minute)).foldl
    (fun best w =>
      match best with
      | none => some w
      | some b => if pl.tariff[b].startMinute < pl.tariff[w].startMinute then some w else some b)
    none

/-- The window in force for the network time as it stands: none while UNSET (R113). -/
def windowNow (s : State) : Option Window :=
  s.time.net.bind fun t => selectWindow (planOf s) t.day (t.second / 60)

/-- The cap a window in force gives (R113). -/
def capOf (pl : Plan) (w : Option Window) : Nat :=
  match w with
  | none => pl.header.defaultCap
  | some w => pl.tariff[w].cap

/-- The selection re-evaluated, and the cap handed to the Feeder Budget Unit (R113). -/
def reevaluateCap (s : State) : State :=
  if planned s then
    let w := windowNow s
    let cap := capOf (planOf s) w
    let t := { s with timetable := { s.timetable with windowInForce := w } }
    takeCap cap
      (if w = s.timetable.windowInForce then t
       else raisePart .tariffWindow cap ((w.map fun k => k.val).getD 65535) t)
  else s

/-! ### Starts, joins and skips (R115, R116, R117) -/

/-- An entry of the active bank's timetable changed: the retired flag and remaining runs are written there (R117). -/
def updActiveEntry (e : Entry) (f : TimetableEntry → TimetableEntry) (s : State) : State :=
  match s.banks.active with
  | none => s
  | some k =>
    updBank k
      (fun b => { b with plan := { b.plan with timetable := b.plan.timetable.set e (f b.plan.timetable[e]) } }) s

/-- A record of the active bank's timetable. -/
def entryOf (s : State) (e : Entry) : TimetableEntry := (planOf s).timetable[e]

/-- Whether an entry has a window in the active set (R115). -/
def isActive (s : State) (e : Entry) : Bool := s.timetable.windows.any fun w => w.entry == e

/-- An entry takes its fired-today mark (R116). -/
def markFired (e : Entry) (s : State) : State :=
  { s with timetable := { s.timetable with fired := s.timetable.fired.set e true } }

/-- A window joins the active set at the back; one already there takes the later end (R115, R116). -/
def addWindow (e : Entry) (activeUntil : Nat) (s : State) : State :=
  let house := (entryOf s e).house
  if isActive s e then
    { s with timetable := { s.timetable with
        windows := s.timetable.windows.map fun w =>
          if w.entry == e then { w with activeUntil := max w.activeUntil activeUntil } else w } }
  else
    notice house
      { s with timetable := { s.timetable with
          windows := s.timetable.windows ++ [{ entry := e, house, activeUntil }] } }

/-- A run of a limited entry spent; the last one retires the entry (R117). -/
def spendRun (e : Entry) (s : State) : State :=
  let r := entryOf s e
  if r.limited then
    let left := r.runs - 1
    let t := updActiveEntry e (fun r => { r with runs := left, retired := r.retired || left == 0 }) s
    if left = 0 then raiseHouse .ttRetired r.house e.val 0 t else t
  else s

/-- Whether an entry's guard is true at a level; an absent guard always is (R116). -/
def guardTrue (r : TimetableEntry) (level : Nat) : Bool :=
  match r.guardKind with
  | .absent => true
  | .below => decide (level ≤ r.guardLevel)
  | .above => decide (r.guardLevel ≤ level)

/-- The tests of R116 on the delivery level and the guard, and then the start with its marking (0 fired, 1 joined). -/
def tryStart (e : Entry) (activeUntil marking : Nat) (s : State) : State :=
  let r := entryOf s e
  match usableLevel s.levels[(planOf s).houses[r.house].delivery] with
  | none => raiseHouse .ttSkipped r.house e.val 1 s
  | some level =>
    if guardTrue r level then
      addWindow e activeUntil s |> raiseHouse .ttFired r.house e.val marking |> spendRun e
    else raiseHouse .ttSkipped r.house e.val 0 s

/-- Whether an entry of the active bank may act: in use and not retired. -/
def canAct (s : State) (e : Entry) : Bool := (entryOf s e).inUse && !(entryOf s e).retired

/-- The second of day at which an entry starts. -/
def startSecond (r : TimetableEntry) : Nat := r.startMinute * 60

/-- The second, counted from the start day's midnight, at which an entry's window ends. -/
def endSecond (r : TimetableEntry) : Nat := (r.startMinute + r.duration) * 60

/-- One entry at a crossing (R116). -/
def fireStep (day : Day) (minute : Nat) (s : State) (e : Entry) : State :=
  let r := entryOf s e
  if canAct s e && r.startMinute == minute && dayIn r.days day && !s.timetable.fired[e] then
    markFired e s |> tryStart e (now s + r.duration * 60) 0
  else s

/-- The entries of a minute fired in ascending index (R116). -/
def fireMinute (day : Day) (minute : Nat) (s : State) : State := allEntries.foldl (fireStep day minute) s

/-! ### Re-establishment and jumps (R120, R121) -/

/-- The day before. -/
def dayBefore (day : Day) : Day := day + 6

/-- Yesterday's start of one entry (R120 step 2). -/
def joinYesterday (t : NetTime) (e : Entry) (s : State) : State :=
  let r := entryOf s e
  if !isActive s e && dayIn r.days (dayBefore t.day) && decide (1440 < r.startMinute + r.duration) &&
      decide (t.second + 86400 < endSecond r) then
    tryStart e (now s + (endSecond r - (t.second + 86400))) 1 s
  else s

/-- Today's start of one entry (R120 step 1). -/
def joinToday (t : NetTime) (e : Entry) (s : State) : State :=
  let r := entryOf s e
  if dayIn r.days t.day && !s.timetable.fired[e] && decide (startSecond r ≤ t.second) then
    let m := markFired e s
    if isActive s e then m
    else if t.second < endSecond r then tryStart e (now s + (endSecond r - t.second)) 1 m
    else m
  else s

/-- One entry of a re-establishment (R120). -/
def reestablishStep (t : NetTime) (s : State) (e : Entry) : State :=
  if canAct s e then joinToday t e s |> joinYesterday t e else s

/-- A re-establishment, with the time state SET and an active bank (R120). -/
def reestablish (s : State) : State :=
  match s.time.net with
  | none => s
  | some t => if planned s then allEntries.foldl (reestablishStep t) s else s

/-- One entry of a FORWARD jump (R121). TT_MISSED counts its minutes (R125) rounded down (DESIGN CHOICE, log 52). -/
def forwardStep (old : Nat) (t : NetTime) (s : State) (e : Entry) : State :=
  let r := entryOf s e
  if canAct s e && !s.timetable.fired[e] && dayIn r.days t.day && decide (old < startSecond r) &&
      decide (startSecond r ≤ t.second) then
    let m := markFired e s
    if t.second < endSecond r then tryStart e (now s + (endSecond r - t.second)) 1 m
    else raiseHouse .ttMissed r.house e.val ((t.second - startSecond r) / 60) m
  else s

/-- Every fired-today mark cleared (R111, R119). -/
def clearMarks (s : State) : State :=
  { s with timetable := { s.timetable with fired := Vector.replicate 24 false } }

/-! ### SET_TIME (R111) -/

/-- The jump kinds (R111). -/
inductive JumpKind where
  | first
  | forward
  | backward
  | dayChange
  | same
  deriving DecidableEq, Repr

/-- A jump kind's code (R111). -/
def jumpCode : JumpKind → Nat
  | .first => 0
  | .forward => 1
  | .backward => 2
  | .dayChange => 3
  | .same => 4

/-- The kind of a jump from the network time it replaces (R111). -/
def jumpKind (old : Option NetTime) (new : NetTime) : JumpKind :=
  match old with
  | none => .first
  | some t =>
    if t.day != new.day then .dayChange
    else if t.second = new.second then .same
    else if t.second < new.second then .forward
    else .backward

/-- What the Timetable Unit does on a jump, with an active bank (R111, R120, R121, R122). -/
def applyJump (kind : JumpKind) (old : Option NetTime) (new : NetTime) (s : State) : State :=
  match kind with
  | .first => reestablish s
  | .dayChange => clearMarks s |> reestablish
  | .forward => allEntries.foldl (forwardStep ((old.map fun t => t.second).getD 0) new) s
  | .backward => s
  | .same => s

/-- SET_TIME taken; a crossing that waits does not occur (R111). -/
def takeTime (new : NetTime) (s : State) : State :=
  let old := s.time.net
  let kind := jumpKind old new
  let t := raisePart .timeSet ((old.map fun o => o.second / 60).getD 65535) (jumpCode kind)
    { s with time := { s.time with net := some new, crossingWaits := false } }
  if planned s then applyJump kind old new t |> reevaluateCap else t

/-! ### Windows' ends (R118) -/

/-- An active window leaves the set, with its marking (R118, R124). -/
def endWindow (w : ActiveWindow) (marking : Nat) (s : State) : State :=
  { s with timetable := { s.timetable with windows := s.timetable.windows.filter fun d => d.entry != w.entry } } |>
    raiseHouse .ttEnded w.house w.entry.val marking |> notice w.house

/-! ### The passing of a second (R110) -/

/-- The limit of uptime (R110). -/
def uptimeLimit : Nat := 4294967295

/-- Whether a minute is the start minute of an in-use window that names the day (R113). -/
def windowStarts (pl : Plan) (day : Day) (minute : Nat) : Bool :=
  allWindows.any fun w => pl.tariff[w].inUse && dayIn pl.tariff[w].days day && pl.tariff[w].startMinute == minute

/-- A minute crossing (R113, R116). -/
def crossMinute (day : Day) (minute : Nat) (s : State) : State :=
  if planned s then
    let t := fireMinute day minute s
    if windowStarts (planOf t) day minute then reevaluateCap t else t
  else s

/-- A midnight crossing (R119). -/
def crossMidnight (day : Day) (s : State) : State :=
  if planned s then clearMarks s |> fireMinute day 0 |> reevaluateCap else s

/-- The store write's seconds counted (R183, log 34). -/
def ageWrite (s : State) : State :=
  { s with store := { s.store with writing := s.store.writing.map fun w => { w with age := w.age + 1 } } }

/-- Uptime advances by one second, and stops at its limit (R110). -/
def advanceUptime (s : State) : State :=
  ageWrite { s with time := { s.time with uptime := satSucc uptimeLimit s.time.uptime } }

/-- The network time one second later; the day of week advances at midnight (R110). -/
def nextSecond (t : NetTime) : NetTime :=
  if t.second = 86399 then { second := 0, day := t.day + 1 } else { second := t.second + 1, day := t.day }

/-- The second of day that comes next is a minute crossing's or a midnight crossing's (R110). -/
def crossingIsNext (s : State) : Bool := s.time.net.any fun t => decide ((nextSecond t).second % 60 = 0)

/-- Network time made to advance to a crossing, which is signalled: midnight in place of minute 0 (R110). Uptime advances
with it, unless it stands at that second already. -/
def cross (s : State) : State :=
  match s.time.net with
  | none => s
  | some t =>
    let a := if s.time.crossingWaits then s else advanceUptime s
    let b := { a with time := { a.time with net := some (nextSecond t), crossingWaits := false } }
    if t.second = 86399 then crossMidnight (nextSecond t).day b
    else crossMinute t.day ((nextSecond t).second / 60) b

/-- One second passes (R110): network time advances with uptime, or, where that makes a crossing, the crossing waits to be
taken (log 47). -/
def passSecond (s : State) : State :=
  let a := advanceUptime s
  if crossingIsNext s then { a with time := { a.time with crossingWaits := true } }
  else { a with time := { a.time with net := s.time.net.map nextSecond, crossingWaits := false } }

end Sys2Proof.Machine
end

