-- ==== Sys2Proof/Machine/Settle.lean ====
section
/-! DEFINITION. What an event hands on and the blocks take up before it ends: the end of the survey (R82), the shed test
(R101), the evaluations (R62), the admission passes (R96), then the next transaction after one that has ended (R146), and
the pins (R200, R201).
The order is that of R82, R108 and R176 (log 11). -/

namespace Sys2Proof.Machine

/-! ### The survey (R80 to R82) -/

/-- A station leaves the awaited set, by answering or by becoming SILENT; the survey ends when the set empties (R81). -/
def leaveAwaited (st : Station) (answering : Bool) (s : State) : State :=
  if s.survey.running && s.survey.awaited.contains st then
    let rest := s.survey.awaited.filter fun k => k != st
    { s with
      survey := { s.survey with
        awaited := rest, answered := if answering then s.survey.answered + 1 else s.survey.answered }
      work := { s.work with surveyEnd := s.work.surveyEnd || rest.isEmpty } }
  else s

/-- The pumps that the active bank has in use, in ascending order. -/
def pumpsInUse (s : State) : List Pump := allPumps.filter (pumpInUse s)

/-- The number of in-use pumps left UNCONFIRMED (R83). -/
def unconfirmedCount (s : State) : Nat :=
  ((pumpsInUse s).filter fun p => s.pumps[p].state == .unconfirmed).length

/-- The end of the survey (R82): adoption, SURVEY_DONE, re-booking with the shed test, and notices for every in-use house
before an admission pass. R82 orders the pumps nowhere; they are adopted in ascending index (DESIGN CHOICE, log 50). -/
def endSurvey (s : State) : State :=
  let adopted := (pumpsInUse s).foldl adoptAtSurveyEnd s
  let done := raisePart .surveyDone adopted.survey.answered (unconfirmedCount adopted)
    { adopted with survey := { adopted.survey with running := false } }
  (planOf done).housesInUse.foldl (fun s h => rebook resum h s) done |> resum |> callShedTest |>
    noticeAll (planOf done).housesInUse |> triggerPass

/-! ### The work of an event -/

/-- The first house named in a notice, in ascending index (R62). -/
def nextNotice (s : State) : Option House := allHouses.find? fun h => s.work.notices[h]

/-- A house's notice taken up: it is evaluated if it is in use (R6, R62). -/
def takeNotice (h : House) (s : State) : State :=
  let t := { s with work := { s.work with notices := s.work.notices.set h false } }
  if houseInUse t h then evaluateHouse h t else t

/-- The next piece of work taken up; none when nothing is left (log 11). -/
def workStep (s : State) : Option State :=
  if s.work.surveyEnd then some (endSurvey { s with work := { s.work with surveyEnd := false } })
  else if s.work.shedTest then some (shedTest { s with work := { s.work with shedTest := false } })
  else
    match nextNotice s with
    | some h => some (takeNotice h s)
    | none =>
      if s.work.passes = 0 then none
      else some (admissionPass { s with work := { s.work with passes := s.work.passes - 1 } })

/-- The work of an event taken up until none is left, the sums recomputed after each piece (R88). The bound only makes
the recursion structural: no event comes near it, and what it would cut off is dropped (log 11). -/
def settle : Nat → State → State
  | 0, s => { s with work := blankWork }
  | k + 1, s =>
    match workStep s with
    | none => s
    | some t => settle k (resum t)

/-- The bound of `settle`. -/
def workBound : Nat := 1000

/-- The work of an event taken up, from its changes on. -/
def settleAll (s : State) : State := settle workBound (resum s)

/-! ### The end of an event -/

/-- The attention output and BUS_DE (R200, R201): asserted while records wait, and while a request is being sent. -/
def drivePins (s : State) : State :=
  { s with
    attn := !s.inReset && !s.eventQueue.records.isEmpty
    busDe := !s.inReset && s.bus.flight.any fun f => f.sentAt.isNone }

/-- The bus goes on after a transaction that has ended in this event: the next one begins if an entry waits (R146). -/
def busGoesOn (s : State) : State := startTransaction { s with work := { s.work with busEnded := false } }

/-- The end of an event: its work, the next transaction, the pins. -/
def finish (s : State) : State := settleAll s |> busGoesOn |> drivePins

/-- An event of the part, by its effect: while the reset input is asserted the part takes no event (R193). -/
def live (effect : State → State) (s : State) : Host.Outcome State Fault Refusal :=
  .next (if s.inReset then s else finish (effect s))

end Sys2Proof.Machine
end

