-- ==== Sys2Proof/Machine/Delivery.lean ====
section
/-! DEFINITION. The Station Bus Controller's reception and delivery (chapter 8): reply frames and their tests (R148,
R149), the contents of good replies (R150 to R154), supervision (R160 to R162), and poll scheduling (R156). -/

namespace Sys2Proof.Machine

/-! ### Reply bodies (R150, R152, R154) -/

/-- A well-formed REPORT body (R150). -/
structure Report where
  interlock : Bool
  channels : List ChannelEntry
  pumps : List Reported
  alarms : List AlarmItem
  deriving DecidableEq, Repr

/-- Tank entries, four bytes each; the status must be 0 or 1 (R150). -/
def parseChannels : Nat → List Byte → Option (List ChannelEntry)
  | 0, _ => some []
  | k + 1, bs => do
    let failed ← match fieldAt bs 1 1 with
      | 0 => some false
      | 1 => some true
      | _ => none
    let rest ← parseChannels k (bs.drop 4)
    return { channel := fieldAt bs 0 1, failed, level := fieldAt bs 2 2 } :: rest

/-- A pump entry (R150). -/
def parseReported : Nat → Option Reported
  | 0 => some .run
  | 1 => some .stop
  | 2 => some .trip
  | 3 => some .localControl
  | _ => none

/-- Alarm items, two bytes each; position 255 means none (R150). -/
def parseAlarms : Nat → List Byte → List AlarmItem
  | k + 1, code :: position :: rest =>
    { code := ⟨code.toNat, code.isLt⟩
      position := if position.toNat = 255 then none else some position.toNat } :: parseAlarms k rest
  | _, _ => []

/-- A REPORT body, none if it is not well formed (R150). -/
def parseReport (body : List Byte) : Option Report := do
  let t := fieldAt body 1 1
  let p := fieldAt body (2 + 4 * t) 1
  let a := fieldAt body (3 + 4 * t + p) 1
  if t ≤ 2 ∧ 1 ≤ p ∧ p ≤ 4 ∧ a ≤ 6 ∧ body.length = 4 + 4 * t + p + 2 * a then
    let channels ← parseChannels t (body.drop 2)
    let pumps ← ((body.drop (3 + 4 * t)).take p).mapM fun b => parseReported b.toNat
    return { interlock := (fieldAt body 0 1).testBit 0, channels, pumps
             alarms := parseAlarms a (body.drop (4 + 4 * t + p)) }
  else none

/-- The outcome of an order: ACCEPTED, or REFUSED with a reason (R152). -/
inductive OrderOutcome where
  | accepted
  | refused (reason : RefuseReason)
  deriving DecidableEq, Repr

/-- An ORDER_REPLY body, its tag and outcome, none if it is not well formed (R152). -/
def parseOrderReply (body : List Byte) : Option (Nat × OrderOutcome) :=
  if body.length = 3 then
    match fieldAt body 1 1, fieldAt body 2 1 with
    | 0, 0 => some (fieldAt body 0 1, .accepted)
    | 1, 1 => some (fieldAt body 0 1, .refused .localControl)
    | 1, 2 => some (fieldAt body 0 1, .refused .tripped)
    | 1, 3 => some (fieldAt body 0 1, .refused .interlocked)
    | 1, 4 => some (fieldAt body 0 1, .refused .unknownPump)
    | _, _ => none
  else none

/-- A METER_REPLY body: the reading with status OK, absent with status FAULT; none if it is not well formed (R154). -/
def parseMeterReply (body : List Byte) : Option (Option Nat) :=
  if body.length = 5 then
    match fieldAt body 4 1 with
    | 0 => some (some (fieldAt body 0 4))
    | 1 => some none
    | _ => none
  else none

/-! ### Supervision (R156, R160 to R162) -/

/-- The poll-due of a unit set at the end of its poll (R156). -/
def setPollDue (unit : BusUnit) (s : State) : State :=
  match unit with
  | .station st =>
    updStation st (fun r => { r with pollDue := some (now s + (planOf s).stations[st].pollInterval) }) s
  | .meter => updMeterUnit (fun r => { r with pollDue := some (now s + (planOf s).header.meterPoll) }) s

/-- Notices for the house a station serves, if it serves one. -/
def noticeServed (st : Station) (s : State) : State :=
  match (planOf s).servedHouse st with
  | none => s
  | some h => notice h s

/-- Supervision takes a good reply of a station (R161). -/
def goodReply (st : Station) (s : State) : State :=
  let r := s.bus.stations[st]
  let t := updStation st
    (fun r => { r with state := .online, silence := 0, lastGood := some (now s), good := satSucc 65535 r.good }) s
  if r.state == .online then t
  else
    raise .stationOnline ((planOf s).servedHouse st) none none (stationAddress st) (stationStateCode r.state) t |>
      noticeServed st

/-- What the silence of a station does to the house it serves: its pumps and its queue entries (R162 steps 2 and 3). -/
def silenceHouse (st : Station) (s : State) : State :=
  match (planOf s).servedHouse st with
  | none => s
  | some h => (pumpsOf h).foldl silencePump s |> dropHouseQueue h

/-- A station becomes SILENT (R162). -/
def becomeSilent (st : Station) (reason : FailReason) (s : State) : State :=
  updStation st (fun r => { r with state := .silent }) s |>
    raise .stationSilent ((planOf s).servedHouse st) none none (stationAddress st) (failReasonCode reason) |>
    silenceLevels st |> silenceHouse st |> leaveAwaited st false |> noticeServed st

/-- Supervision takes a failed transaction with a station (R162). -/
def noteFailure (st : Station) (reason : FailReason) (s : State) : State :=
  let t := updStation st
    (fun r => { r with silence := satSucc 255 r.silence, failed := satSucc 65535 r.failed, lastFail := some reason }) s
  if t.bus.stations[st].state != .silent && (planOf s).header.silenceLimit ≤ t.bus.stations[st].silence then
    becomeSilent st reason t
  else t

/-! ### Good replies (R151, R153, R154) -/

/-- The alarm items, pump entries and interlock flag of a good REPORT (R151 step 3). -/
def applyReportHouse (st : Station) (r : Report) (s : State) : State :=
  match (planOf s).servedHouse st with
  | none => noteItems st r.alarms s
  | some h => applyPumpEntries h r.pumps s |> applyItems h r.alarms |> applyInterlock h r.interlock

/-- A good REPORT delivered (R151). -/
def deliverReport (st : Station) (r : Report) (s : State) : State :=
  goodReply st s |> applyLevels st r.channels |> applyReportHouse st r |> leaveAwaited st true |>
    setPollDue (.station st)

/-- The Pump Table takes the outcome of a start order, whose pump is ORDERED (R41, R42, R153). -/
def startOutcome (p : Pump) (o : OrderOutcome) (s : State) : State :=
  if s.pumps[p].state == .ordered then
    match o with
    | .accepted => startAccepted p s
    | .refused reason => startRefused reason p s
  else s

/-- The Pump Table takes the outcome of a stop order, whose pump is STOPPING (R46, R47, R153). -/
def stopOutcome (p : Pump) (o : OrderOutcome) (s : State) : State :=
  if s.pumps[p].state == .stopping then
    match o with
    | .accepted => stopAccepted p s
    | .refused reason => stopRefused reason p s
  else s

/-- The Pump Table takes the outcome of an order (R153). -/
def orderOutcome (o : Order) (out : OrderOutcome) (s : State) : State :=
  match o.command with
  | .start => startOutcome o.pump out s
  | .stop => stopOutcome o.pump out s

/-- What follows at the house: the interlock of an INTERLOCKED refusal (R142), and the main settle of an ACCEPTED reply
(R71). -/
def houseOutcome (h : House) (out : OrderOutcome) (s : State) : State :=
  match out with
  | .accepted => setMainSettle h s
  | .refused .interlocked => interlockOn h 1 s
  | .refused .localControl => s
  | .refused .tripped => s
  | .refused .unknownPump => s

/-- A good ORDER_REPLY delivered (R153). A SILENT station that returns is asked for an urgent poll (R161). -/
def deliverOrderReply (st : Station) (o : Order) (out : OrderOutcome) (s : State) : State :=
  let t := goodReply st s
  let u := if s.bus.stations[st].state == .silent then requestUrgent (.station st) t else t
  orderOutcome o out u |> houseOutcome (houseOf o.pump) out

/-- A good METER_REPLY delivered (R154). -/
def deliverMeterReply (reading : Option Nat) (s : State) : State :=
  let t := updMeterUnit (fun r => { r with good := satSucc 65535 r.good }) s
  (match reading with
   | none => t
   | some power => goodReading power t) |> setPollDue .meter

/-! ### Failures (R149, R153) -/

/-- The Pump Table takes the timeout of an order (R43, R48). -/
def orderTimedOut (o : Order) (s : State) : State :=
  match o.command with
  | .start => if s.pumps[o.pump].state == .ordered then startTimedOut o.pump s else s
  | .stop => if s.pumps[o.pump].state == .stopping then stopTimedOut o.pump s else s

/-- Supervision's part of a failure: a station's, or the counts of the meter unit (R160, R162). -/
def failUnit (unit : BusUnit) (reason : FailReason) (s : State) : State :=
  match unit with
  | .station st => noteFailure st reason s
  | .meter => updMeterUnit (fun r => { r with failed := satSucc 65535 r.failed, lastFail := some reason }) s

/-- A failed transaction delivered as the failure of its request (R149, R153). -/
def deliverFailure (f : Flight) (reason : FailReason) (s : State) : State :=
  match f.request with
  | .poll => failUnit f.unit reason s |> setPollDue f.unit
  | .meterPoll => failUnit f.unit reason s |> setPollDue f.unit
  | .order o _ => orderTimedOut o s |> setMainSettle (houseOf o.pump) |> failUnit f.unit reason

/-! ### Frames (R148, R149) -/

/-- Whether a reply frame is complete: 5 bytes and the body length of its byte 2 (R147, R148). -/
def replyComplete (bs : List Byte) : Bool :=
  match bs[2]? with
  | none => false
  | some n => decide (5 + n.toNat ≤ bs.length)

/-- The body of a complete frame (R147). -/
def replyBody (bs : List Byte) : List Byte := (bs.drop 3).take (bs.length - 5)

/-- What a good reply carries. -/
inductive GoodReply where
  | report (st : Station) (r : Report)
  | order (st : Station) (o : Order) (out : OrderOutcome)
  | meter (reading : Option Nat)
  deriving DecidableEq, Repr

/-- The contents of a frame whose CRC, address and kind are right: the last two tests (R149). A transaction's unit is a
station for a POLL or an ORDER, the meter for a METER_POLL. -/
def testContents (f : Flight) (body : List Byte) : Except FailReason GoodReply :=
  match f.request, f.unit with
  | .poll, .station st =>
    match parseReport body with
    | some r => .ok (.report st r)
    | none => .error .malformed
  | .order o tag, .station st =>
    match parseOrderReply body with
    | some (t, out) => if t = tag then .ok (.order st o out) else .error .wrongTag
    | none => .error .malformed
  | .meterPoll, .meter =>
    match parseMeterReply body with
    | some reading => .ok (.meter reading)
    | none => .error .malformed
  | .poll, .meter => .error .malformed
  | .order _ _, .meter => .error .malformed
  | .meterPoll, .station _ => .error .malformed

/-- The tests of a complete frame, in their order (R149). -/
def testReply (f : Flight) (bs : List Byte) : Except FailReason GoodReply :=
  if !crcMatches bs then .error .badCrc
  else if fieldAt bs 0 1 ≠ unitAddress f.unit + 128 then .error .wrongAddress
  else if fieldAt bs 1 1 ≠ replyKind f.request then .error .wrongKind
  else testContents f (replyBody bs)

/-- The outcome of a transaction delivered. -/
def deliverOutcome (f : Flight) (r : Except FailReason GoodReply) (s : State) : State :=
  match r with
  | .error reason => deliverFailure f reason s
  | .ok (.report st rep) => deliverReport st rep s
  | .ok (.order st o out) => deliverOrderReply st o out s
  | .ok (.meter reading) => deliverMeterReply reading s

/-- A transaction ends: the outcome is delivered and the bus becomes IDLE (R146); the outcome of a transaction whose
station has gone out of use is discarded (R164). What joins in this event waits for its end (log 45). -/
def endTransaction (f : Flight) (r : Except FailReason GoodReply) (s : State) : State :=
  let t := { s with bus := { s.bus with flight := none }, work := { s.work with busEnded := true } }
  if f.discarded then t else deliverOutcome f r t

/-- A byte arrives while a transaction waits for its reply (R148). -/
def joinReply (f : Flight) (b : Byte) (s : State) : State :=
  let bs := f.partialReply ++ [b]
  if replyComplete bs then endTransaction f (testReply f bs) s
  else { s with bus := { s.bus with flight := some { f with partialReply := bs } } }

/-- A byte arrives on the station bus: it is discarded while the bus is IDLE and before the request's end (R148). -/
def takeBusByte (s : State) (b : Byte) : State :=
  match s.bus.flight with
  | none => s
  | some f => if f.sentAt.isSome then joinReply f b s else s

/-- Bytes arrive one after another. Those after a complete frame find the bus with no transaction, and are discarded
(R148). -/
def takeBusBytes (bs : List Byte) (s : State) : State := bs.foldl takeBusByte s

/-- The last byte of the request leaves the line (R146). -/
def requestSent (s : State) : State :=
  match s.bus.flight with
  | none => s
  | some f =>
    if f.sentAt.isNone then { s with bus := { s.bus with flight := some { f with sentAt := some (now s) } } } else s

/-- The reply timeout expires (R149). -/
def replyTimedOut (s : State) : State :=
  match s.bus.flight with
  | none => s
  | some f => if f.sentAt.isSome then endTransaction f (.error .timeout) s else s

/-- 50 ms pass inside an incomplete frame: it is discarded, and the transaction goes on waiting (R148). -/
def busGap (s : State) : State :=
  match s.bus.flight with
  | none => s
  | some f => { s with bus := { s.bus with flight := some { f with partialReply := [] } } }

/-! ### Poll-due (R156) -/

/-- The poll-due of a unit. -/
def pollDueOf (s : State) : BusUnit → Option Nat
  | .station st => s.bus.stations[st].pollDue
  | .meter => s.bus.meter.pollDue

/-- Whether a poll of a unit is in flight. -/
def pollInFlight (s : State) (unit : BusUnit) : Bool :=
  s.bus.flight.any fun f => f.unit == unit &&
    match f.request with
    | .poll => true
    | .meterPoll => true
    | .order _ _ => false

/-- A unit's poll-due becomes absent. -/
def clearPollDue (unit : BusUnit) (s : State) : State :=
  match unit with
  | .station st => updStation st (fun r => { r with pollDue := none }) s
  | .meter => updMeterUnit (fun r => { r with pollDue := none }) s

/-- A unit's poll-due is reached: a routine poll joins unless a poll of the unit is queued or in flight (R156). -/
def pollDueReached (unit : BusUnit) (s : State) : State :=
  let t := clearPollDue unit s
  if pollInFlight s unit then t else requestRoutine unit t

end Sys2Proof.Machine
end

