-- ==== Sys2Proof/Machine/Restart.lean ====
section
/-! DEFINITION. The restarts (R193, R180, R181, R196) and the form every block takes with an active bank: R17, R30, R36,
R56, R61, R80, R107, R123, R143 and R163. The first BANK_SWAP out of UNPLANNED uses the same form (R177). -/

namespace Sys2Proof.Machine

/-! ### The form of each block with an active bank -/

/-- A pump in use is UNCONFIRMED with the presumed-running booking; one not in use is UNUSED (R36). -/
def startPump (s : State) (p : Pump) : PumpLive :=
  if pumpInUse s p then
    { blankPump with state := .unconfirmed
                     booking := drawB s p (planOf s).houses[houseOf p].pumpCount }
  else blankPump

/-- A live house record (R61), with every in-use pump in its duty list in ascending position (R56). -/
def startHouse (s : State) (h : House) : HouseLive :=
  if houseInUse s h then
    { blankHouse with mode := (planOf s).houses[h].initialMode, dutyList := (planOf s).pumpsInUse h }
  else blankHouse

/-- The in-use stations of the active bank, in ascending address. -/
def stationsInUse (s : State) : List Station := allStations.filter fun st => (planOf s).stations[st].inUse

/-- The Station Bus Controller set up: an urgent poll of each in-use station in ascending address, and behind them the
METER_POLL that the meter's poll-due, reached at once, brings (R163). -/
def startBus (s : State) : State :=
  (stationsInUse s).foldl (fun s st => requestUrgent (.station st) s) { s with bus := blankBus } |>
    pollDueReached .meter

/-- The records of levels, pumps, houses and protection set up, without a shed test or an admission pass (R107). -/
def startRecords (s : State) : State :=
  let a : State :=
    { s with
      levels := Vector.replicate 12 blankLevel
      hydraulics := Vector.replicate 8 blankHydraulics
      pumps := Vector.ofFn (startPump s)
      houses := Vector.ofFn (startHouse s)
      protection := Vector.replicate 8 blankProtection
      noteSets := Vector.replicate 12 []
      feeder := blankFeeder
      timetable := blankTimetable }
  let b : State :=
    { a with feeder := { a.feeder with committed := sumBookings a, committedForShed := sumForShed a } }
  (planOf b).housesInUse.foldl startHydraulics b

/-- The tariff window and the cap at a start: TARIFF_WINDOW is raised only when a window is found (R107, R123). -/
def startCap (s : State) : State :=
  let w := windowNow s
  let cap := capOf (planOf s) w
  let t := { s with
    timetable := { s.timetable with windowInForce := w }
    feeder := { s.feeder with cap := cap } }
  match w with
  | none => t
  | some k => raisePart .tariffWindow cap k.val t

/-- The survey begins; with no station in use it ends after these steps (R80, R81). -/
def startSurvey (s : State) : State :=
  { s with
    survey := { running := true, awaited := stationsInUse s, answered := 0 }
    work := { s.work with surveyEnd := s.work.surveyEnd || (stationsInUse s).isEmpty } }

/-- Every block in its form after a restart with an active bank, at the uptime as it stands. -/
def startPlanned (s : State) : State :=
  startBus s |> startRecords |> reestablish |> startCap |> startSurvey

/-! ### The restarts -/

/-- What the banks, the store and the reason of STORE_INVALID come to when the image is tested (R180). -/
structure Loaded where
  banks : PlanBanks
  store : PlanStore
  invalid : Option Nat
  deriving DecidableEq, Repr

/-- Both banks EMPTY with a reason: 0 for a CRC that does not match, 1 for a relation that fails (R180). -/
def loadNothing (image : Option Plan) (reason : Nat) : Loaded :=
  { banks := { a := emptyBank, b := emptyBank, active := none }
    store := { image, valid := false, writing := none }
    invalid := some reason }

/-- A plan that passes the relations loaded into bank A (R180). -/
def loadPlan (pl : Plan) : Loaded :=
  { banks :=
      { a := { plan := pl, state := .checked, lastCheck := .passed, table := some (bookingTable pl) }
        b := emptyBank, active := some .a }
    store := { image := some pl, valid := true, writing := none }
    invalid := none }

/-- The image tested at POWER_ON and RESET_LINE (R180). A write in progress is abandoned: its image was INVALID from the
request on and holds nothing. -/
def loadStore (image : Option Plan) (crcMatches : Bool) : Loaded :=
  match image with
  | none => loadNothing none 0
  | some pl =>
    if crcMatches then
      match firstFailure pl with
      | none => loadPlan pl
      | some _ => loadNothing (some pl) 1
    else loadNothing (some pl) 0

/-- The rate code of the two straps (R194). -/
def rateOf (strap1 strap0 : Bool) : Fin 4 :=
  match strap1, strap0 with
  | false, false => 0
  | false, true => 1
  | true, false => 2
  | true, true => 3

/-- The Event Queue re-formed, with RESTARTED first in it (R199). -/
def restartedFirst (cause : RestartCause) (s : State) : State :=
  raisePart .restarted (restartCode cause) s.rateCode.val
    { s with eventQueue := { records := [], overflow := false, nextSeq := 0 } }

/-- Every block in its form without an active bank (R182, R194), banks, store, network time and rate aside. -/
def clearBlocks (cause : RestartCause) (s : State) : State :=
  { s with
    inReset := false
    restartCause := cause
    time := { s.time with uptime := 0, crossingWaits := false }
    bus := blankBus
    levels := Vector.replicate 12 blankLevel
    hydraulics := Vector.replicate 8 blankHydraulics
    pumps := Vector.replicate 32 blankPump
    houses := Vector.replicate 8 blankHouse
    survey := blankSurvey
    feeder := blankFeeder
    timetable := blankTimetable
    protection := Vector.replicate 8 blankProtection
    noteSets := Vector.replicate 12 []
    link := blankLink
    work := blankWork }

/-- A restart once the banks, the store, network time and the rate stand as it leaves them (R193). -/
def restartWith (cause : RestartCause) (invalid : Option Nat) (s : State) : State :=
  let a := clearBlocks cause s |> restartedFirst cause
  let b := match invalid with
    | none => a
    | some reason => raisePart .storeInvalid reason 0 a
  finish (if planned b then startPlanned b else b)

/-- POWER_ON and RESET_LINE: the store is loaded, the straps are sampled, network time is UNSET (R110, R180, R194). -/
def coldRestart (cause : RestartCause) (strap1 strap0 crcMatches : Bool) (s : State) : State :=
  let l := loadStore s.store.image crcMatches
  restartWith cause l.invalid
    { s with banks := l.banks, store := l.store, time := { s.time with net := none }
             rateCode := rateOf strap1 strap0 }

/-- HOST_RESTART: banks, store, a SET network time and the rate are kept (R110, R181, R194, R196). -/
def hostRestarts (s : State) : State := restartWith .hostRestart none s

/-- RESET_N goes low: a reply being sent is cut off, and the part sends nothing and holds its outputs deasserted (R193,
log 10). -/
def enterReset (s : State) : State :=
  { s with inReset := true, attn := false, busDe := false, link := { s.link with reply := none } }

end Sys2Proof.Machine
end

