-- ==== Sys2Proof/Machine/Swap.lean ====
section
/-! DEFINITION. BANK_SWAP (R175 to R177): its tests, and how each block carries its state over to the new active bank:
R31, R32, R57, R61, R79, R81, R95, R108, R124, R144 and R164. Each step takes the plan that was active before. -/

namespace Sys2Proof.Machine

/-! ### The tests (R175) -/

/-- A failed test of BANK_SWAP (R175): BANK_ACTIVE, NOT_CHECKED, or CONFLICT with the record kind and index. -/
inductive SwapFailure where
  | bankActive
  | notChecked
  | conflict (kind : TableKind) (index : Nat)
  deriving DecidableEq, Repr

/-- The states in which a pump's house may change its station, lose pumps or go out of use (R175 test 5). -/
def swapIdle : PumpState → Bool
  | .unused | .rest | .ready => true
  | .queued | .ordered | .starting | .running | .stopping | .unconfirmed | .localControl | .faulted
  | .isolated => false

/-- Whether a house of the active bank fails test 5 against a new plan (R175). -/
def houseConflict (s : State) (new : Plan) (h : House) : Bool :=
  (!new.houses[h].inUse || new.houses[h].station != (planOf s).houses[h].station ||
    decide (new.houses[h].pumpCount < (planOf s).houses[h].pumpCount)) &&
  !(pumpsIn s h fun st => !swapIdle st).isEmpty

/-- The tests of BANK_SWAP after the bank byte, in their order (R175). -/
def swapTest (s : State) (k : BankId) : Option SwapFailure :=
  let new := (bankOf s k).plan
  if s.banks.active == some k then some .bankActive
  else if (bankOf s k).state != .checked then some .notChecked
  else if new.header.permitCount < permitCountHeld s then some (.conflict .header 0)
  else ((planOf s).housesInUse.find? (houseConflict s new)).map fun h => .conflict .house h.val

/-! ### Step 1: stations (R164) -/

/-- The transaction in flight to a station that goes out of use: its outcome will be discarded (R164). -/
def discardFlight (st : Station) (s : State) : State :=
  { s with bus := { s.bus with
      flight := s.bus.flight.map fun f => if f.unit == .station st then { f with discarded := true } else f } }

/-- A station that goes out of use (R164). -/
def dropStation (s : State) (st : Station) : State :=
  updStation st (fun _ => blankStation) s |> dropPoll (.station st) |> discardFlight st

/-- A station that comes into use (R164). -/
def addStation (s : State) (st : Station) : State :=
  updStation st (fun _ => blankStation) s |> requestUrgent (.station st)

/-- The stations in use in one plan and not in another, in ascending address. -/
def stationsOnlyIn (pl other : Plan) : List Station :=
  allStations.filter fun st => pl.stations[st].inUse && !other.stations[st].inUse

/-- The Station Bus Controller at a swap (R164). -/
def carryStations (old : Plan) (s : State) : State :=
  (stationsOnlyIn (planOf s) old).foldl addStation ((stationsOnlyIn old (planOf s)).foldl dropStation s)

/-! ### Step 2: protection (R144) -/

/-- A house's protection record kept: its list emptied, its interlock kept if its station is the same (R144). -/
def keepProtection (old : Plan) (h : House) (s : State) : State :=
  let moved := old.houses[h].station != (planOf s).houses[h].station
  let t := updProtection h
    (fun r => { r with alarms := [], interlock := r.interlock && !moved }) s
  if moved && s.protection[h].interlock then
    raiseHouse .interlockOff h 2 (stationAddress old.houses[h].station) t
  else t

/-- A house's protection record at a swap (R144). -/
def carryProtection (old : Plan) (s : State) (h : House) : State :=
  if old.houses[h].inUse && houseInUse s h then keepProtection old h s
  else updProtection h (fun _ => blankProtection) s

/-- The Protection Unit at a swap (R144). The houses, and so their INTERLOCK_OFF events, are in ascending index (DESIGN
CHOICE, log 53). -/
def carryAllProtection (old : Plan) (s : State) : State :=
  { allHouses.foldl (carryProtection old) s with noteSets := Vector.replicate 12 [] }

/-! ### Step 3: houses and pumps (R6, R57, R61, R79) -/

/-- A live house record at a swap; the pumps that come into use join its duty list afterwards (R61, R79). -/
def carryHouse (old : Plan) (s : State) (h : House) : State :=
  let new := (planOf s).houses[h]
  if old.houses[h].inUse && new.inUse then
    updHouse h (fun r => { r with manualTarget := min r.manualTarget new.pumpCount }) s
  else if new.inUse then updHouse h (fun _ => { blankHouse with mode := new.initialMode }) s
  else updHouse h (fun _ => blankHouse) s

/-- A pump kept over a swap: a QUEUED one whose start history is at or above its new limit goes back to READY (R57). -/
def keepPump (p : Pump) (s : State) : State :=
  if (pumpPlan s p).startsPerHour ≤ s.pumps[p].history.length then unqueue p s else s

/-- A pump at a swap (R57). One that goes out of use or comes into use has no Start Queue entry afterwards (R92, R94). -/
def carryPump (old : Plan) (s : State) (p : Pump) : State :=
  if old.pumps[p].inUse && pumpInUse s p then keepPump p s
  else if old.pumps[p].inUse then leaveStartQueue p s |> updPump p (fun _ => blankPump) |> leaveDuty p
  else if pumpInUse s p then
    leaveStartQueue p s |> updPump p (fun _ => { blankPump with state := .ready }) |> joinDuty p |> urgentPollOf p
  else s

/-- The Pump Table and the live house records at a swap (R57, R61, R79). Pumps that come into use join their duty lists in
ascending index (DESIGN CHOICE, log 53). -/
def carryPumps (old : Plan) (s : State) : State :=
  allPumps.foldl (carryPump old) (allHouses.foldl (carryHouse old) s)

/-! ### Step 4: levels, conditions and positions (R31, R32) -/

/-- A level record kept over a swap, clamped to the new height (R31). -/
def keepLevel (t : Tank) (s : State) : State :=
  let height := (planOf s).tanks[t].height
  match s.levels[t].value with
  | none => s
  | some v =>
    if height < v then
      let a := updLevel t (fun r => { r with value := some height, clampEpisode := true }) s
      if s.levels[t].clampEpisode then a else raise .levelClamped none none (some t) v height a
    else s

/-- A level record at a swap (R31). -/
def carryLevel (old : Plan) (s : State) (t : Tank) : State :=
  let new := (planOf s).tanks[t]
  if old.tanks[t].inUse && new.inUse && old.tanks[t].station == new.station && old.tanks[t].channel == new.channel then
    keepLevel t s
  else updLevel t (fun _ => blankLevel) s

/-- A condition whose tank has changed is reset; CONDITION_OFF is raised if it was active, with the tank that it had
(R32, R33, log 42). -/
def resetCondition (old : Plan) (h : House) (c : Condition) (s : State) : State :=
  if conditionTank old h c = conditionTank (planOf s) h c then s
  else
    let t := updHydraulics h (putCondition c blankCondition) s
    if (conditionOf s.hydraulics[h] c).active then
      raiseCondition .conditionOff h (conditionTank old h c) c 65535 t
    else t

/-- Position flags at a swap: cleared if the tank has changed, discarded at or beyond the new pump count (R32). -/
def carryPositions (sameTank : Bool) (n : Nat) (flags : Vector Bool 4) : Vector Bool 4 :=
  Vector.ofFn fun i => sameTank && decide (i.val < n) && flags[i]

/-- A house's conditions and positions at a swap, before the level updates (R32). A house that comes into use takes the
form of R30, and the level updates that follow may raise CONDITION_ON for it (DESIGN CHOICE, log 49). -/
def carryHydraulics (old : Plan) (s : State) (h : House) : State :=
  let new := (planOf s).houses[h]
  if old.houses[h].inUse && new.inUse then
    resetCondition old h .suctionLow s |> resetCondition old h .overflow |> resetCondition old h .lowAlarm |>
      updHydraulics h fun y =>
        { y with wanted := carryPositions (old.houses[h].delivery == new.delivery) new.pumpCount y.wanted }
  else updHydraulics h (fun _ => blankHydraulics) s

/-- The tanks in use in the active bank, in ascending index. -/
def tanksInUse (s : State) : List Tank := allTanks.filter fun t => (planOf s).tanks[t].inUse

/-- The Level Tracker at a swap: records, then conditions and positions, then a level update of every tank (R31, R32).
Within each the order is ascending, and the resets stand before the updates (DESIGN CHOICE, log 48). -/
def carryLevels (old : Plan) (s : State) : State :=
  let a := allHouses.foldl (carryHydraulics old) (allTanks.foldl (carryLevel old) s)
  (tanksInUse a).foldl (fun s t => levelUpdate t s) a

/-! ### Step 5: timetable (R124) -/

/-- Whether an active window is kept: its entry is in use with the same house and kind (R124 step 1). -/
def keepsWindow (old : Plan) (s : State) (w : ActiveWindow) : Bool :=
  let new := entryOf s w.entry
  new.inUse && new.house == w.house && new.kind == old.timetable[w.entry].kind

/-- The windows that a swap ends (R124 step 1), in the order of the active set (DESIGN CHOICE, log 53). -/
def endWindows (old : Plan) (s : State) : State :=
  (s.timetable.windows.filter fun w => !keepsWindow old s w).foldl (fun s w => endWindow w 1 s) s

/-- The fired-today marks kept for entries in use (R124 step 2). -/
def carryMarks (s : State) : State :=
  { s with timetable := { s.timetable with
      fired := Vector.ofFn fun e => s.timetable.fired[e] && (entryOf s e).inUse } }

/-- The Timetable Unit at a swap (R124). -/
def carryTimetable (old : Plan) (s : State) : State := endWindows old s |> carryMarks |> reestablish |> reevaluateCap

/-! ### Step 6: the feeder (R108) -/

/-- A pump's booking from the new table (R108 step 1). -/
def newBooking (s : State) (p : Pump) : Nat :=
  let r := s.pumps[p]
  match r.state with
  | .ordered => chargeS s p (r.admittedM.getD 0)
  | .starting => chargeS s p (r.admittedM.getD 0)
  | .running => drawB s p (bookingCount s (houseOf p))
  | .stopping => drawB s p (bookingCount s (houseOf p))
  | .unconfirmed => r.booking
  | .unused => 0
  | .rest => 0
  | .ready => 0
  | .queued => 0
  | .localControl => 0
  | .faulted => 0
  | .isolated => 0

/-- Every booking recomputed, and the sums (R108 step 1). -/
def rebookAll (s : State) : State :=
  resum { s with pumps := Vector.ofFn fun p => { s.pumps[p] with booking := newBooking s p } }

/-- The Feeder Budget Unit at a swap: bookings, the queue's order, the meter, and the call for the shed test (R108 steps 1
to 6). K and the cap are read where they stand. -/
def carryFeeder (s : State) : State := rebookAll s |> resortQueue |> meterAtSwap |> callShedTest

/-! ### Step 7: the survey (R81) -/

/-- The awaited set adjusted while the survey runs (R81). -/
def carrySurvey (old : Plan) (s : State) : State :=
  if s.survey.running then
    { s with survey := { s.survey with
        awaited := (s.survey.awaited.filter fun st => (planOf s).stations[st].inUse) ++
          stationsOnlyIn (planOf s) old } }
  else s

/-- The survey ends after the swap's own work if its awaited set is empty (R81, R176 step 10). -/
def endSwapSurvey (s : State) : State :=
  { s with work := { s.work with
      surveyEnd := s.work.surveyEnd || (s.survey.running && s.survey.awaited.isEmpty) } }

/-! ### The swap (R176, R177) -/

/-- The selection and BANK_SWAPPED (R176, R177). -/
def selectBank (k : BankId) (s : State) : State :=
  let t := { s with banks := { s.banks with active := some k } }
  raiseLabel .bankSwapped (planOf t).header.label t

/-- A swap between two planned banks (R176). -/
def swapPlanned (old : Plan) (s : State) : State :=
  carryStations old s |> carryAllProtection old |> carryPumps old |> carryLevels old |> carryTimetable old |>
    carryFeeder |> carrySurvey old |> fun t =>
    noticeAll (planOf t).housesInUse t |> triggerPass |> settleAll |> endSwapSurvey

/-- An accepted BANK_SWAP (R176, R177). -/
def takeSwap (k : BankId) (s : State) : State :=
  let t := selectBank k s
  if planned s then swapPlanned (planOf s) t else startPlanned t

end Sys2Proof.Machine
end

