-- ==== Sys2Proof/Machine/StateRead.lean ====
section
/-! DEFINITION. The contents of STATE_READ (R191, R192, R33, R58, R83, R109, R125, R145, R165, R183). The content of a
subject is a list of items, each a run of bytes that no page splits: every single value is an item, and of a list of
varying length the count and each element. Widths and codes that the rules leave open are those of log 29. -/

namespace Sys2Proof.Machine

/-! ### Items -/

/-- One item of a subject's content. -/
abbrev Item := List Byte

/-- A value in k bytes. -/
def num (k n : Nat) : Item := toBytes k n

/-- A value in k bytes, all ones where it is absent (R191). -/
def opt (k : Nat) (n : Option Nat) : Item :=
  match n with
  | none => List.replicate k 0xFF#8
  | some n => toBytes k n

/-- Yes and no, coded 1 and 0 (R190). -/
def flag (b : Bool) : Item := toBytes 1 (encodeFlag b)

/-- A list of varying length: a one-byte count, then its elements (R191). -/
def listItems (es : List Item) : List Item := toBytes 1 es.length :: es

/-- The seconds that remain to an uptime (four bytes), absent where the time is. -/
def secondsTo (s : State) (t : Option Nat) : Item := opt 4 (t.map fun t => t - now s)

/-- The seconds since an uptime (four bytes), absent where the time is. -/
def secondsSince (s : State) (t : Option Nat) : Item := opt 4 (t.map fun t => now s - t)

/-- A pump index, 255 where it is absent. -/
def pumpByte (p : Option Pump) : Item := opt 1 (p.map fun p => p.val)

/-! ### TANK (R33) -/

/-- The in-use houses that name a tank as suction or delivery tank, in ascending index, which R33 leaves open (DESIGN CHOICE,
log 54). -/
def housesNaming (s : State) (t : Tank) : List House :=
  (planOf s).housesInUse.filter fun h =>
    (planOf s).houses[h].suction == some t || (planOf s).houses[h].delivery == t

/-- The content of subject TANK (R33). -/
def tankContent (s : State) (t : Tank) : List Item :=
  let r := s.levels[t]
  [opt 2 r.value, num 1 (qualityCode r.quality), secondsSince s r.lastGood, flag r.clampEpisode] ++
  listItems ((housesNaming s t).map fun h => num 1 h.val)

/-! ### HOUSE (R33, R83, R145) -/

/-- A condition's active flag and pending state (R33). -/
def conditionItems (s : State) (c : ConditionRecord) : List Item :=
  [flag c.active, flag c.pending.isSome, secondsSince s (c.pending.map fun p => p.since)]

/-- What R33 gives of a house. -/
def hydraulicItems (s : State) (h : House) : List Item :=
  let y := s.hydraulics[h]
  conditionItems s y.suctionLow ++ conditionItems s y.overflow ++ conditionItems s y.lowAlarm ++
  listItems ((y.wanted.toList.take (planOf s).houses[h].pumpCount).map flag) ++
  [num 1 (nLevel y), flag y.degraded]

/-- What R83 gives of a house beside R33's items. The interlock is a flag, 1 present and 0 absent (DESIGN CHOICE, log 54). -/
def dispatchItems (s : State) (h : House) : List Item :=
  let r := s.houses[h]
  let q := s.protection[h]
  let st := stationOf s h
  [num 1 (encodeMode r.mode), num 1 r.manualTarget, num 1 r.want, num 1 (limitCode r.limit),
   num 1 (onCount s h), num 1 (bookingCount s h), flag r.shortfall, flag (mainSettled s h),
   secondsTo s r.mainSettledAt, flag (mainFree s h)] ++
  listItems (r.dutyList.map fun p => num 1 p.val) ++
  [num 1 (protStateCode q.state), flag q.interlock, flag (inhibited s h), flag q.suppression,
   num 1 (stationAddress st), num 1 (stationStateCode s.bus.stations[st].state),
   opt 1 (largestFloor s h), opt 1 (smallestCeiling s h)]

/-- One element of an alarm list (R145). -/
def alarmItem (s : State) (e : AlarmEntry) : Item :=
  num 1 e.code.val ++ pumpByte e.pump ++ num 1 (encodeAction (actionOf s e.code)) ++
  flag e.activeAt.isNone ++ secondsSince s (some e.firstSeen) ++ secondsTo s e.activeAt

/-- One element of a fault record (R145). -/
def faultItem (s : State) (e : FaultEntry) : Item :=
  num 1 e.code.val ++ pumpByte e.pump ++ secondsSince s (some e.firstTime) ++ num 1 e.count

/-- What R145 gives of a house beside what R83 has given. -/
def protectionItems (s : State) (h : House) : List Item :=
  let q := s.protection[h]
  [num 1 q.attempts, opt 1 (q.causeCode.map fun c => c.val), secondsTo s q.recoveryUntil, secondsTo s q.forgiveAt] ++
  listItems (q.alarms.map (alarmItem s)) ++ [flag q.listFull] ++ listItems (q.faults.map (faultItem s)) ++
  [flag q.more]

/-- The content of subject HOUSE (R191). With the widths of log 29 it is at most 217 bytes, one page, although section 10.9
shows a house of two (DESIGN CHOICE, log 54). -/
def houseContent (s : State) (h : House) : List Item :=
  hydraulicItems s h ++ dispatchItems s h ++ protectionItems s h

/-! ### PUMP (R58) -/

/-- A pump's place in its house's duty list, 1 for the lead, or absent. -/
def dutyPlace (s : State) (p : Pump) : Option Nat :=
  (s.houses[houseOf p].dutyList.findIdx? fun q => q == p).map fun k => k + 1

/-- The content of subject PUMP for a pump in use (R58). Each of the three pending flags is a yes or no byte, fault-pending
without its cause (DEDUCED, log 29). -/
def usedPumpItems (s : State) (p : Pump) : List Item :=
  let r := s.pumps[p]
  [num 1 (pumpStateCode r.state), opt 1 (r.fault.map faultCode),
   opt 1 (r.fault.bind fun c =>
     match c with
     | .tripAlarm code => some code.val
     | .stationTrip => none
     | .startFailed => none
     | .refusedTripped => none
     | .unknownPump => none),
   opt 1 r.permit, num 4 r.booking, opt 1 r.admittedM, secondsSince s r.startTime, flag r.admittedStart,
   secondsTo s r.minRunUntil, secondsTo s r.minOffUntil, secondsTo s r.windowEnd, secondsTo s r.permitRelease,
   num 1 r.history.length, secondsTo s (r.history.head?.map fun t => t + 3600),
   num 1 (pumpPlan s p).startsPerHour, flag (eligible s p), opt 1 (r.lastReported.map reportedCode),
   opt 1 (r.timedOut.map orderKindCode), opt 1 (r.stopCause.map stopCauseCode), flag r.isolatePending,
   flag r.protectPending, flag r.faultPending.isSome, opt 1 (dutyPlace s p)]

/-- The content of subject PUMP (R58). -/
def pumpContent (s : State) (p : Pump) : List Item :=
  if s.pumps[p].state == .unused then [num 1 (pumpStateCode .unused), opt 1 none] else usedPumpItems s p

/-! ### STATION (R165) -/

/-- The content of subject STATION for a station (R165). Its tanks are in ascending index, which R165 leaves open (DESIGN
CHOICE, log 54). -/
def stationContent (s : State) (st : Station) : List Item :=
  let r := s.bus.stations[st]
  let poll := queuedPoll s (.station st)
  [num 1 (stationStateCode r.state), num 1 r.silence, flag (orderBusy s st), num 1 r.nextTag,
   secondsTo s r.pollDue, flag poll.isSome, opt 1 (poll.map fun e => txClassCode e.cls),
   secondsSince s r.lastGood, opt 1 (r.lastFail.map failReasonCode), num 2 r.good, num 2 r.failed,
   opt 1 (((planOf s).servedHouse st).map fun h => h.val)] ++
  listItems ((allTanks.filter fun t => (planOf s).tanks[t].inUse && (planOf s).tanks[t].station == st).map
    fun t => num 1 t.val ++ num 1 (planOf s).tanks[t].channel.val)

/-- The content of subject STATION for address 15 (R165). -/
def meterContent (s : State) : List Item :=
  let r := s.bus.meter
  [secondsTo s r.pollDue, flag (queuedPoll s .meter).isSome, opt 1 (r.lastFail.map failReasonCode), num 2 r.good,
   num 2 r.failed]

/-! ### QUEUE (R109) -/

/-- One element of the Start Queue (R109). -/
def startItem (s : State) (e : StartEntry) : Item :=
  num 1 e.pump.val ++ num 1 e.house.val ++ num 1 (priorityOf s e.house) ++ num 2 e.seq ++
  secondsSince s (some e.enqueued)

/-- A signed value in four bytes, two's complement (R99). -/
def signed4 (n : Int) : Item := toBytes 4 ((n % 4294967296).toNat)

/-- The pass record (R99); every value is absent while it is empty. -/
def passItems (r : Option PassRecord) : List Item :=
  match r with
  | none => [opt 4 none, opt 1 none, opt 1 none, opt 1 none, opt 1 none, opt 4 none, opt 4 none, opt 2 none]
  | some r =>
    [num 4 r.uptime, num 1 r.admittedCount, num 1 r.passedOver, num 1 (passEndCode r.ended),
     pumpByte (r.candidate.map fun c => c.1),
     match r.candidate with
     | none => opt 4 none
     | some c => signed4 c.2,
     opt 4 (r.tested.map fun t => t.1), opt 2 (r.tested.map fun t => t.2)]

/-- The permit set, each with its pump (R90, R109), in ascending index, which R109 leaves open (DESIGN CHOICE, log 54). -/
def permitItems (s : State) : List Item :=
  (List.range 4).flatMap fun k =>
    ((permitsHeld s).filter fun g => g.1 == k).map fun g => num 1 g.1 ++ num 1 g.2.val

/-- The content of subject QUEUE (R109). -/
def queueContent (s : State) : List Item :=
  listItems (s.feeder.queue.map (startItem s)) ++ listItems (permitItems s) ++ passItems s.feeder.lastPass

/-! ### PART (R83, R109, R125, R165, R183, R192) -/

/-- The survey state and the number of stations in the awaited set (R83). -/
def surveyItems (s : State) : List Item :=
  [num 1 (if s.survey.running then 0 else 1), num 1 s.survey.awaited.length]

/-- K (R109). While the part is UNPLANNED there is no bank to give it, and the spec states no value: a FREE VALUE
(log 46). -/
def permitLimitItem (s : State) : Item := if planned s then num 1 (permitLimit s) else [Config.unplannedPermitLimit]

/-- The Feeder Budget Unit's summary (R109). -/
def feederItems (s : State) : List Item :=
  let f := s.feeder
  [num 4 f.committed, num 4 f.committedForShed, num 2 f.cap, permitLimitItem s, num 1 (permitCountHeld s),
   flag f.overCap, num 1 (meterStateCode f.meter.state), opt 2 f.meter.reading,
   num 1 (if f.meter.hold then 0 else 1), num 1 (shedPhaseCode f.meter.phase), secondsTo s f.meter.phaseUntil]

/-- Time and timetable; the cap in force has been given by R109 (R125). -/
def timeItems (s : State) : List Item :=
  [num 4 (now s), flag s.time.net.isSome, opt 3 (s.time.net.map fun t => t.second),
   opt 1 (s.time.net.map fun t => t.day.val), opt 1 (s.timetable.windowInForce.map fun w => w.val),
   opt 1 (s.timetable.windowInForce.map fun w => (planOf s).tariff[w].periodLabel)] ++
  listItems (s.timetable.windows.map fun w =>
    num 1 w.entry.val ++ num 1 w.house.val ++ num 1 (encodeWindowKind (entryOf s w.entry).kind) ++
    num 1 (entryOf s w.entry).count ++ secondsTo s (some w.activeUntil)) ++
  s.timetable.fired.toList.map flag

/-- The number of transmit queue entries of a class (R165). -/
def classCount (s : State) (c : TxClass) : Nat := (s.bus.queue.filter fun e => e.cls == c).length

/-- The bus state, the transaction in flight, and the queue (R165). -/
def busItems (s : State) : List Item :=
  [flag s.bus.flight.isSome, opt 1 (s.bus.flight.map fun f => unitAddress f.unit),
   opt 1 (s.bus.flight.map fun f => requestKind f.request), num 1 (classCount s .order),
   num 1 (classCount s .urgent), num 1 (classCount s .routine)]

/-- A last check result: absent, PASSED, or a failure with its code, kind and index (R183). -/
def checkItem : CheckResult → Item
  | .absent => num 1 0 ++ opt 1 none ++ opt 1 none ++ opt 2 none
  | .passed => num 1 1 ++ opt 1 none ++ opt 1 none ++ opt 2 none
  | .failed f => num 1 2 ++ num 1 (checkCodeNumber f.code) ++ num 1 (encodeTableKind f.kind) ++ num 2 f.index

/-- A bank's state, label and last check result (R183). -/
def bankItems (b : Bank) : List Item :=
  [num 1 (bankStateCode b.state), num 4 b.plan.header.label, checkItem b.lastCheck]

/-- The code of a bank that may be none, by its place in A, B, none: the active selection (R166, R183) and the bank being
stored (R178, R183; DEDUCED, log 29). -/
def selectionCode : Option BankId → Nat
  | some k => encodeBank k
  | none => 2

/-- The stored label, absent while the image is INVALID (R178). -/
def storedLabel (s : State) : Option Nat :=
  if s.store.valid then s.store.image.map fun pl => pl.header.label else none

/-- The Plan Banks and the Plan Store (R183). -/
def storeItems (s : State) : List Item :=
  [num 1 (selectionCode s.banks.active)] ++ bankItems s.banks.a ++ bankItems s.banks.b ++
  [flag s.store.writing.isSome, num 1 (selectionCode (s.store.writing.map fun w => w.bank)),
   opt 4 (s.store.writing.map fun w => w.age), num 1 (if s.store.valid then 0 else 1), opt 4 (storedLabel s)]

/-- The operating state: 0 UNPLANNED, 1 SURVEY, 2 NORMAL (R192). -/
def operatingState (s : State) : Nat := if planned s then (if s.survey.running then 1 else 2) else 0

/-- The Supervisory Link's and Event Queue's own items (R192). -/
def linkItems (s : State) : List Item :=
  let c := s.link.counters
  [num 1 (restartCode s.restartCause), num 1 (operatingState s), num 1 s.rateCode.val, num 2 c.framesTaken,
   num 2 c.badFrames, num 2 c.lengthDiscards, num 2 c.gapDiscards, num 2 c.bufferDiscards,
   num 1 s.eventQueue.records.length, flag s.eventQueue.overflow, num 2 s.eventQueue.nextSeq]

/-- The content of subject PART (R191). -/
def partContent (s : State) : List Item :=
  surveyItems s ++ feederItems s ++ timeItems s ++ busItems s ++ storeItems s ++ linkItems s

/-! ### Subjects and pages (R191) -/

/-- Why a STATE_READ is refused (R191). -/
inductive ReadFailure where
  | badValue
  | unplanned
  | badIndex
  deriving DecidableEq, Repr

/-- An item put on the page being filled, or on a new one if it does not fit: pages hold at most 240 bytes (R191). The
page being filled is the first of the list, and pages stand in reverse. -/
def addItem (pages : List Item) (i : Item) : List Item :=
  match pages with
  | [] => [i]
  | p :: rest => if p.length + i.length ≤ 240 then (p ++ i) :: rest else i :: p :: rest

/-- The pages of a content (R191). How many a content needs follows from the widths of its items (log 29, log 54). -/
def pagesOf (items : List Item) : List Item := (items.foldl addItem []).reverse

/-- The content of a HOUSE read, if the index names an in-use house (R83, R191). -/
def readHouse (s : State) (index : Nat) : Except ReadFailure (List Item) :=
  match decodeIndex 8 index with
  | some h => if houseInUse s h then .ok (houseContent s h) else .error .badIndex
  | none => .error .badIndex

/-- The content of a PUMP read; a pump not in use is UNUSED and is read too (R58, R191). -/
def readPump (s : State) (index : Nat) : Except ReadFailure (List Item) :=
  match decodeIndex 32 index with
  | some p => .ok (pumpContent s p)
  | none => .error .badIndex

/-- The content of a TANK read, if the index names an in-use tank (R33, R191). -/
def readTank (s : State) (index : Nat) : Except ReadFailure (List Item) :=
  match decodeIndex 12 index with
  | some t => if (planOf s).tanks[t].inUse then .ok (tankContent s t) else .error .badIndex
  | none => .error .badIndex

/-- The content of a STATION read, if the index is an in-use station's address or 15 (R165, R191). -/
def readStation (s : State) (index : Nat) : Except ReadFailure (List Item) :=
  if index = 15 then .ok (meterContent s)
  else
    match decodeAddress index with
    | some st => if (planOf s).stations[st].inUse then .ok (stationContent s st) else .error .badIndex
    | none => .error .badIndex

/-- The content of a subject, with the tests of R191 up to the index. -/
def readSubject (s : State) (subject index : Nat) : Except ReadFailure (List Item) :=
  if 5 < subject then .error .badValue
  else if subject = 0 then .ok (partContent s)
  else if !planned s then .error .unplanned
  else
    match subject with
    | 1 => readHouse s index
    | 2 => readPump s index
    | 3 => readTank s index
    | 4 => readStation s index
    | _ => .ok (queueContent s)

/-- The reply bytes of a STATE_READ after the status byte (R191). -/
def readPage (s : State) (subject index page : Nat) : Except ReadFailure (List Byte) :=
  match readSubject s subject index with
  | .error e => .error e
  | .ok items =>
    match (pagesOf items)[page]? with
    | none => .error .badIndex
    | some bytes =>
      .ok (num 1 subject ++ num 1 index ++ num 1 page ++ num 1 (pagesOf items).length ++ bytes)

end Sys2Proof.Machine
end

