-- ==== Sys2Proof/Machine/Requests.lean ====
section
/-! DEFINITION. What each request carries out, and its reply body: the length test of R188, the tests of the request's own
rule in their order, and the status byte with its detail (R189). Each answers the state after the request and the reply
body. The work an effect hands on is taken up before the reply is formed (R186). -/

namespace Sys2Proof.Machine

/-! ### Replies (R189) -/

/-- The refusals, in the order of their codes, with the detail three of them carry (R189). -/
inductive Refuse where
  | badLength
  | unknownKind
  | badIndex
  | badValue (record : Option Nat)
  | bankActive
  | busy
  | notChecked
  | checkFailed (f : CheckFailure)
  | conflict (kind : TableKind) (index : Nat)
  | wrongMode
  | notFaulted
  | unplanned
  | timeInvalid
  deriving DecidableEq, Repr

/-- The reply body of a refusal (R189). -/
def refuseBody : Refuse → List Byte
  | .badLength => num 1 1
  | .unknownKind => num 1 2
  | .badIndex => num 1 3
  | .badValue record => num 1 4 ++ num 2 (record.getD 65535)
  | .bankActive => num 1 5
  | .busy => num 1 6
  | .notChecked => num 1 7
  | .checkFailed f => num 1 8 ++ num 1 (checkCodeNumber f.code) ++ num 1 (encodeTableKind f.kind) ++ num 2 f.index
  | .conflict kind index => num 1 9 ++ num 1 (encodeTableKind kind) ++ num 2 index
  | .wrongMode => num 1 10
  | .notFaulted => num 1 11
  | .unplanned => num 1 12
  | .timeInvalid => num 1 13

/-- A request refused: nothing of its rule is carried out (R189). -/
def refuse (r : Refuse) (s : State) : State × List Byte := (s, refuseBody r)

/-- A request taken: the status byte 0 and its items (R189). -/
def taken (items : List Byte) (s : State) : State × List Byte := (s, num 1 0 ++ items)

/-- A request with its length test (R188). -/
def withLength (n : Nat) (body : List Byte) (carry : State → State × List Byte) (s : State) : State × List Byte :=
  if body.length = n then carry s else refuse .badLength s

/-- A request that names a bank in its first byte (R171, R172, R175). -/
def withBank (body : List Byte) (carry : BankId → State → State × List Byte) (s : State) : State × List Byte :=
  match decodeBank (fieldAt body 0 1) with
  | none => refuse (.badValue none) s
  | some k => carry k s

/-- A request that names a house in its first byte: UNPLANNED, then BAD_INDEX (R77, R78, R139, R140, R188). -/
def withHouse (body : List Byte) (carry : House → State → State × List Byte) (s : State) : State × List Byte :=
  if !planned s then refuse .unplanned s
  else
    match decodeIndex 8 (fieldAt body 0 1) with
    | none => refuse .badIndex s
    | some h => if houseInUse s h then carry h s else refuse .badIndex s

/-- A request that names a pump in its first byte: UNPLANNED, then BAD_INDEX (R54, R55, R188). -/
def withPump (body : List Byte) (carry : Pump → State → State × List Byte) (s : State) : State × List Byte :=
  if !planned s then refuse .unplanned s
  else
    match decodeIndex 32 (fieldAt body 0 1) with
    | none => refuse .badIndex s
    | some p => if pumpInUse s p then carry p s else refuse .badIndex s

/-- Whether a bank is the bank being stored (R178). -/
def beingStored (s : State) (k : BankId) : Bool := s.store.writing.any fun w => w.bank == k

/-! ### IDENT and SET_TIME -/

/-- The items of IDENT (R195). -/
def identItems (s : State) : List Byte :=
  num 2 820 ++ [Config.siliconRevision] ++ num 1 (restartCode s.restartCause) ++ num 4 (now s) ++
  flag s.time.net.isSome ++ opt 3 (s.time.net.map fun t => t.second) ++ opt 1 (s.time.net.map fun t => t.day.val) ++
  num 1 (selectionCode s.banks.active) ++
  opt 4 (s.banks.active.map fun k => (bankOf s k).plan.header.label) ++ num 1 (operatingState s) ++
  num 1 s.rateCode.val

/-- IDENT (R195). -/
def carryIdent (body : List Byte) (s : State) : State × List Byte :=
  withLength 0 body (fun s => taken (identItems s) s) s

/-- SET_TIME with its values in range (R111). -/
def setTimeTo (new : NetTime) (s : State) : State × List Byte :=
  taken (num 1 (jumpCode (jumpKind s.time.net new)) ++ num 3 new.second ++ num 1 new.day.val)
    (settleAll (takeTime new s))

/-- SET_TIME (R111). -/
def carrySetTime (body : List Byte) (s : State) : State × List Byte :=
  withLength 5 body
    (fun s =>
      match decodeIndex 7 (fieldAt body 4 1) with
      | none => refuse .timeInvalid s
      | some day =>
        if fieldAt body 0 4 ≤ 86399 then setTimeTo { second := fieldAt body 0 4, day } s
        else refuse .timeInvalid s) s

/-! ### Tables (R168 to R171) -/

/-- A write whose body has been sized: tests 2 to 6 and the writing (R168, R169). -/
def writeRecords (bank : Nat) (kind : TableKind) (first count : Nat) (records : List (List Byte)) (s : State) :
    State × List Byte :=
  match decodeBank bank with
  | none => refuse (.badValue none) s
  | some k =>
    if !indicesInRange kind first count then refuse .badIndex s
    else if s.banks.active == some k then refuse .bankActive s
    else if beingStored s k then refuse .busy s
    else
      match decodeRecords kind first records with
      | .error i => refuse (.badValue (some i)) s
      | .ok rs =>
        taken (num 1 bank ++ num 1 (encodeTableKind kind) ++ num 1 first ++ num 1 count)
          (updBank k
            (fun b => { plan := putRecords b.plan first rs, state := .edited, lastCheck := .absent, table := none }) s)

/-- TABLE_WRITE (R168, R169). The length test is passed over for a table kind that is none of the eight (R190); a body too
short to hold the kind, or the four bytes of a kind that can be sized, has the wrong length (log 28). -/
def carryTableWrite (body : List Byte) (s : State) : State × List Byte :=
  if body.length < 2 then refuse .badLength s
  else
    match decodeTableKind (fieldAt body 1 1) with
    | none => refuse (.badValue none) s
    | some kind =>
      if body.length < 4 then refuse .badLength s
      else
        match splitRecords kind (fieldAt body 3 1) (body.drop 4) with
        | none => refuse .badLength s
        | some records => writeRecords (fieldAt body 0 1) kind (fieldAt body 2 1) (fieldAt body 3 1) records s

/-- TABLE_READ (R170): the number of records carried, then the records, while the body stays within 250 bytes. -/
def carryTableRead (body : List Byte) (s : State) : State × List Byte :=
  withLength 4 body
    (fun s =>
      match decodeBank (fieldAt body 0 1), decodeTableKind (fieldAt body 1 1) with
      | some k, some kind =>
        if indicesInRange kind (fieldAt body 2 1) (fieldAt body 3 1) then
          let r := readRecords (bankOf s k).plan kind (fieldAt body 2 1) (fieldAt body 3 1) 248
          taken (num 1 r.1 ++ r.2) s
        else refuse .badIndex s
      | none, _ => refuse (.badValue none) s
      | some _, none => refuse (.badValue none) s) s

/-- BANK_CLEAR of a bank (R171). -/
def clearBank (k : BankId) (s : State) : State × List Byte :=
  if s.banks.active == some k then refuse .bankActive s
  else if beingStored s k then refuse .busy s
  else taken (num 1 (encodeBank k)) (updBank k (fun _ => emptyBank) s)

/-- BANK_CLEAR (R171). -/
def carryBankClear (body : List Byte) (s : State) : State × List Byte :=
  withLength 1 body (withBank body clearBank) s

/-! ### BANK_CHECK, BANK_SWAP and PLAN_STORE -/

/-- A bank that passes its check (R167, R172, R174). -/
def checkedBank (b : Bank) : Bank :=
  { b with state := .checked, lastCheck := .passed, table := some (bookingTable b.plan) }

/-- BANK_CHECK of a bank (R172). PASSED is carried as the code of that last check result (log 30). -/
def checkBank (k : BankId) (s : State) : State × List Byte :=
  if s.banks.active == some k then refuse .bankActive s
  else
    let pl := (bankOf s k).plan
    match firstFailure pl with
    | none =>
      taken (num 1 1 ++ num 1 pl.housesInUse.length ++ num 1 (allPumps.filter fun p => pl.pumps[p].inUse).length)
        (updBank k checkedBank s)
    | some f => (updBank k (fun b => { b with lastCheck := .failed f }) s, refuseBody (.checkFailed f))

/-- BANK_CHECK (R172). -/
def carryBankCheck (body : List Byte) (s : State) : State × List Byte :=
  withLength 1 body (withBank body checkBank) s

/-- The refusal of a failed test of BANK_SWAP (R175). -/
def swapRefuse : SwapFailure → Refuse
  | .bankActive => .bankActive
  | .notChecked => .notChecked
  | .conflict kind index => .conflict kind index

/-- BANK_SWAP to a bank (R175). -/
def swapBank (k : BankId) (s : State) : State × List Byte :=
  match swapTest s k with
  | some f => refuse (swapRefuse f) s
  | none =>
    let t := settleAll (takeSwap k s)
    taken (num 1 (encodeBank k) ++ num 4 (planOf t).header.label) t

/-- BANK_SWAP (R175 to R177). -/
def carryBankSwap (body : List Byte) (s : State) : State × List Byte :=
  withLength 1 body (withBank body swapBank) s

/-- A store write begins: a copy of the active bank is taken, and the image is INVALID (R178). -/
def beginStore (k : BankId) (s : State) : State :=
  { s with store :=
      { image := none, valid := false, writing := some { bank := k, copy := (bankOf s k).plan, age := 0 } } }

/-- PLAN_STORE (R178). -/
def carryPlanStore (body : List Byte) (s : State) : State × List Byte :=
  withLength 0 body
    (fun s =>
      match s.banks.active with
      | none => refuse .unplanned s
      | some k =>
        if s.store.writing.isSome then refuse .busy s
        else taken (num 4 (planOf s).header.label) (beginStore k s)) s

/-! ### House requests (R77, R78, R139, R140) -/

/-- HOUSE_MODE of a house in use (R77). -/
def modeOf (body : List Byte) (h : House) (s : State) : State × List Byte :=
  match decodeMode (fieldAt body 1 1) with
  | none => refuse (.badValue none) s
  | some mode =>
    let t := settleAll (takeMode h mode s)
    taken (num 1 (encodeMode t.houses[h].mode) ++ num 1 t.houses[h].manualTarget) t

/-- HOUSE_MODE (R77). -/
def carryHouseMode (body : List Byte) (s : State) : State × List Byte :=
  withLength 2 body (withHouse body (modeOf body)) s

/-- HOUSE_TARGET of a house in use (R78). -/
def targetOf (body : List Byte) (h : House) (s : State) : State × List Byte :=
  if s.houses[h].mode == .manual then
    let t := settleAll (takeTarget h (fieldAt body 1 1) s)
    taken (num 1 t.houses[h].manualTarget) t
  else refuse .wrongMode s

/-- HOUSE_TARGET (R78). -/
def carryHouseTarget (body : List Byte) (s : State) : State × List Byte :=
  withLength 2 body (withHouse body (targetOf body)) s

/-- HOUSE_CLEAR of a house in use (R139). -/
def clearOf (h : House) (s : State) : State × List Byte :=
  let t := settleAll (clearHouseRecord h s)
  taken (num 1 (protStateCode t.protection[h].state) ++ num 1 t.protection[h].attempts) t

/-- HOUSE_CLEAR (R139). -/
def carryHouseClear (body : List Byte) (s : State) : State × List Byte :=
  withLength 1 body (withHouse body clearOf) s

/-- HOUSE_SUPPRESS of a house in use (R140). -/
def suppressOf (body : List Byte) (h : House) (s : State) : State × List Byte :=
  match decodeFlag (fieldAt body 1 1) with
  | none => refuse (.badValue none) s
  | some on =>
    let t := settleAll (suppressHouse h on s)
    taken (flag t.protection[h].suppression ++ num 1 (protStateCode t.protection[h].state)) t

/-- HOUSE_SUPPRESS (R140). -/
def carryHouseSuppress (body : List Byte) (s : State) : State × List Byte :=
  withLength 2 body (withHouse body (suppressOf body)) s

/-! ### Pump requests (R54, R55) -/

/-- PUMP_ISOLATE of a pump in use (R54). -/
def isolateOf (p : Pump) (s : State) : State × List Byte :=
  let t := settleAll (isolatePump p s)
  taken (num 1 (pumpStateCode t.pumps[p].state) ++ flag t.pumps[p].isolatePending) t

/-- PUMP_ISOLATE (R54). -/
def carryPumpIsolate (body : List Byte) (s : State) : State × List Byte :=
  withLength 1 body (withPump body isolateOf) s

/-- PUMP_RESTORE (R55); its reply carries the status alone (log 30). -/
def carryPumpRestore (body : List Byte) (s : State) : State × List Byte :=
  withLength 1 body (withPump body fun p s => taken [] (settleAll (restorePump p s))) s

/-- PUMP_CLEAR of a pump in use (R55). -/
def clearFaultOf (p : Pump) (s : State) : State × List Byte :=
  match s.pumps[p].state, s.pumps[p].fault with
  | .faulted, some cause => taken [] (settleAll (clearPumpFault p cause s))
  | _, _ => refuse .notFaulted s

/-- PUMP_CLEAR (R55); its reply carries the status alone (log 30). -/
def carryPumpClear (body : List Byte) (s : State) : State × List Byte :=
  withLength 1 body (withPump body clearFaultOf) s

/-! ### STATE_READ, EVENT_READ, RESTART and UNKNOWN_KIND -/

/-- The refusal of a STATE_READ (R191). -/
def readRefuse : ReadFailure → Refuse
  | .badValue => .badValue none
  | .unplanned => .unplanned
  | .badIndex => .badIndex

/-- STATE_READ (R191). -/
def carryStateRead (body : List Byte) (s : State) : State × List Byte :=
  withLength 3 body
    (fun s =>
      match readPage s (fieldAt body 0 1) (fieldAt body 1 1) (fieldAt body 2 1) with
      | .error e => refuse (readRefuse e) s
      | .ok bytes => taken bytes s) s

/-- An event record's 16 bytes (R197). -/
def eventBytes (r : EventRecord) : List Byte :=
  num 2 r.seq ++ num 4 r.uptime ++ opt 2 r.minute ++ num 1 (eventCode r.kind) ++ opt 1 (r.house.map fun h => h.val) ++
  pumpByte r.pump ++ opt 1 (r.tank.map fun t => t.val) ++ num 2 r.value1 ++ num 2 r.value2

/-- Up to 8 records removed from the front, and the overflow flag cleared (R198). -/
def removeEvents (s : State) : State :=
  { s with eventQueue := { s.eventQueue with records := s.eventQueue.records.drop 8, overflow := false } }

/-- EVENT_READ (R198). -/
def carryEventRead (body : List Byte) (s : State) : State × List Byte :=
  withLength 0 body
    (fun s =>
      let gone := s.eventQueue.records.take 8
      taken
        (flag s.eventQueue.overflow ++ num 1 gone.length ++ num 1 (s.eventQueue.records.drop 8).length ++
          gone.flatMap eventBytes)
        (removeEvents s)) s

/-- RESTART: the reply goes first, and HOST_RESTART follows its last byte (R196). -/
def carryRestart (body : List Byte) (s : State) : State × List Byte :=
  withLength 0 body (fun s => taken [] s) s

/-- A request of a kind that R188 does not define. -/
def carryUnknown (s : State) : State × List Byte := refuse .unknownKind s

/-- The store write completes, with the outcome of the CRC test (R179). -/
def storeCompletes (crcMatches : Bool) (s : State) : State :=
  match s.store.writing with
  | none => s
  | some w =>
    if crcMatches then
      raiseLabel .storeDone w.copy.header.label
        { s with store := { image := some w.copy, valid := true, writing := none } }
    else
      raiseLabel .storeFailed w.copy.header.label
        { s with store := { image := none, valid := false, writing := none } }

end Sys2Proof.Machine
end

