-- ==== Sys2Proof/Machine/Link.lean ====
section
/-! DEFINITION. The Supervisory Link (R184 to R189): the frame receiver, the receive buffer, taking requests, and the
reply in progress. -/

namespace Sys2Proof.Machine

/-- A supervisory frame: sync, body length, kind, tag, body, and the CRC over all but the sync (R184). -/
def supFrame (kind tag : Byte) (body : List Byte) : List Byte :=
  let span := toBytes 1 body.length ++ [kind, tag] ++ body
  0xA5#8 :: (span ++ crcBytes span)

/-- The frame of a reply (R184, R189). -/
def replyFrame (r : Reply) : List Byte := supFrame r.kind r.tag r.body

/-- The kind of the reply to a request: the kind plus 128, or the kind itself if it is 128 or more (R184). -/
def replyKindOf (kind : Byte) : Byte := if 128 ≤ kind.toNat then kind else kind + 128#8

/-! ### Taking requests (R186, R188) -/

/-- A request carried out according to its kind (R188). -/
def carryOut (kind : Nat) (body : List Byte) (s : State) : State × List Byte :=
  match kind with
  | 1 => carryIdent body s
  | 2 => carrySetTime body s
  | 3 => carryTableWrite body s
  | 4 => carryTableRead body s
  | 5 => carryBankClear body s
  | 6 => carryBankCheck body s
  | 7 => carryBankSwap body s
  | 8 => carryPlanStore body s
  | 9 => carryHouseMode body s
  | 10 => carryHouseTarget body s
  | 11 => carryHouseClear body s
  | 12 => carryHouseSuppress body s
  | 13 => carryPumpIsolate body s
  | 14 => carryPumpRestore body s
  | 15 => carryPumpClear body s
  | 16 => carryStateRead body s
  | 17 => carryEventRead body s
  | 18 => carryRestart body s
  | _ => carryUnknown s

/-- Whether a request's reply is the one that HOST_RESTART follows: RESTART taken (R196). -/
def isRestart (f : Frame) : Bool := f.kind == 18#8 && f.body.isEmpty

/-- A request taken: it is carried out, and the sending of its reply begins (R186, R187). -/
def takeRequest (f : Frame) (s : State) : State :=
  let r := carryOut f.kind.toNat f.body (updCounters (fun c => { c with framesTaken := satSucc 65535 c.framesTaken }) s)
  { r.1 with link := { r.1.link with
      reply := some { kind := replyKindOf f.kind, tag := f.tag, body := r.2, restarts := isRestart f } } }

/-- The oldest buffered frame is taken if no reply is in progress (R186). -/
def takeNext (s : State) : State :=
  match s.link.reply, s.link.buffer with
  | none, f :: rest => takeRequest f { s with link := { s.link with buffer := rest } }
  | none, [] => s
  | some _, _ => s

/-- A complete good frame joins the receive buffer, or is discarded if the buffer holds two (R186, R187). -/
def acceptFrame (f : Frame) (s : State) : State :=
  if 2 ≤ s.link.buffer.length then
    updCounters (fun c => { c with bufferDiscards := satSucc 65535 c.bufferDiscards }) s
  else takeNext { s with link := { s.link with buffer := s.link.buffer ++ [f] } }

/-! ### The receiver (R185) -/

/-- The receiver in a state. -/
def setReceiver (r : Receiver) (s : State) : State := { s with link := { s.link with receiver := r } }

/-- A frame discarded for its CRC or for a missing stop bit (R187). -/
def countBad (s : State) : State := updCounters (fun c => { c with badFrames := satSucc 65535 c.badFrames }) s

/-- The bytes after the sync that a complete frame of body length n holds (R184). -/
def frameSize (n : Nat) : Nat := 5 + n

/-- A complete frame's bytes after the sync, as a request (R184). -/
def frameOf (bs : List Byte) : Frame :=
  { kind := bs[1]?.getD 0#8, tag := bs[2]?.getD 0#8, body := (bs.drop 3).take (bs.length - 5) }

/-- A complete frame is tested against its CRC (R185). -/
def completeFrame (bs : List Byte) (s : State) : State :=
  if crcMatches bs then acceptFrame (frameOf bs) s else countBad s

/-- A byte joins the frame being assembled (R185). -/
def joinFrame (bs : List Byte) (b : Byte) (s : State) : State :=
  let n := fieldAt (bs ++ [b]) 0 1
  if bs.isEmpty && decide (250 < n) then
    setReceiver .hunt s |> updCounters fun c => { c with lengthDiscards := satSucc 65535 c.lengthDiscards }
  else if (bs ++ [b]).length = frameSize n then setReceiver .hunt s |> completeFrame (bs ++ [b])
  else setReceiver (.frame (bs ++ [b])) s

/-- A byte with its stop bit arrives (R185). -/
def takeSupByte (s : State) (b : Byte) : State :=
  match s.link.receiver with
  | .hunt => if b = 0xA5#8 then setReceiver (.frame []) s else s
  | .frame bs => joinFrame bs b s

/-- A byte with a missing stop bit discards the frame being assembled (R185). -/
def brokenByte (s : State) : State :=
  match s.link.receiver with
  | .hunt => s
  | .frame _ => setReceiver .hunt s |> countBad

/-- 50 ms pass inside an incomplete frame (R185). -/
def supGap (s : State) : State :=
  match s.link.receiver with
  | .hunt => s
  | .frame _ =>
    setReceiver .hunt s |> updCounters fun c => { c with gapDiscards := satSucc 65535 c.gapDiscards }

/-- The last byte of a reply that is not RESTART's leaves the line (R186). -/
def replyEnds (s : State) : State := takeNext { s with link := { s.link with reply := none } }

end Sys2Proof.Machine
end

