-- ==== Sys2Proof/Machine/Timers.lean ====
section
/-! DEFINITION. The timers of the part: when each is due, and what its expiry does. An expiry that is not due changes
nothing (log 3). -/

namespace Sys2Proof.Machine

/-- An uptime has been reached; an absent one never is. -/
def reached (s : State) (t : Option Nat) : Bool := t.any fun t => decide (t ≤ now s)

/-- An effect that comes about only when it is due. -/
def whenDue (due : Bool) (effect : State → State) (s : State) : State := if due then effect s else s

/-! ### When a timer is due -/

/-- POLL_DUE (R156). -/
def pollIsDue (s : State) (unit : BusUnit) : Bool := reached s (pollDueOf s unit)

/-- LEVEL_STALE: in FRESH or HELD (R21). -/
def levelIsStale (s : State) (t : Tank) : Bool := usableQuality s.levels[t].quality && reached s s.levels[t].staleAt

/-- CONDITION_FILTER_EXPIRY (R23). -/
def conditionIsDue (s : State) (h : House) (c : Condition) : Bool :=
  reached s ((conditionOf s.hydraulics[h] c).pending.map fun p => p.since + p.filter)

/-- START_WINDOW_END: in STARTING (R44). -/
def windowIsOver (s : State) (p : Pump) : Bool := s.pumps[p].state == .starting && reached s s.pumps[p].windowEnd

/-- PERMIT_RELEASE_EXPIRY (R43). -/
def permitIsDue (s : State) (p : Pump) : Bool := reached s s.pumps[p].permitRelease

/-- MIN_RUN_EXPIRY (R39). -/
def minRunIsOver (s : State) (p : Pump) : Bool := reached s s.pumps[p].minRunUntil

/-- MIN_OFF_EXPIRY: in REST (R38). -/
def minOffIsOver (s : State) (p : Pump) : Bool := s.pumps[p].state == .rest && reached s s.pumps[p].minOffUntil

/-- START_HISTORY_EXPIRY of the oldest entry (R37). -/
def historyIsDue (s : State) (p : Pump) : Bool := reached s (s.pumps[p].history.head?.map fun t => t + 3600)

/-- MAIN_SETTLED (R72). -/
def mainIsDue (s : State) (h : House) : Bool := reached s s.houses[h].mainSettledAt

/-- METER_STALE (R104). -/
def meterIsStale (s : State) : Bool := reached s s.feeder.meter.staleAt

/-- METER_PHASE_EXPIRY: in FILTERING or SETTLING (R106). -/
def phaseIsOver (s : State) : Bool :=
  (s.feeder.meter.phase == .filtering || s.feeder.meter.phase == .settling) && reached s s.feeder.meter.phaseUntil

/-- The active window of an entry, if any (R115). -/
def windowOf (s : State) (e : Entry) : Option ActiveWindow := s.timetable.windows.find? fun w => w.entry == e

/-- TT_ENDED (R118). -/
def windowIsDue (s : State) (e : Entry) : Bool := reached s ((windowOf s e).map fun w => w.activeUntil)

/-- The alarm list entry of a house and code, if any (R127). -/
def alarmOf (s : State) (h : House) (c : Code) : Option AlarmEntry := s.protection[h].alarms.find? fun e => e.code == c

/-- ALARM_FILTER_EXPIRY: of a PENDING entry (R130). -/
def alarmIsDue (s : State) (h : House) (c : Code) : Bool := reached s ((alarmOf s h c).bind fun e => e.activeAt)

/-- RECOVERY_EXPIRY: in RECOVERY (R137). -/
def recoveryIsOver (s : State) (h : House) : Bool :=
  s.protection[h].state == .recovery && reached s s.protection[h].recoveryUntil

/-- FORGIVE_EXPIRY: in CLEAR (R138). -/
def forgiveIsDue (s : State) (h : House) : Bool :=
  s.protection[h].state == .clear && reached s s.protection[h].forgiveAt

/-! ### Expiries that need no more than this -/

/-- min-run-until becomes absent, with a notice (R39). -/
def minRunExpires (p : Pump) (s : State) : State :=
  updPump p (fun r => { r with minRunUntil := none }) s |> notice (houseOf p)

/-- REST goes to READY (R38), where the pending flags are acted on (R53). -/
def minOffExpires (p : Pump) (s : State) : State := s |> passRest p |> actStopped p |> pumpChanged p

/-- The oldest history entry leaves, with a notice (R37). -/
def historyExpires (p : Pump) (s : State) : State :=
  updPump p (fun r => { r with history := r.history.drop 1 }) s |> notice (houseOf p)

/-- The window of an entry ends (R118). -/
def windowExpires (e : Entry) (s : State) : State :=
  match windowOf s e with
  | none => s
  | some w => endWindow w 0 s

/-- The filter of an alarm list entry runs out (R130). -/
def alarmExpires (h : House) (c : Code) (s : State) : State :=
  match alarmOf s h c with
  | none => s
  | some e => filterExpired h e s

/-! ### Crossings (R110) -/

/-- The next second makes a minute crossing, not a midnight crossing. -/
def minuteIsNext (s : State) : Bool :=
  s.time.net.any fun t => decide (t.second ≠ 86399 ∧ (t.second + 1) % 60 = 0)

/-- The next second makes a midnight crossing. -/
def midnightIsNext (s : State) : Bool := s.time.net.any fun t => decide (t.second = 86399)

end Sys2Proof.Machine
end

