-- ==== Sys2Proof/Machine/RestartCommands.lean ====
section
/-! DEFINITION. The meanings of the restart rows (R193, R196). -/

namespace Sys2Proof.Machine

/-- POWER_ON (R193): taken in every state, also while the reset input is asserted (log 9). -/
def execPowerOn (strap1 strap0 crcMatches : Bool) (s : State) : Host.Outcome State Fault Refusal :=
  .next (coldRestart .powerOn strap1 strap0 crcMatches s)

/-- RESET_ASSERTED (R193). -/
def execResetAsserted (s : State) : Host.Outcome State Fault Refusal := .next (enterReset s)

/-- RESET_LINE (R193): the release of the reset input (log 9). -/
def execResetLine (strap1 strap0 crcMatches : Bool) (s : State) : Host.Outcome State Fault Refusal :=
  .next (coldRestart .resetLine strap1 strap0 crcMatches s)

/-- Whether the reply in progress is that of RESTART (R196). -/
def restartReplyInProgress (s : State) : Bool := s.link.reply.any fun r => r.restarts

/-- HOST_RESTART (R196): taken when the last byte of the RESTART reply leaves the line, so without that reply in progress
it does not come about (log 37). -/
def execHostRestart (s : State) : Host.Outcome State Fault Refusal :=
  if s.inReset || !restartReplyInProgress s then .next s else .next (hostRestarts s)

end Sys2Proof.Machine
end

