-- ==== Sys2Proof/Machine/LinkCommands.lean ====
section
/-! DEFINITION. The meanings of the supervisory link rows other than requests (R185, R186). -/

namespace Sys2Proof.Machine

/-- SUP_FRAME_RECEIVED (R185): bytes with their stop bits arrive one after another. -/
def execSupFrameReceived (bytes : List Byte) (s : State) : Host.Outcome State Fault Refusal :=
  live (fun s => bytes.foldl takeSupByte s) s

/-- SUP_BYTE_RECEIVED (R185). -/
def execSupByteReceived (byte : Byte) (stopBit : Bool) (s : State) : Host.Outcome State Fault Refusal :=
  live (fun s => if stopBit then takeSupByte s byte else brokenByte s) s

/-- SUP_GAP_EXPIRY (R185). -/
def execSupGapExpiry (s : State) : Host.Outcome State Fault Refusal := live supGap s

/-- REPLY_SENT (R186). The end of the RESTART reply is the moment of HOST_RESTART (R196, log 37). -/
def execReplySent (s : State) : Host.Outcome State Fault Refusal :=
  if s.inReset || s.link.reply.isNone then .next s
  else if restartReplyInProgress s then .next (hostRestarts s)
  else live replyEnds s

end Sys2Proof.Machine
end

