-- ==== Sys2Proof/Machine/RequestCommands.lean ====
section
/-! DEFINITION. The meanings of the request rows: a complete good frame with the kind of the row reaches the receive buffer, and is
taken as R186 gives (log 2). -/

namespace Sys2Proof.Machine

/-- IDENT (R195): carried out by `carryIdent` when it is taken. -/
def execIdent (tag : Byte) (body : List Byte) (s : State) : Host.Outcome State Fault Refusal :=
  live (acceptFrame { kind := 1#8, tag, body }) s

/-- SET_TIME (R111): carried out by `carrySetTime` when it is taken. -/
def execSetTime (tag : Byte) (body : List Byte) (s : State) : Host.Outcome State Fault Refusal :=
  live (acceptFrame { kind := 2#8, tag, body }) s

/-- TABLE_WRITE (R168, R169): carried out by `carryTableWrite` when it is taken. -/
def execTableWrite (tag : Byte) (body : List Byte) (s : State) : Host.Outcome State Fault Refusal :=
  live (acceptFrame { kind := 3#8, tag, body }) s

/-- TABLE_READ (R170): carried out by `carryTableRead` when it is taken. -/
def execTableRead (tag : Byte) (body : List Byte) (s : State) : Host.Outcome State Fault Refusal :=
  live (acceptFrame { kind := 4#8, tag, body }) s

/-- BANK_CLEAR (R171): carried out by `carryBankClear` when it is taken. -/
def execBankClear (tag : Byte) (body : List Byte) (s : State) : Host.Outcome State Fault Refusal :=
  live (acceptFrame { kind := 5#8, tag, body }) s

/-- BANK_CHECK (R172): carried out by `carryBankCheck` when it is taken. -/
def execBankCheck (tag : Byte) (body : List Byte) (s : State) : Host.Outcome State Fault Refusal :=
  live (acceptFrame { kind := 6#8, tag, body }) s

/-- BANK_SWAP (R175 to R177): carried out by `carryBankSwap` when it is taken. -/
def execBankSwap (tag : Byte) (body : List Byte) (s : State) : Host.Outcome State Fault Refusal :=
  live (acceptFrame { kind := 7#8, tag, body }) s

/-- PLAN_STORE (R178): carried out by `carryPlanStore` when it is taken. -/
def execPlanStore (tag : Byte) (body : List Byte) (s : State) : Host.Outcome State Fault Refusal :=
  live (acceptFrame { kind := 8#8, tag, body }) s

/-- HOUSE_MODE (R77): carried out by `carryHouseMode` when it is taken. -/
def execHouseMode (tag : Byte) (body : List Byte) (s : State) : Host.Outcome State Fault Refusal :=
  live (acceptFrame { kind := 9#8, tag, body }) s

/-- HOUSE_TARGET (R78): carried out by `carryHouseTarget` when it is taken. -/
def execHouseTarget (tag : Byte) (body : List Byte) (s : State) : Host.Outcome State Fault Refusal :=
  live (acceptFrame { kind := 10#8, tag, body }) s

/-- HOUSE_CLEAR (R139): carried out by `carryHouseClear` when it is taken. -/
def execHouseClear (tag : Byte) (body : List Byte) (s : State) : Host.Outcome State Fault Refusal :=
  live (acceptFrame { kind := 11#8, tag, body }) s

/-- HOUSE_SUPPRESS (R140): carried out by `carryHouseSuppress` when it is taken. -/
def execHouseSuppress (tag : Byte) (body : List Byte) (s : State) : Host.Outcome State Fault Refusal :=
  live (acceptFrame { kind := 12#8, tag, body }) s

/-- PUMP_ISOLATE (R54): carried out by `carryPumpIsolate` when it is taken. -/
def execPumpIsolate (tag : Byte) (body : List Byte) (s : State) : Host.Outcome State Fault Refusal :=
  live (acceptFrame { kind := 13#8, tag, body }) s

/-- PUMP_RESTORE (R55): carried out by `carryPumpRestore` when it is taken. -/
def execPumpRestore (tag : Byte) (body : List Byte) (s : State) : Host.Outcome State Fault Refusal :=
  live (acceptFrame { kind := 14#8, tag, body }) s

/-- PUMP_CLEAR (R55): carried out by `carryPumpClear` when it is taken. -/
def execPumpClear (tag : Byte) (body : List Byte) (s : State) : Host.Outcome State Fault Refusal :=
  live (acceptFrame { kind := 15#8, tag, body }) s

/-- STATE_READ (R191): carried out by `carryStateRead` when it is taken. -/
def execStateRead (tag : Byte) (body : List Byte) (s : State) : Host.Outcome State Fault Refusal :=
  live (acceptFrame { kind := 16#8, tag, body }) s

/-- EVENT_READ (R198): carried out by `carryEventRead` when it is taken. -/
def execEventRead (tag : Byte) (body : List Byte) (s : State) : Host.Outcome State Fault Refusal :=
  live (acceptFrame { kind := 17#8, tag, body }) s

/-- RESTART (R196): carried out by `carryRestart` when it is taken. -/
def execRestart (tag : Byte) (body : List Byte) (s : State) : Host.Outcome State Fault Refusal :=
  live (acceptFrame { kind := 18#8, tag, body }) s

/-- UNKNOWN_KIND (R188): a request of a kind that is none of the defined codes; one that is defined is carried out as that
code says (log 2). -/
def execUnknownKind (kind tag : Byte) (body : List Byte) (s : State) : Host.Outcome State Fault Refusal :=
  live (acceptFrame { kind, tag, body }) s

end Sys2Proof.Machine
end

