-- ==== Sys2Proof/Machine/BusCommands.lean ====
section
/-! DEFINITION. The meanings of the station bus rows (R146 to R154). -/

namespace Sys2Proof.Machine

/-- BUS_REQUEST_SENT (R146, R201). -/
def execBusRequestSent (s : State) : Host.Outcome State Fault Refusal := live requestSent s

/-- BUS_BYTE_RECEIVED (R148). -/
def execBusByteReceived (byte : Byte) (s : State) : Host.Outcome State Fault Refusal :=
  live (fun s => takeBusByte s byte) s

/-- Whether the request in flight is one of some. -/
def inFlight (s : State) (which : Request → Bool) : Bool := s.bus.flight.any fun f => which f.request

/-- REPORT (R150, R151): bytes arrive while a POLL is in flight. -/
def execReport (bytes : List Byte) (s : State) : Host.Outcome State Fault Refusal :=
  live
    (fun s => whenDue
      (inFlight s fun r =>
        match r with
        | .poll => true
        | .meterPoll => false
        | .order _ _ => false)
      (takeBusBytes bytes) s) s

/-- ORDER_REPLY (R152, R153): bytes arrive while an ORDER is in flight. -/
def execOrderReply (bytes : List Byte) (s : State) : Host.Outcome State Fault Refusal :=
  live
    (fun s => whenDue
      (inFlight s fun r =>
        match r with
        | .poll => false
        | .meterPoll => false
        | .order _ _ => true)
      (takeBusBytes bytes) s) s

/-- METER_REPLY (R154): bytes arrive while a METER_POLL is in flight. -/
def execMeterReply (bytes : List Byte) (s : State) : Host.Outcome State Fault Refusal :=
  live
    (fun s => whenDue
      (inFlight s fun r =>
        match r with
        | .poll => false
        | .meterPoll => true
        | .order _ _ => false)
      (takeBusBytes bytes) s) s

/-- REPLY_TIMEOUT (R149). -/
def execReplyTimeout (s : State) : Host.Outcome State Fault Refusal := live replyTimedOut s

/-- BUS_GAP_EXPIRY (R148). -/
def execBusGapExpiry (s : State) : Host.Outcome State Fault Refusal := live busGap s

end Sys2Proof.Machine
end

