-- ==== Sys2Proof/Machine/TimerCommands.lean ====
section
/-! DEFINITION. The meanings of the crossings, of the expiries of timers, and of the end of a store write. -/

namespace Sys2Proof.Machine

/-- MINUTE_CROSSING (R110, R116): network time advances, if its next second makes a minute crossing. -/
def execMinuteCrossing (s : State) : Host.Outcome State Fault Refusal :=
  live (fun s => whenDue (minuteIsNext s) cross s) s

/-- MIDNIGHT_CROSSING (R110, R119): network time advances, if its next second makes a midnight crossing. -/
def execMidnightCrossing (s : State) : Host.Outcome State Fault Refusal :=
  live (fun s => whenDue (midnightIsNext s) cross s) s

/-- POLL_DUE (R156). -/
def execPollDue (unit : BusUnit) (s : State) : Host.Outcome State Fault Refusal :=
  live (fun s => whenDue (pollIsDue s unit) (pollDueReached unit) s) s

/-- LEVEL_STALE (R21). -/
def execLevelStale (tank : Tank) (s : State) : Host.Outcome State Fault Refusal :=
  live (fun s => whenDue (levelIsStale s tank) (levelBecomesStale tank) s) s

/-- CONDITION_FILTER_EXPIRY (R23). -/
def execConditionFilterExpiry (house : House) (condition : Condition) (s : State) : Host.Outcome State Fault Refusal :=
  live (fun s => whenDue (conditionIsDue s house condition) (conditionActivates house condition) s) s

/-- START_WINDOW_END (R44). -/
def execStartWindowEnd (pump : Pump) (s : State) : Host.Outcome State Fault Refusal :=
  live (fun s => whenDue (windowIsOver s pump) (windowEnded pump) s) s

/-- PERMIT_RELEASE_EXPIRY (R43). -/
def execPermitReleaseExpiry (pump : Pump) (s : State) : Host.Outcome State Fault Refusal :=
  live (fun s => whenDue (permitIsDue s pump) (releasePermit pump) s) s

/-- MIN_RUN_EXPIRY (R39). -/
def execMinRunExpiry (pump : Pump) (s : State) : Host.Outcome State Fault Refusal :=
  live (fun s => whenDue (minRunIsOver s pump) (minRunExpires pump) s) s

/-- MIN_OFF_EXPIRY (R38). -/
def execMinOffExpiry (pump : Pump) (s : State) : Host.Outcome State Fault Refusal :=
  live (fun s => whenDue (minOffIsOver s pump) (minOffExpires pump) s) s

/-- START_HISTORY_EXPIRY (R37). -/
def execStartHistoryExpiry (pump : Pump) (s : State) : Host.Outcome State Fault Refusal :=
  live (fun s => whenDue (historyIsDue s pump) (historyExpires pump) s) s

/-- MAIN_SETTLED (R72). -/
def execMainSettled (house : House) (feederFirst : Bool) (s : State) : Host.Outcome State Fault Refusal :=
  live (fun s => whenDue (mainIsDue s house) (mainSettles house feederFirst) s) s

/-- METER_STALE (R104). -/
def execMeterStale (s : State) : Host.Outcome State Fault Refusal :=
  live (fun s => whenDue (meterIsStale s) meterBecomesStale s) s

/-- METER_PHASE_EXPIRY (R106). -/
def execMeterPhaseExpiry (s : State) : Host.Outcome State Fault Refusal :=
  live (fun s => whenDue (phaseIsOver s) phaseExpired s) s

/-- TT_ENDED (R118). -/
def execTtEnded (entry : Entry) (s : State) : Host.Outcome State Fault Refusal :=
  live (fun s => whenDue (windowIsDue s entry) (windowExpires entry) s) s

/-- ALARM_FILTER_EXPIRY (R130). -/
def execAlarmFilterExpiry (house : House) (code : Code) (s : State) : Host.Outcome State Fault Refusal :=
  live (fun s => whenDue (alarmIsDue s house code) (alarmExpires house code) s) s

/-- RECOVERY_EXPIRY (R137). -/
def execRecoveryExpiry (house : House) (s : State) : Host.Outcome State Fault Refusal :=
  live (fun s => whenDue (recoveryIsOver s house) (recoveryExpired house) s) s

/-- FORGIVE_EXPIRY (R138). -/
def execForgiveExpiry (house : House) (s : State) : Host.Outcome State Fault Refusal :=
  live (fun s => whenDue (forgiveIsDue s house) (forgive house) s) s

/-- STORE_WRITE_COMPLETE (R179). -/
def execStoreWriteComplete (crcMatches : Bool) (s : State) : Host.Outcome State Fault Refusal :=
  live (storeCompletes crcMatches) s

end Sys2Proof.Machine
end

