-- ==== Sys2Proof/Machine/Dispatch.lean ====
section
/-! DEFINITION. The meaning of every command: one arm for each row of spec/opcode_table.json. -/

namespace Sys2Proof.Machine

/-- The meaning of a command (95_what_each_step_holds.md). -/
def exec (i : Instr) (s : State) : Host.Outcome State Fault Refusal :=
  match i with
  | .powerOn strap1 strap0 crcMatches => Sys2Proof.Machine.execPowerOn strap1 strap0 crcMatches s
  | .resetAsserted => Sys2Proof.Machine.execResetAsserted s
  | .resetLine strap1 strap0 crcMatches => Sys2Proof.Machine.execResetLine strap1 strap0 crcMatches s
  | .hostRestart => Sys2Proof.Machine.execHostRestart s
  | .supFrameReceived bytes => Sys2Proof.Machine.execSupFrameReceived bytes s
  | .supGapExpiry => Sys2Proof.Machine.execSupGapExpiry s
  | .replySent => Sys2Proof.Machine.execReplySent s
  | .ident tag body => Sys2Proof.Machine.execIdent tag body s
  | .setTime tag body => Sys2Proof.Machine.execSetTime tag body s
  | .tableWrite tag body => Sys2Proof.Machine.execTableWrite tag body s
  | .tableRead tag body => Sys2Proof.Machine.execTableRead tag body s
  | .bankClear tag body => Sys2Proof.Machine.execBankClear tag body s
  | .bankCheck tag body => Sys2Proof.Machine.execBankCheck tag body s
  | .bankSwap tag body => Sys2Proof.Machine.execBankSwap tag body s
  | .planStore tag body => Sys2Proof.Machine.execPlanStore tag body s
  | .houseMode tag body => Sys2Proof.Machine.execHouseMode tag body s
  | .houseTarget tag body => Sys2Proof.Machine.execHouseTarget tag body s
  | .houseClear tag body => Sys2Proof.Machine.execHouseClear tag body s
  | .houseSuppress tag body => Sys2Proof.Machine.execHouseSuppress tag body s
  | .pumpIsolate tag body => Sys2Proof.Machine.execPumpIsolate tag body s
  | .pumpRestore tag body => Sys2Proof.Machine.execPumpRestore tag body s
  | .pumpClear tag body => Sys2Proof.Machine.execPumpClear tag body s
  | .stateRead tag body => Sys2Proof.Machine.execStateRead tag body s
  | .eventRead tag body => Sys2Proof.Machine.execEventRead tag body s
  | .restart tag body => Sys2Proof.Machine.execRestart tag body s
  | .unknownKind kind tag body => Sys2Proof.Machine.execUnknownKind kind tag body s
  | .minuteCrossing => Sys2Proof.Machine.execMinuteCrossing s
  | .midnightCrossing => Sys2Proof.Machine.execMidnightCrossing s
  | .busRequestSent => Sys2Proof.Machine.execBusRequestSent s
  | .report bytes => Sys2Proof.Machine.execReport bytes s
  | .orderReply bytes => Sys2Proof.Machine.execOrderReply bytes s
  | .meterReply bytes => Sys2Proof.Machine.execMeterReply bytes s
  | .replyTimeout => Sys2Proof.Machine.execReplyTimeout s
  | .busGapExpiry => Sys2Proof.Machine.execBusGapExpiry s
  | .pollDue unit => Sys2Proof.Machine.execPollDue unit s
  | .levelStale tank => Sys2Proof.Machine.execLevelStale tank s
  | .conditionFilterExpiry house condition => Sys2Proof.Machine.execConditionFilterExpiry house condition s
  | .startWindowEnd pump => Sys2Proof.Machine.execStartWindowEnd pump s
  | .permitReleaseExpiry pump => Sys2Proof.Machine.execPermitReleaseExpiry pump s
  | .minRunExpiry pump => Sys2Proof.Machine.execMinRunExpiry pump s
  | .minOffExpiry pump => Sys2Proof.Machine.execMinOffExpiry pump s
  | .startHistoryExpiry pump => Sys2Proof.Machine.execStartHistoryExpiry pump s
  | .mainSettled house feederFirst => Sys2Proof.Machine.execMainSettled house feederFirst s
  | .meterStale => Sys2Proof.Machine.execMeterStale s
  | .meterPhaseExpiry => Sys2Proof.Machine.execMeterPhaseExpiry s
  | .ttEnded entry => Sys2Proof.Machine.execTtEnded entry s
  | .alarmFilterExpiry house code => Sys2Proof.Machine.execAlarmFilterExpiry house code s
  | .recoveryExpiry house => Sys2Proof.Machine.execRecoveryExpiry house s
  | .forgiveExpiry house => Sys2Proof.Machine.execForgiveExpiry house s
  | .storeWriteComplete crcMatches => Sys2Proof.Machine.execStoreWriteComplete crcMatches s
  | .supByteReceived byte stopBit => Sys2Proof.Machine.execSupByteReceived byte stopBit s
  | .busByteReceived byte => Sys2Proof.Machine.execBusByteReceived byte s

end Sys2Proof.Machine
end

