-- ==== Sys2Proof/Machine/Step.lean ====
section
/-! DEFINITION. One step: the command at the front of the queue, or, on an empty queue, the part's own clock. -/

namespace Sys2Proof.Machine

/-! ### The part's own clock (log 1, log 4) -/

/-- The commands of one kind of timer that are due. -/
def dueOver {α : Type} (xs : List α) (due : α → Bool) (command : α → Instr) : List Instr :=
  (xs.filter due).map command

/-- The due conditions of a house. -/
def dueConditions (s : State) (h : House) : List Instr :=
  dueOver [Condition.suctionLow, .overflow, .lowAlarm] (conditionIsDue s h) (.conditionFilterExpiry h)

/-- The due alarm filters of a house, in list order. -/
def dueAlarms (s : State) (h : House) : List Instr :=
  dueOver (s.protection[h].alarms.map fun e => e.code) (alarmIsDue s h) (.alarmFilterExpiry h)

/-- Every timer event that is due, in the order in which an idle part takes them: the rows of the table in its order, and
within a row in ascending index (log 4). -/
def dueEvents (s : State) : List Instr :=
  dueOver [()] (fun _ => s.time.crossingWaits && minuteIsNext s) (fun _ => .minuteCrossing) ++
  dueOver [()] (fun _ => s.time.crossingWaits && midnightIsNext s) (fun _ => .midnightCrossing) ++
  dueOver (allStations.map BusUnit.station ++ [.meter]) (pollIsDue s) .pollDue ++
  dueOver allTanks (levelIsStale s) .levelStale ++
  allHouses.flatMap (dueConditions s) ++
  dueOver allPumps (windowIsOver s) .startWindowEnd ++
  dueOver allPumps (permitIsDue s) .permitReleaseExpiry ++
  dueOver allPumps (minRunIsOver s) .minRunExpiry ++
  dueOver allPumps (minOffIsOver s) .minOffExpiry ++
  dueOver allPumps (historyIsDue s) .startHistoryExpiry ++
  dueOver allHouses (mainIsDue s) (fun h => .mainSettled h false) ++
  dueOver [()] (fun _ => meterIsStale s) (fun _ => .meterStale) ++
  dueOver [()] (fun _ => phaseIsOver s) (fun _ => .meterPhaseExpiry) ++
  dueOver allEntries (windowIsDue s) .ttEnded ++
  allHouses.flatMap (dueAlarms s) ++
  dueOver allHouses (recoveryIsOver s) .recoveryExpiry ++
  dueOver allHouses (forgiveIsDue s) .forgiveExpiry

/-- The part with no command waiting: the first event that is due comes about, or else one second passes (DESIGN CHOICE,
log 1). While the reset input is asserted nothing does. -/
def idle (s : State) : Host.Outcome State Fault Refusal :=
  if s.inReset then .next s
  else
    match dueEvents s with
    | i :: _ => exec i s
    | [] => .next (finish (passSecond s))

/-- One step: the command at the front of the queue is taken, with the rest of the queue in its place. -/
def step (s : State) : Host.Outcome State Fault Refusal :=
  match s.pending with
  | c :: rest => exec c { s with pending := rest }
  | [] => idle s

/-- The state with the command that a word spells at the front of the queue; unchanged where it spells none (log 43). -/
def State.withFetchWord (s : State) (nbits w : Nat) : State :=
  match decodeTableWord nbits w with
  | none => s
  | some c => { s with pending := c :: s.pending }

end Sys2Proof.Machine
end

