-- ==== Sys2Proof/WellFormed.lean ====
section
/-! DEFINITION. Which commands are well formed: what a command of the table can carry. `exec` has a meaning for the
others as well (their bytes and codes are taken as they are); these checks say which commands the table's rows name. -/

namespace Sys2Proof

/-- Why a command is not one that its row of the table names. -/
inductive Defect where
  /-- A request body over 250 bytes cannot be framed (R184, R190). -/
  | bodyTooLong
  /-- UNKNOWN_KIND names a kind that R188 defines. -/
  | kindIsDefined
  /-- A row for a completed frame carries no byte, so nothing completed it (R148, R185). -/
  | noBytes
  deriving DecidableEq, Repr

/-- R188: the request kind codes 1 to 18. -/
def definedKind (k : Byte) : Bool := decide (1 ≤ k.toNat ∧ k.toNat ≤ 18)

/-- The first defect of a request's operands, if any. -/
def bodyDefect (body : List Byte) : Option Defect :=
  if body.length ≤ 250 then none else some .bodyTooLong

/-- The first defect of the bytes of a completed frame, if any. -/
def bytesDefect (bytes : List Byte) : Option Defect :=
  if bytes.isEmpty then some .noBytes else none

/-- The first defect of a command, or none if it is well formed. -/
def Instr.defect : Instr → Option Defect
  | .powerOn _ _ _ => none
  | .resetAsserted => none
  | .resetLine _ _ _ => none
  | .hostRestart => none
  | .supFrameReceived bytes => bytesDefect bytes
  | .supGapExpiry => none
  | .replySent => none
  | .ident _ body => bodyDefect body
  | .setTime _ body => bodyDefect body
  | .tableWrite _ body => bodyDefect body
  | .tableRead _ body => bodyDefect body
  | .bankClear _ body => bodyDefect body
  | .bankCheck _ body => bodyDefect body
  | .bankSwap _ body => bodyDefect body
  | .planStore _ body => bodyDefect body
  | .houseMode _ body => bodyDefect body
  | .houseTarget _ body => bodyDefect body
  | .houseClear _ body => bodyDefect body
  | .houseSuppress _ body => bodyDefect body
  | .pumpIsolate _ body => bodyDefect body
  | .pumpRestore _ body => bodyDefect body
  | .pumpClear _ body => bodyDefect body
  | .stateRead _ body => bodyDefect body
  | .eventRead _ body => bodyDefect body
  | .restart _ body => bodyDefect body
  | .unknownKind kind _ body => if definedKind kind then some .kindIsDefined else bodyDefect body
  | .minuteCrossing => none
  | .midnightCrossing => none
  | .busRequestSent => none
  | .report bytes => bytesDefect bytes
  | .orderReply bytes => bytesDefect bytes
  | .meterReply bytes => bytesDefect bytes
  | .replyTimeout => none
  | .busGapExpiry => none
  | .pollDue _ => none
  | .levelStale _ => none
  | .conditionFilterExpiry _ _ => none
  | .startWindowEnd _ => none
  | .permitReleaseExpiry _ => none
  | .minRunExpiry _ => none
  | .minOffExpiry _ => none
  | .startHistoryExpiry _ => none
  | .mainSettled _ _ => none
  | .meterStale => none
  | .meterPhaseExpiry => none
  | .ttEnded _ => none
  | .alarmFilterExpiry _ _ => none
  | .recoveryExpiry _ => none
  | .forgiveExpiry _ => none
  | .storeWriteComplete _ => none
  | .supByteReceived _ _ => none
  | .busByteReceived _ => none

/-- A command its row of the table names. -/
abbrev Instr.WellFormed (i : Instr) : Prop := i.defect = none

end Sys2Proof
end

