-- ==== Sys2Proof/Safety.lean ====
section
/-! DEFINITION. The terms in which the statements speak: what holds of the part between events, what of the state the work
of an event leaves alone, and what an answered request leaves. -/

namespace Sys2Proof.Machine

/-! ### Between events -/

/-- The two sums are the sums of the bookings (R88). -/
def SumsHold (s : State) : Prop :=
  s.feeder.committed = sumBookings s ∧ s.feeder.committedForShed = sumForShed s

/-- The attention output and BUS_DE stand as the Event Queue, the transaction in flight and the reset input give
(R193, R200, R201). -/
def PinsDriven (s : State) : Prop :=
  s.attn = (!s.inReset && !s.eventQueue.records.isEmpty) ∧
    s.busDe = (!s.inReset && s.bus.flight.any fun f => f.sentAt.isNone)

/-- No entry waits in the transmit queue while the bus of a planned part is IDLE (R146). -/
def BusGoes (s : State) : Prop := planned s = true → s.bus.flight = none → s.bus.queue = []

/-- Every event has been taken to its end: nothing handed on waits, and the sums, the bus and the pins have followed. -/
def Settled (s : State) : Prop := s.work = blankWork ∧ SumsHold s ∧ BusGoes s ∧ PinsDriven s

/-- The supervisory link is at rest: out of reset, nothing buffered and no reply in progress (R186). -/
def LinkFree (s : State) : Prop := s.inReset = false ∧ s.link.buffer = [] ∧ s.link.reply = none

/-! ### What the work of an event leaves alone -/

/-- The part of the state that the evaluations, shed tests, admission passes and transaction starts of an event never
write: everything but the pumps, the wants and duty lists, the survey, the Start Queue with its sums, episode, shed phase
and pass record, the transmit queue, flight and tags, the Event Queue, the pins, and what is handed on. -/
structure Standing where
  inReset : Bool
  rateCode : Fin 4
  restartCause : RestartCause
  time : TimeBase
  banks : PlanBanks
  store : PlanStore
  stations : Vector StationLive 12
  meterUnit : MeterUnit
  levels : Vector LevelRecord 12
  hydraulics : Vector Hydraulics 8
  houses : Vector (Mode × Nat × Option Nat) 8
  cap : Nat
  meter : MeterRecord
  timetable : Timetable
  protection : Vector Protection 8
  noteSets : Vector (List Code) 12
  link : SupervisoryLink
  pending : List Instr
  deriving DecidableEq, Repr

/-- A station's record apart from its next tag, which sending an ORDER steps (R152). -/
def untagged (r : StationLive) : StationLive := { r with nextTag := 0 }

/-- A house's mode, manual target and main-settled-at. -/
def houseSettings (r : HouseLive) : Mode × Nat × Option Nat := (r.mode, r.manualTarget, r.mainSettledAt)

/-- A meter record apart from its shed phase, which a METER_SHED stop moves (R106). -/
def unphased (r : MeterRecord) : MeterRecord := { r with phase := .idle, phaseUntil := none }

/-- The standing part of a state. -/
def standing (s : State) : Standing :=
  { inReset := s.inReset, rateCode := s.rateCode, restartCause := s.restartCause, time := s.time, banks := s.banks
    store := s.store, stations := s.bus.stations.map untagged, meterUnit := s.bus.meter, levels := s.levels
    hydraulics := s.hydraulics, houses := s.houses.map houseSettings, cap := s.feeder.cap
    meter := unphased s.feeder.meter, timetable := s.timetable, protection := s.protection, noteSets := s.noteSets
    link := s.link, pending := s.pending }

/-! ### A restart with an active bank -/

/-- The Station Bus Controller after a restart (R163): the polls of the in-use stations are asked for in ascending address
and the meter's behind them, the first is being sent, and the others wait with their arrival numbers. -/
def restartBus (pl : Plan) : StationBus :=
  let units := ((allStations.filter fun st => pl.stations[st].inUse).map BusUnit.station) ++ [.meter]
  let first := units.headD .meter
  { queue := units.tail.zipIdx.map fun u =>
      { unit := u.1, cls := if u.1 = .meter then .routine else .urgent, order := none, arrival := u.2 + 1 }
    nextArrival := units.length
    flight := some
      { unit := first, request := if first = .meter then .meterPoll else .poll, timeout := pl.header.replyTimeout
        frame := busFrame (unitAddress first) (if first = .meter then 5 else 1) []
        sentAt := none, partialReply := [], discarded := false }
    stations := Vector.replicate 12 blankStation
    meter := { pollDue := none, lastFail := none, good := 0, failed := 0 } }

/-- A house's conditions and positions after a restart (R30, log 24): with a suction tank, SUCTION_LOW begins its filter at
the uptime of the restart. -/
def restartHydraulics (r : HouseRecord) (uptime : Nat) : Hydraulics :=
  { suctionLow :=
      if r.suction = none then { active := false, pending := none }
      else if r.levelFilter = 0 then { active := true, pending := none }
      else { active := false, pending := some { since := uptime, filter := r.levelFilter } }
    overflow := { active := false, pending := none }
    lowAlarm := { active := false, pending := none }
    wanted := #v[false, false, false, false]
    degraded := true }

/-- What every block of a planned part holds after a restart, or after the first swap out of UNPLANNED (R177), at the
uptime and network time as they stand. With no station in use the survey has ended at once (R81, R82). -/
structure RestartForm (pl : Plan) (t : State) : Prop where
  /-- R163. -/
  bus : t.bus = restartBus pl
  /-- R17. -/
  levels : ∀ k : Tank, t.levels[k] = blankLevel
  /-- R30. -/
  hydraulics : ∀ h : House, t.hydraulics[h] =
    if pl.houses[h].inUse then restartHydraulics pl.houses[h] t.time.uptime else blankHydraulics
  /-- R36. -/
  pumps : ∀ p : Pump, t.pumps[p] =
    if pl.pumps[p].inUse then
      { blankPump with state := .unconfirmed, booking := drawB t p pl.houses[houseOf p].pumpCount }
    else blankPump
  /-- R56, R61. -/
  houses : ∀ h : House, t.houses[h] =
    if pl.houses[h].inUse then
      { blankHouse with mode := pl.houses[h].initialMode, dutyList := pl.pumpsInUse h }
    else blankHouse
  /-- R80, R81. -/
  survey :
    let stations := allStations.filter fun st => pl.stations[st].inUse
    t.survey = { running := !stations.isEmpty, awaited := stations, answered := 0 }
  /-- R88, R100, R107. -/
  feeder : t.feeder =
    { committed := sumBookings t, committedForShed := sumForShed t
      cap := capOf pl (t.time.net.bind fun n => selectWindow pl n.day (n.second / 60))
      queue := [], nextSeq := 0, overCap := false, meter := blankMeter
      lastPass :=
        if ∃ st : Station, pl.stations[st].inUse = true then none
        else some
          { uptime := t.time.uptime, admittedCount := 0, passedOver := 0, ended := .queueEnd, candidate := none
            tested := none } }
  /-- R113, R120, R123: no level is usable, so an entry that would be joined takes its mark and is skipped. -/
  timetable : t.timetable =
    { windowInForce := t.time.net.bind fun n => selectWindow pl n.day (n.second / 60)
      windows := []
      fired := Vector.ofFn fun e : Entry => t.time.net.any fun n =>
        pl.timetable[e].inUse && !pl.timetable[e].retired && pl.timetable[e].days[n.day] &&
          decide (pl.timetable[e].startMinute * 60 ≤ n.second) }
  /-- R143. -/
  protection : ∀ h : House, t.protection[h] = blankProtection
  /-- R133, R143. -/
  noteSets : ∀ st : Station, t.noteSets[st] = []

/-! ### Requests and their replies -/

/-- The request frame that a request row stands for (R184, R188); none for the rows that are no requests. -/
def requestFrame : Instr → Option Frame
  | .powerOn _ _ _ => none
  | .resetAsserted => none
  | .resetLine _ _ _ => none
  | .hostRestart => none
  | .supFrameReceived _ => none
  | .supGapExpiry => none
  | .replySent => none
  | .ident tag body => some { kind := 1#8, tag, body }
  | .setTime tag body => some { kind := 2#8, tag, body }
  | .tableWrite tag body => some { kind := 3#8, tag, body }
  | .tableRead tag body => some { kind := 4#8, tag, body }
  | .bankClear tag body => some { kind := 5#8, tag, body }
  | .bankCheck tag body => some { kind := 6#8, tag, body }
  | .bankSwap tag body => some { kind := 7#8, tag, body }
  | .planStore tag body => some { kind := 8#8, tag, body }
  | .houseMode tag body => some { kind := 9#8, tag, body }
  | .houseTarget tag body => some { kind := 10#8, tag, body }
  | .houseClear tag body => some { kind := 11#8, tag, body }
  | .houseSuppress tag body => some { kind := 12#8, tag, body }
  | .pumpIsolate tag body => some { kind := 13#8, tag, body }
  | .pumpRestore tag body => some { kind := 14#8, tag, body }
  | .pumpClear tag body => some { kind := 15#8, tag, body }
  | .stateRead tag body => some { kind := 16#8, tag, body }
  | .eventRead tag body => some { kind := 17#8, tag, body }
  | .restart tag body => some { kind := 18#8, tag, body }
  | .unknownKind kind tag body => some { kind, tag, body }
  | .minuteCrossing => none
  | .midnightCrossing => none
  | .busRequestSent => none
  | .report _ => none
  | .orderReply _ => none
  | .meterReply _ => none
  | .replyTimeout => none
  | .busGapExpiry => none
  | .pollDue _ => none
  | .levelStale _ => none
  | .conditionFilterExpiry _ _ => none
  | .startWindowEnd _ => none
  | .permitReleaseExpiry _ => none
  | .minRunExpiry _ => none
  | .minOffExpiry _ => none
  | .startHistoryExpiry _ => none
  | .mainSettled _ _ => none
  | .meterStale => none
  | .meterPhaseExpiry => none
  | .ttEnded _ => none
  | .alarmFilterExpiry _ _ => none
  | .recoveryExpiry _ => none
  | .forgiveExpiry _ => none
  | .storeWriteComplete _ => none
  | .supByteReceived _ _ => none
  | .busByteReceived _ => none

/-- Between events, out of reset. -/
def Running (s : State) : Prop := Settled s ∧ s.inReset = false

/-- Between events, out of reset, with the link at rest: a request that completes now is taken at once (R186). -/
def Ready (s : State) : Prop := Settled s ∧ LinkFree s

/-- A request counted as taken (R187). -/
def counted (s : State) : State :=
  { s with link := { s.link with counters :=
      { s.link.counters with framesTaken := min 65535 (s.link.counters.framesTaken + 1) } } }

/-- A reply in progress with its kind, tag and body (R184, R189). -/
def replying (kind tag : Byte) (body : List Byte) (s : State) : State :=
  { s with link := { s.link with reply := some { kind, tag, body, restarts := false } } }

/-- A request counted, and its reply in progress. -/
def answered (kind tag : Byte) (body : List Byte) (s : State) : State := replying kind tag body (counted s)

/-- The body length that a request kind requires (R188); none for TABLE_WRITE, which R169 sizes, and for the kinds that
are not defined. -/
def bodyLength (kind : Byte) : Option Nat :=
  match kind.toNat with
  | 1 => some 0
  | 2 => some 5
  | 4 => some 4
  | 5 => some 1
  | 6 => some 1
  | 7 => some 1
  | 8 => some 0
  | 9 => some 2
  | 10 => some 2
  | 11 => some 1
  | 12 => some 2
  | 13 => some 1
  | 14 => some 1
  | 15 => some 1
  | 16 => some 3
  | 17 => some 0
  | 18 => some 0
  | _ => none

/-! ### Records -/

/-- The table kind of a record (chapter 9, section 9.2). -/
def kindOfRecord : TableRecord → TableKind
  | .header _ => .header
  | .house _ => .house
  | .tank _ => .tank
  | .pump _ => .pump
  | .station _ => .station
  | .alarm _ => .alarmMap
  | .window _ => .tariffWindow
  | .entry _ => .timetable

/-- Every field of a record lies in the range of its field table (R3, R5, R10, R14, R112, R114, R126, R155). -/
def InFieldRange : TableRecord → Prop
  | .header r =>
    r.label ≤ 4294967295 ∧ r.defaultCap ≤ 65535 ∧ (1 ≤ r.permitCount ∧ r.permitCount ≤ 4) ∧
    (50 ≤ r.replyTimeout ∧ r.replyTimeout ≤ 1000) ∧ (1 ≤ r.silenceLimit ∧ r.silenceLimit ≤ 10) ∧
    (10 ≤ r.levelHold ∧ r.levelHold ≤ 3600) ∧ (1 ≤ r.meterPoll ∧ r.meterPoll ≤ 10) ∧ r.meterHoldLevel ≤ 65535 ∧
    r.meterShedLevel ≤ 65535 ∧ r.meterFilter ≤ 60 ∧ (5 ≤ r.meterShedSettle ∧ r.meterShedSettle ≤ 600) ∧
    (5 ≤ r.meterStale ∧ r.meterStale ≤ 600) ∧ (1 ≤ r.suctionMargin ∧ r.suctionMargin ≤ 200) ∧ r.lowAlarmMargin ≤ 200
  | .house r =>
    r.sourceElevation ≤ 60000 ∧ (1 ≤ r.pumpCount ∧ r.pumpCount ≤ 4) ∧ r.priority ≤ 7 ∧ r.friction ≤ 500 ∧
    (5 ≤ r.mainSettle ∧ r.mainSettle ≤ 300) ∧ r.levelFilter ≤ 60 ∧ (10 ≤ r.recoveryTime ∧ r.recoveryTime ≤ 3600) ∧
    r.recoveryRetries ≤ 15 ∧ r.fallback ≤ 4
  | .tank r =>
    r.base ≤ 60000 ∧ (100 ≤ r.height ∧ r.height ≤ 3000) ∧ r.overflow ≤ 3000 ∧ (∀ i : Fin 4, r.stop[i] ≤ 3000) ∧
    (∀ i : Fin 4, r.start[i] ≤ 3000) ∧ r.lowAlarm ≤ 3000 ∧ r.cutoff ≤ 3000
  | .pump r =>
    (2 ≤ r.curve.length ∧ r.curve.length ≤ 6) ∧ (∀ q ∈ r.curve, q.head ≤ 65535 ∧ q.draw ≤ 65535) ∧
    (10 ≤ r.startFactor ∧ r.startFactor ≤ 80) ∧ (1 ≤ r.startWindow ∧ r.startWindow ≤ 120) ∧ r.minRun ≤ 7200 ∧
    r.minOff ≤ 7200 ∧ (1 ≤ r.startsPerHour ∧ r.startsPerHour ≤ 6)
  | .station r => 2 ≤ r.pollInterval ∧ r.pollInterval ≤ 60
  | .alarm r => r.filter ≤ 600
  | .window r => r.startMinute ≤ 1439 ∧ r.cap ≤ 65535 ∧ r.periodLabel ≤ 3
  | .entry r =>
    r.count ≤ 4 ∧ r.startMinute ≤ 1439 ∧ (1 ≤ r.duration ∧ r.duration ≤ 1439) ∧ r.guardLevel ≤ 3000 ∧ r.runs ≤ 255

/-! ### Events -/

/-- A record entered in the Event Queue, with the attention output asserted (R199, R200). -/
def logged (kind : EventKind) (house : Option House) (pump : Option Pump) (tank : Option Tank) (value1 value2 : Nat)
    (s : State) : State :=
  { s with eventQueue := enterEvent (eventNow kind house pump tank value1 value2 s) s.eventQueue, attn := true }

/-- The records of a state begin with some: none of them is lost or overtaken. -/
def BeginsWith (records : List EventRecord) (t : State) : Prop := records <+: t.eventQueue.records

/-- The records of a state once an event has been raised in it (R199). -/
def withEvent (kind : EventKind) (house : Option House) (pump : Option Pump) (tank : Option Tank) (value1 value2 : Nat)
    (s : State) : List EventRecord :=
  (enterEvent (eventNow kind house pump tank value1 value2 s) s.eventQueue).records

/-! ### Banks -/

/-- A bank apart from what the Timetable Unit writes into it: the retired flags and remaining runs (R117). -/
def unspent (b : Bank) : Bank :=
  { b with plan := { b.plan with timetable := b.plan.timetable.map fun e => { e with runs := 0, retired := false } } }

/-! ### The Start Queue -/

/-- The Start Queue holds QUEUED pumps only, each under its own house, none twice, and every QUEUED pump (R92). -/
def QueueHoldsTheQueued (s : State) : Prop :=
  (∀ e ∈ s.feeder.queue, s.pumps[e.pump].state = .queued ∧ e.house = houseOf e.pump) ∧
    (∀ p : Pump, s.pumps[p].state = .queued → ∃ e ∈ s.feeder.queue, e.pump = p) ∧
    (s.feeder.queue.map fun e => e.pump).Nodup

/-! ### The station bus -/

/-- The row of a reply to a request (R147). -/
def answerRow : Request → List Byte → Instr
  | .poll => .report
  | .order _ _ => .orderReply
  | .meterPoll => .meterReply

/-- A transaction waits for its reply, of which no byte has come (R146, R148). -/
def Waiting (f : Flight) (s : State) : Prop :=
  s.bus.flight = some f ∧ f.sentAt.isSome = true ∧ f.partialReply = [] ∧ f.discarded = false

/-- A station's urgent poll waits, or a poll of the station is in flight (R159). -/
def UrgentlyPolled (st : Station) (t : State) : Prop :=
  (∃ e ∈ t.bus.queue, e.unit = .station st ∧ e.order = none ∧ e.cls = .urgent) ∨
    ∃ f, t.bus.flight = some f ∧ f.unit = .station st ∧ f.request = .poll

/-- A station's record after a good reply (R161), its next tag aside. -/
def answeredStation (uptime : Nat) (r : StationLive) : StationLive :=
  untagged { r with state := .online, silence := 0, lastGood := some uptime, good := min 65535 (r.good + 1) }

/-- A station's record after a failed transaction that leaves its state (R162), its next tag aside. -/
def failedStation (reason : FailReason) (r : StationLive) : StationLive :=
  untagged { r with
    silence := min 255 (r.silence + 1), failed := min 65535 (r.failed + 1), lastFail := some reason }

/-- A house's settings after a rising main operation (R71). -/
def mainMoved (s : State) (h : House) : Mode × Nat × Option Nat :=
  (s.houses[h].mode, s.houses[h].manualTarget,
    some (max (s.time.uptime + (planOf s).houses[h].mainSettle) ((s.houses[h].mainSettledAt).getD 0)))

/-! ### Timetable entries at a change of time -/

/-- What a change of time brings an entry (R116, R120, R121): nothing; its mark alone; a start until an uptime, with the
marking of TT_FIRED; a skip, with its reason; or a miss, by some minutes. A start or skip of the day before takes no mark. -/
inductive EntryFate where
  | untouched
  | passed
  | starts (marks : Bool) (activeUntil marking : Nat)
  | skipped (marks : Bool) (reason : Nat)
  | missed (minutes : Nat)
  deriving DecidableEq, Repr

/-- An entry that would start, tested on the delivery level of its house and then on its guard (R116). -/
def testedFate (pl : Plan) (levels : Vector LevelRecord 12) (r : TimetableEntry) (marks : Bool)
    (activeUntil marking : Nat) : EntryFate :=
  let level := levels[pl.houses[r.house].delivery]
  match if level.quality = .fresh ∨ level.quality = .held then level.value else none with
  | none => .skipped marks 1
  | some l =>
    if (r.guardKind = .below → l ≤ r.guardLevel) ∧ (r.guardKind = .above → r.guardLevel ≤ l) then
      .starts marks activeUntil marking
    else .skipped marks 0

/-- An entry at the crossing of a minute, with the marks as they stand (R116). -/
def firingFate (pl : Plan) (levels : Vector LevelRecord 12) (uptime : Nat) (fired : Vector Bool 24) (day : Day)
    (minute : Nat) (e : Entry) : EntryFate :=
  let r := pl.timetable[e]
  if r.inUse = true ∧ r.retired = false ∧ r.startMinute = minute ∧ r.days[day] = true ∧ fired[e] = false then
    testedFate pl levels r true (uptime + r.duration * 60) 0
  else .untouched

/-- An entry at a re-establishment: today's start, or else yesterday's (R120). -/
def joiningFate (pl : Plan) (levels : Vector LevelRecord 12) (uptime : Nat) (fired : Vector Bool 24)
    (windows : List ActiveWindow) (n : NetTime) (e : Entry) : EntryFate :=
  let r := pl.timetable[e]
  let begins := r.startMinute * 60
  let ends := begins + r.duration * 60
  let active := ∃ w ∈ windows, w.entry = e
  if r.inUse = false ∨ r.retired = true then .untouched
  else if r.days[n.day] = true ∧ fired[e] = false ∧ begins ≤ n.second then
    if active ∨ ends ≤ n.second then .passed else testedFate pl levels r true (uptime + (ends - n.second)) 1
  else if ¬ active ∧ r.days[n.day + 6] = true ∧ 1440 < r.startMinute + r.duration ∧ n.second + 86400 < ends then
    testedFate pl levels r false (uptime + (ends - (n.second + 86400))) 1
  else .untouched

/-- An entry at a FORWARD jump from an old second of the day (R121). A miss counts its minutes rounded down (log 52). -/
def jumpedFate (pl : Plan) (levels : Vector LevelRecord 12) (uptime : Nat) (fired : Vector Bool 24) (old : Nat)
    (n : NetTime) (e : Entry) : EntryFate :=
  let r := pl.timetable[e]
  let begins := r.startMinute * 60
  let ends := begins + r.duration * 60
  if r.inUse = true ∧ r.retired = false ∧ fired[e] = false ∧ r.days[n.day] = true ∧ old < begins ∧ begins ≤ n.second then
    if n.second < ends then testedFate pl levels r true (uptime + (ends - n.second)) 1
    else .missed ((n.second - begins) / 60)
  else .untouched

/-- The fired-today marks after the fates of the entries (R116, R120, R121). -/
def marksAfter (fate : Entry → EntryFate) (fired : Vector Bool 24) : Vector Bool 24 :=
  Vector.ofFn fun e => fired[e] ||
    match fate e with
    | .untouched => false
    | .passed => true
    | .starts marks _ _ => marks
    | .skipped marks _ => marks
    | .missed _ => true

/-- The end that an entry's fate gives its window, if it starts one. -/
def startedUntil : EntryFate → Option Nat
  | .untouched => none
  | .passed => none
  | .starts _ activeUntil _ => some activeUntil
  | .skipped _ _ => none
  | .missed _ => none

/-- The active set after the fates of the entries: an entry that is there already takes the later of the two ends, and the
others join behind it in ascending index (R115, R116). -/
def windowsAfter (pl : Plan) (fate : Entry → EntryFate) (windows : List ActiveWindow) : List ActiveWindow :=
  (windows.map fun w => { w with activeUntil := max w.activeUntil ((startedUntil (fate w.entry)).getD 0) }) ++
    allEntries.filterMap fun e =>
      if windows.any fun w => w.entry == e then none
      else (startedUntil (fate e)).map fun activeUntil => { entry := e, house := pl.timetable[e].house, activeUntil }

/-- An entry's record after its fate: a limited entry that starts spends a run, and the last one retires it (R117). -/
def spentEntry (f : EntryFate) (r : TimetableEntry) : TimetableEntry :=
  if (startedUntil f).isSome = true ∧ r.limited = true then
    { r with runs := r.runs - 1, retired := r.retired || decide (r.runs ≤ 1) }
  else r

/-- The banks after the fates of the entries, which are written into the active bank alone (R117). -/
def banksAfter (fate : Entry → EntryFate) (banks : PlanBanks) : PlanBanks :=
  let spent := fun b : Bank => { b with plan := { b.plan with
    timetable := Vector.ofFn fun e => spentEntry (fate e) b.plan.timetable[e] } }
  match banks.active with
  | none => banks
  | some .a => { banks with a := spent banks.a }
  | some .b => { banks with b := spent banks.b }

/-- A state with the events of the entries' fates logged, in ascending index (R116, R117, R121). -/
def fatesLogged (pl : Plan) (fate : Entry → EntryFate) (s : State) : State :=
  allEntries.foldl
    (fun u e =>
      let r := pl.timetable[e]
      let log := fun (kind : EventKind) (value2 : Nat) => logged kind (some r.house) none none e.val value2
      match fate e with
      | .untouched => u
      | .passed => u
      | .starts _ _ marking =>
        if r.limited = true ∧ r.runs ≤ 1 then log .ttRetired 0 (log .ttFired marking u) else log .ttFired marking u
      | .skipped _ reason => log .ttSkipped reason u
      | .missed minutes => log .ttMissed minutes u)
    s

/-! ### A level and a house at a swap -/

/-- A tank's level record over a swap (R31). -/
def swappedLevel (old new : TankRecord) (r : LevelRecord) : LevelRecord :=
  if old.inUse = true ∧ new.inUse = true ∧ old.station = new.station ∧ old.channel = new.channel then
    match r.value with
    | none => r
    | some v => if new.height < v then { r with value := some new.height, clampEpisode := true } else r
  else blankLevel

/-- A condition after a level update: its raw condition begins the filter or, with no filter, activates it; its clearing
level ends it; between the two a pending condition is dropped (R23 to R26). -/
def movedCondition (raw clears : Bool) (uptime filter : Nat) (c : ConditionRecord) : ConditionRecord :=
  if raw then
    if c.active || c.pending.isSome then c
    else if filter = 0 then { active := true, pending := none }
    else { active := false, pending := some { since := uptime, filter } }
  else if clears || !c.active then { active := false, pending := none }
  else c

/-- A house's conditions and positions over a swap: what is kept of them, and then the level updates of its tanks under the
new bank (R32). `old` and `new` are the plans, and the levels are those after the swap. -/
def swappedHydraulics (old new : Plan) (levels : Vector LevelRecord 12) (uptime : Nat) (h : House) (y : Hydraulics) :
    Hydraulics :=
  let r := new.houses[h]
  let stays := old.houses[h].inUse
  let inactive : ConditionRecord := { active := false, pending := none }
  let sameSuction := stays && decide (old.houses[h].suction = r.suction)
  let sameDelivery := stays && decide (old.houses[h].delivery = r.delivery)
  let kept := fun (same : Bool) (c : ConditionRecord) => if same then c else inactive
  let usable := fun k : Tank =>
    if levels[k].quality = .fresh ∨ levels[k].quality = .held then levels[k].value else none
  let tank := new.tanks[r.delivery]
  let overflow := kept sameDelivery y.overflow
  let lowAlarm := kept sameDelivery y.lowAlarm
  { suctionLow :=
      match r.suction with
      | none => kept sameSuction y.suctionLow
      | some k =>
        movedCondition ((usable k).all fun l => decide (l ≤ new.tanks[k].cutoff))
          ((usable k).any fun l => decide (new.tanks[k].cutoff + new.header.suctionMargin ≤ l)) uptime r.levelFilter
          (kept sameSuction y.suctionLow)
    overflow :=
      match usable r.delivery with
      | none => overflow
      | some l => movedCondition (decide (tank.overflow ≤ l)) (decide (l < tank.stop[0])) uptime r.levelFilter overflow
    lowAlarm :=
      match usable r.delivery with
      | none => lowAlarm
      | some l =>
        movedCondition (decide (l ≤ tank.lowAlarm)) (decide (tank.lowAlarm + new.header.lowAlarmMargin < l)) uptime
          r.levelFilter lowAlarm
    wanted := Vector.ofFn fun i : Fin 4 =>
      match usable r.delivery with
      | none => false
      | some l =>
        decide (i.val < r.pumpCount) &&
          (decide (l ≤ tank.start[i]) || (decide (l < tank.stop[i]) && sameDelivery && y.wanted[i]))
    degraded := (usable r.delivery).isNone }

/-! ### A pump's record -/

/-- A pump's record in LOCAL, FAULTED or ISOLATED, with what R35 clears cleared. -/
def outRecord (state : PumpState) (fault : Option FaultCause) (r : PumpLive) : PumpLive :=
  { r with
    state, fault, permit := none, permitRelease := none, booking := 0, admittedM := none, windowEnd := none
    minRunUntil := none, minOffUntil := none, timedOut := none, stopCause := none }

/-- A pump's record in REST after a stop at an uptime (R38). -/
def restRecord (uptime minOff : Nat) (r : PumpLive) : PumpLive :=
  { r with
    state := .rest, fault := none, permit := none, permitRelease := none, booking := 0, admittedM := none
    startTime := none, admittedStart := false, windowEnd := none, minRunUntil := none, lastStop := some uptime
    minOffUntil := some (uptime + minOff), timedOut := none, stopCause := none }

/-- A pump's record with its admission undone (R42). -/
def unadmitted (r : PumpLive) : PumpLive :=
  { r with history := r.history.dropLast, startTime := none, admittedStart := false }

/-- A pump that was READY at some moment of an event may be READY, QUEUED or ORDERED at its end. -/
def OnItsWay (r : PumpLive) : Prop := r.state = .ready ∨ r.state = .queued ∨ r.state = .ordered

end Sys2Proof.Machine
end

