-- ==== Sys2Proof/Certificates/Slice0/Obligations.lean ====
section
/-! DEFINITION. The statements for the provers. A statement whose docstring names a log entry rests on a choice of the
model; the others rest on the rules their entries of OBLIGATIONS.json cite. -/

section

open Sys2Proof Sys2Proof.Machine

/-! ### The machine as a whole -/

/-- What the part holds after POWER_ON with a store never written: UNPLANNED, every block in its restart form, RESTARTED
and STORE_INVALID in the Event Queue, the attention output asserted, and nothing left to do. That reset means this start
is the model's choice (log 7). -/
def Obligations.ResetContents : Prop :=
  let s := State.reset
  Ready s ∧ planned s = false ∧ s.restartCause = .powerOn ∧ s.time = { uptime := 0, net := none } ∧
    s.banks = { a := emptyBank, b := emptyBank, active := none } ∧
    s.store = { image := none, valid := false, writing := none } ∧
    (∀ p : Pump, s.pumps[p].state = .unused ∧ s.pumps[p].booking = 0) ∧
    s.feeder.cap = 0 ∧ s.feeder.queue = [] ∧ s.bus.queue = [] ∧ s.bus.flight = none ∧ s.survey.running = false ∧
    (s.eventQueue.records.map fun r => (r.seq, r.kind, r.value1, r.value2)) =
      [(0, .restarted, 0, 0), (1, .storeInvalid, 0, 0)] ∧
    s.eventQueue.overflow = false ∧ s.attn = true ∧ s.busDe = false ∧ s.pending = [] ∧ QueueHoldsTheQueued s

/-- A step takes the command at the front of the queue, with the rest of the queue in its place. -/
def Obligations.StepTakesFront : Prop :=
  ∀ (c : Instr) (rest : List Instr) (s : State), s.pending = c :: rest → step s = exec c { s with pending := rest }

/-- No command stops the part: every command, in every state, answers a next state. This is the model's reading of the
part as a whole: no fault and no refusal is there to be raised (log 44), and a row whose event has not come about leaves
the state as it is (log 3). -/
def Obligations.NoCommandStops : Prop := ∀ (c : Instr) (s : State), ∃ t, exec c s = .next t

/-- A step on an empty queue: in reset nothing happens; otherwise the first event due comes about, or else a second
passes. The model's choice (log 1, log 4, log 47). -/
def Obligations.IdleStepIsTheClock : Prop :=
  ∀ s : State, s.pending = [] →
    (s.inReset = true → step s = .next s) ∧
    (∀ c cs, s.inReset = false → dueEvents s = c :: cs → step s = exec c s) ∧
    (s.inReset = false → dueEvents s = [] → step s = .next (finish (passSecond s)))

/-- Every step from a state between events ends between events: nothing handed on is left, the committed sums are the
sums of the bookings, no entry waits on an IDLE bus, and the pins follow the state. -/
def Obligations.EveryStepSettles : Prop :=
  ∀ s t : State, Settled s → step s = .next t → Settled t

/-- The attention output is asserted exactly while the Event Queue holds a record and the reset input is not asserted,
after every step and, with RESTARTED in the queue, after every restart. -/
def Obligations.AttentionFollowsTheQueue : Prop :=
  (∀ s t : State, Settled s → step s = .next t →
    (t.attn = true ↔ t.inReset = false ∧ t.eventQueue.records ≠ [])) ∧
  ∀ (strap1 strap0 crc : Bool) (s t : State),
    exec (.powerOn strap1 strap0 crc) s = .next t ∨ exec (.resetLine strap1 strap0 crc) s = .next t ∨
      (s.inReset = false ∧ restartReplyInProgress s = true ∧ exec .hostRestart s = .next t) →
    t.attn = true

/-- BUS_DE is asserted exactly while a request is being sent on the station bus and the reset input is not asserted. That
it falls in reset with an unsent request still in the record is the model's reading of R193 (log 10). -/
def Obligations.BusDriverFollowsTheRequest : Prop :=
  ∀ s t : State, Settled s → step s = .next t →
    (t.busDe = true ↔ t.inReset = false ∧ ∃ f, t.bus.flight = some f ∧ f.sentAt = none)

/-- The Event Queue never holds more than 128 records, and its next sequence number stays a 16-bit number. -/
def Obligations.EventQueueStaysBounded : Prop :=
  ∀ s t : State, s.eventQueue.records.length ≤ 128 ∧ s.eventQueue.nextSeq < 65536 → step s = .next t →
    t.eventQueue.records.length ≤ 128 ∧ t.eventQueue.nextSeq < 65536

/-- Of the commands, none but a restart changes the rate code or the restart cause, none but a restart and the two
crossings changes the uptime, and none touches the queue of commands. The end of an ordinary reply is no restart, and the
end of the RESTART reply is one (log 37). A second that passes on an empty queue moves the uptime as well, and is no
command (log 1). -/
def Obligations.OnlyRestartAndCrossingCommandsMoveTheClock : Prop :=
  ∀ (c : Instr) (s t : State), exec c s = .next t → t.pending = s.pending ∧
    ((∀ a b d, c ≠ .powerOn a b d) → (∀ a b d, c ≠ .resetLine a b d) → c ≠ .hostRestart →
      (c = .replySent → restartReplyInProgress s = false) →
      t.rateCode = s.rateCode ∧ t.restartCause = s.restartCause ∧
      (c ≠ .minuteCrossing → c ≠ .midnightCrossing → t.time.uptime = s.time.uptime))

/-- While a bank is active no command writes, clears or re-checks it: all but the retired flags and remaining runs of its
timetable stays as it was, for every command but the two restarts that load the store. -/
def Obligations.ActiveBankIsNotWritten : Prop :=
  ∀ (c : Instr) (s t : State) (k : BankId), exec c s = .next t →
    (∀ a b d, c ≠ .powerOn a b d) → (∀ a b d, c ≠ .resetLine a b d) →
    s.banks.active = some k → t.banks.active = some k → unspent (bankOf t k) = unspent (bankOf s k)

/-! ### Restarts -/

/-- RESET_N going low holds the pins deasserted and cuts off the reply being sent; while it is low the part takes no
event. That the row of the release is RESET_LINE, that POWER_ON is taken in reset, and that the state is otherwise kept
until the restart is the model's reading (log 9, log 10). -/
def Obligations.ResetHoldsThePart : Prop :=
  (∀ s : State, exec .resetAsserted s =
    .next { s with inReset := true, attn := false, busDe := false, link := { s.link with reply := none } }) ∧
  ∀ (c : Instr) (s : State), s.inReset = true → (∀ a b d, c ≠ .powerOn a b d) → (∀ a b d, c ≠ .resetLine a b d) →
    c ≠ .resetAsserted → exec c s = .next s

/-- POWER_ON and RESET_LINE with an image that is absent, does not match its CRC, or breaks a relation: the part is
UNPLANNED in the form of reset, with the straps' rate, the cause, and STORE_INVALID with its reason. What the medium
holds is kept (log 8). -/
def Obligations.ColdRestartWithoutAPlan : Prop :=
  ∀ (c : Instr) (cause : RestartCause) (strap1 strap0 crc : Bool) (s : State),
    (c = .powerOn strap1 strap0 crc ∧ cause = .powerOn ∨ c = .resetLine strap1 strap0 crc ∧ cause = .resetLine) →
    (∀ pl, s.store.image = some pl → crc = true → firstFailure pl ≠ none) →
    (rateOf strap1 strap0).val = 2 * strap1.toNat + strap0.toNat ∧
    exec c s = .next
      { State.reset with
        rateCode := rateOf strap1 strap0
        restartCause := cause
        store := { image := s.store.image, valid := false, writing := none }
        eventQueue :=
          { records :=
              [{ seq := 0, uptime := 0, minute := none, kind := .restarted, house := none, pump := none, tank := none
                 value1 := restartCode cause, value2 := 2 * strap1.toNat + strap0.toNat },
               { seq := 1, uptime := 0, minute := none, kind := .storeInvalid, house := none, pump := none
                 tank := none, value1 := if s.store.image.isSome && crc then 1 else 0, value2 := 0 }]
            overflow := false, nextSeq := 2 }
        pending := s.pending }

/-- POWER_ON and RESET_LINE with an image that matches its CRC and holds every relation: the plan is loaded into bank A,
CHECKED with its booking table and active, and every block takes its restart form. While a station is in use nothing but
RESTARTED is raised, and with none SURVEY_DONE follows. -/
def Obligations.ColdRestartWithAPlan : Prop :=
  ∀ (c : Instr) (cause : RestartCause) (strap1 strap0 : Bool) (pl : Plan) (s : State),
    (c = .powerOn strap1 strap0 true ∧ cause = .powerOn ∨ c = .resetLine strap1 strap0 true ∧ cause = .resetLine) →
    s.store.image = some pl → firstFailure pl = none →
    ∃ t, exec c s = .next t ∧ Settled t ∧ t.inReset = false ∧ t.restartCause = cause ∧
      t.rateCode = rateOf strap1 strap0 ∧ t.time = { uptime := 0, net := none } ∧
      t.banks =
        { a := { plan := pl, state := .checked, lastCheck := .passed, table := some (bookingTable pl) }
          b := emptyBank, active := some .a } ∧
      t.store = { image := some pl, valid := true, writing := none } ∧ RestartForm pl t ∧
      t.feeder.cap = pl.header.defaultCap ∧ t.timetable = blankTimetable ∧
      t.link = blankLink ∧ t.pending = s.pending ∧
      t.eventQueue =
        let restarted : EventRecord :=
          { seq := 0, uptime := 0, minute := none, kind := .restarted, house := none, pump := none, tank := none
            value1 := restartCode cause, value2 := (rateOf strap1 strap0).val }
        if ∃ st : Station, pl.stations[st].inUse = true then
          { records := [restarted], overflow := false, nextSeq := 1 }
        else
          { records := [restarted, { restarted with seq := 1, kind := .surveyDone, value1 := 0, value2 := 0 }]
            overflow := false, nextSeq := 2 }

/-- HOST_RESTART, at the end of the RESTART reply: the selection, the store, a SET network time and the rate are kept,
and the banks are kept whole, uptime begins again at 0, the link is blank and RESTARTED stands first in a new Event Queue.
With an active bank every block takes its restart form; without one the part is as after reset. REPLY_SENT on that reply
is the same moment, and without it HOST_RESTART does not come about (log 37). That a crossing which waits is dropped (log
47), and that SUCTION_LOW begins its filter at the restart, or is active at once without one (log 24), is the model's. -/
def Obligations.HostRestartKeepsThePlan : Prop :=
  ∀ s : State, s.inReset = false →
    (restartReplyInProgress s = true →
      exec .replySent s = exec .hostRestart s ∧
      ∃ t, exec .hostRestart s = .next t ∧ Settled t ∧ t.inReset = false ∧ t.restartCause = .hostRestart ∧
        t.rateCode = s.rateCode ∧ t.time = { uptime := 0, net := s.time.net } ∧ t.store = s.store ∧
        t.banks = s.banks ∧ t.link = blankLink ∧ t.pending = s.pending ∧
        let restarted : EventRecord :=
          { seq := 0, uptime := 0, minute := networkMinute s, kind := .restarted, house := none, pump := none
            tank := none, value1 := 2, value2 := s.rateCode.val }
        BeginsWith [restarted] t ∧
        (planned s = true → (∃ st : Station, (planOf s).stations[st].inUse = true) ∨ firstFailure (planOf s) = none →
          RestartForm (planOf s) t) ∧
        (planned s = false →
          t =
            { State.reset with
              rateCode := s.rateCode, restartCause := .hostRestart, time := { uptime := 0, net := s.time.net }
              banks := s.banks, store := s.store, pending := s.pending
              eventQueue := { records := [restarted], overflow := false, nextSeq := 1 } })) ∧
    (restartReplyInProgress s = false → exec .hostRestart s = .next s)

/-! ### The Supervisory Link -/

/-- A request row is the frame it stands for: for every request, with every tag and every body a frame can carry, the
frame's bytes arriving at a receiver in HUNT do what the row does. The row means this by the model's choice (log 2). -/
def Obligations.FrameIsItsRequest : Prop :=
  ∀ (c : Instr) (f : Frame) (s : State), s.inReset = false → s.link.receiver = .hunt → requestFrame c = some f →
    c.WellFormed → exec (.supFrameReceived (supFrame f.kind f.tag f.body)) s = exec c s

/-- The frame receiver, byte by byte: HUNT and the sync, a length above 250, a byte joining, a missing stop bit, the gap;
each discard is counted. A frame that completes: one whose CRC does not match is discarded and counted; a good one that
finds a reply in progress waits if the buffer has room, and is otherwise discarded and counted. That SUP_GAP_EXPIRY leaves
a receiver in HUNT as it is is the model's choice (log 3). -/
def Obligations.ReceiverTakesBytesAndFrames : Prop :=
  (∀ (s : State) (b : Byte) (bs : List Byte), Running s →
    (s.link.receiver = .hunt →
      exec (.supByteReceived b true) s =
        .next { s with link := { s.link with receiver := if b = 0xA5#8 then .frame [] else .hunt } } ∧
      exec (.supByteReceived b false) s = .next s ∧ exec .supGapExpiry s = .next s) ∧
    (s.link.receiver = .frame [] →
      exec (.supByteReceived b true) s = .next
        { s with link :=
          if b.toNat ≤ 250 then { s.link with receiver := .frame [b] }
          else { s.link with receiver := .hunt, counters :=
            { s.link.counters with lengthDiscards := min 65535 (s.link.counters.lengthDiscards + 1) } } }) ∧
    (s.link.receiver = .frame bs → bs ≠ [] → bs.length + 1 ≠ 5 + fieldAt bs 0 1 →
      exec (.supByteReceived b true) s = .next { s with link := { s.link with receiver := .frame (bs ++ [b]) } }) ∧
    (s.link.receiver = .frame bs →
      exec (.supByteReceived b false) s = .next
        { s with link := { s.link with receiver := .hunt, counters :=
          { s.link.counters with badFrames := min 65535 (s.link.counters.badFrames + 1) } } } ∧
      exec .supGapExpiry s = .next
        { s with link := { s.link with receiver := .hunt, counters :=
          { s.link.counters with gapDiscards := min 65535 (s.link.counters.gapDiscards + 1) } } })) ∧
  (∀ (s : State) (bs : List Byte), Running s → s.link.receiver = .hunt → 5 ≤ bs.length →
    bs.length = 5 + fieldAt bs 0 1 → fieldAt bs 0 1 ≤ 250 → crcMatches bs = false →
    exec (.supFrameReceived (0xA5#8 :: bs)) s = .next
      { s with link := { s.link with counters :=
        { s.link.counters with badFrames := min 65535 (s.link.counters.badFrames + 1) } } }) ∧
  ∀ (s : State) (kind tag : Byte) (body : List Byte), Running s → s.link.receiver = .hunt → body.length ≤ 250 →
    s.link.reply.isSome = true →
    (s.link.buffer.length < 2 →
      exec (.supFrameReceived (supFrame kind tag body)) s = .next
        { s with link := { s.link with buffer := s.link.buffer ++ [{ kind, tag, body }] } }) ∧
    (2 ≤ s.link.buffer.length →
      exec (.supFrameReceived (supFrame kind tag body)) s = .next
        { s with link := { s.link with counters :=
          { s.link.counters with bufferDiscards := min 65535 (s.link.counters.bufferDiscards + 1) } } })

/-- The reply's last byte leaves the line: with an empty buffer no reply is in progress any more; otherwise the oldest
frame waiting is taken at that moment, as its row is from a link at rest, and the frames behind it go on waiting. -/
def Obligations.ReplySentTakesTheNextRequest : Prop :=
  ∀ (s : State) (r : Reply), Running s → s.link.reply = some r → r.restarts = false →
    (s.link.buffer = [] → exec .replySent s = .next { s with link := { s.link with reply := none } }) ∧
    ∀ (c : Instr) (f : Frame) (rest : List Frame), requestFrame c = some f → s.link.buffer = f :: rest →
      ∃ t, exec c { s with link := { s.link with buffer := [], reply := none } } = .next t ∧
        exec .replySent s = .next { t with link := { t.link with buffer := rest } }

/-- IDENT returns what the part is and changes nothing else; RESTART is answered with status 0 before the restart; a kind
that is none of the codes is refused with UNKNOWN_KIND under its own kind plus 128, or its own kind from 128 on. The width
of the silicon revision is the model's (log 31), and so are the widths and codes that IDENT's rule leaves open: the code 2
of a selection of NONE (log 29), and the time state, the bytes of an UNSET time and those of an absent label (log 30). -/
def Obligations.SimpleRequestsAreAnswered : Prop :=
  (∀ (s : State) (tag kind : Byte) (body : List Byte), Ready s →
    exec (.restart tag []) s = .next
      { counted s with link := { (counted s).link with
          reply := some { kind := 0x92#8, tag, body := [0#8], restarts := true } } } ∧
    (kind.toNat = 0 ∨ 18 < kind.toNat →
      exec (.unknownKind kind tag body) s = .next
        (answered (if kind.toNat < 128 then kind + 128#8 else kind) tag [2#8] s))) ∧
  ∀ (s : State) (tag : Byte), Ready s → exec (.ident tag []) s = .next
    (answered 0x81#8 tag
      (toBytes 1 0 ++ toBytes 2 820 ++ [Config.siliconRevision] ++ toBytes 1 (restartCode s.restartCause) ++
        toBytes 4 s.time.uptime ++
        (match s.time.net with
         | none => toBytes 1 0 ++ toBytes 3 0xFFFFFF ++ toBytes 1 255
         | some n => toBytes 1 1 ++ toBytes 3 n.second ++ toBytes 1 n.day.val) ++
        (match s.banks.active with
         | none => toBytes 1 2 ++ toBytes 4 0xFFFFFFFF ++ toBytes 1 0
         | some k =>
           toBytes 1 (encodeBank k) ++ toBytes 4 (bankOf s k).plan.header.label ++
             toBytes 1 (if s.survey.running then 1 else 2)) ++
        toBytes 1 s.rateCode.val) s)

/-- Requests refused, with nothing changed but the reply: a body that is not of its kind's length with BAD_LENGTH; the
house and pump requests with UNPLANNED, with BAD_INDEX for a record that is not in use, and then by their own rules. -/
def Obligations.RequestsAreRefused : Prop :=
  (∀ (c : Instr) (f : Frame) (n : Nat) (s : State), Ready s → requestFrame c = some f → bodyLength f.kind = some n →
    f.body.length ≠ n → exec c s = .next (answered (f.kind + 128#8) f.tag [1#8] s)) ∧
  (∀ (c : Instr) (f : Frame) (s : State), Ready s → requestFrame c = some f → 9 ≤ f.kind.toNat → f.kind.toNat ≤ 15 →
    bodyLength f.kind = some f.body.length →
    (planned s = false → exec c s = .next (answered (f.kind + 128#8) f.tag [12#8] s)) ∧
    (planned s = true → f.kind.toNat ≤ 12 →
      (∀ h : House, h.val = (f.body.headD 0#8).toNat → houseInUse s h = false) →
      exec c s = .next (answered (f.kind + 128#8) f.tag [3#8] s)) ∧
    (planned s = true → 13 ≤ f.kind.toNat →
      (∀ p : Pump, p.val = (f.body.headD 0#8).toNat → pumpInUse s p = false) →
      exec c s = .next (answered (f.kind + 128#8) f.tag [3#8] s))) ∧
  ∀ (s : State) (tag b : Byte) (h : House) (p : Pump), Ready s → planned s = true →
    houseInUse s h = true → pumpInUse s p = true →
    (2 < b.toNat →
      exec (.houseMode tag [BitVec.ofNat 8 h.val, b]) s = .next (answered 0x89#8 tag [4#8, 255#8, 255#8] s)) ∧
    (1 < b.toNat →
      exec (.houseSuppress tag [BitVec.ofNat 8 h.val, b]) s = .next (answered 0x8C#8 tag [4#8, 255#8, 255#8] s)) ∧
    (s.houses[h].mode ≠ .manual →
      exec (.houseTarget tag [BitVec.ofNat 8 h.val, b]) s = .next (answered 0x8A#8 tag [10#8] s)) ∧
    (s.pumps[p].state ≠ .faulted →
      exec (.pumpClear tag [BitVec.ofNat 8 p.val]) s = .next (answered 0x8F#8 tag [11#8] s))

/-- EVENT_READ removes up to 8 records from the front, oldest first, returns them with the overflow flag and the two
counts, and clears the flag. -/
def Obligations.EventReadRemovesTheOldest : Prop :=
  (∀ (s : State) (tag : Byte), Ready s →
    let q := s.eventQueue
    exec (.eventRead tag []) s = .next
      { answered 0x91#8 tag
          ([0#8, if q.overflow then 1#8 else 0#8] ++ toBytes 1 (min 8 q.records.length) ++
            toBytes 1 (q.records.length - 8) ++ (q.records.take 8).flatMap eventBytes) s with
        eventQueue := { records := q.records.drop 8, overflow := false, nextSeq := q.nextSeq }
        attn := !(q.records.drop 8).isEmpty }) ∧
  ∀ r : EventRecord, eventBytes r =
    toBytes 2 r.seq ++ toBytes 4 r.uptime ++ toBytes 2 (r.minute.getD 65535) ++ toBytes 1 (eventCode r.kind) ++
      toBytes 1 ((r.house.map fun h => h.val).getD 255) ++ toBytes 1 ((r.pump.map fun p => p.val).getD 255) ++
      toBytes 1 ((r.tank.map fun t => t.val).getD 255) ++ toBytes 2 r.value1 ++ toBytes 2 r.value2

/-- STATE_READ: the tests in their order, and the page: the subject's items in order, cut into pages of at most 240
bytes, none of them split and each page filled as far as the next item allows, with the page count. The widths of the
items are the model's (log 29). -/
def Obligations.StateReadReturnsAPage : Prop :=
  ∀ (s : State) (tag subject index page : Byte), Ready s →
    let reply := fun body => exec (.stateRead tag [subject, index, page]) s = .next (answered 0x90#8 tag body s)
    (5 < subject.toNat → reply [4#8, 255#8, 255#8]) ∧
    (1 ≤ subject.toNat → subject.toNat ≤ 5 → planned s = false → reply [12#8]) ∧
    (planned s = true →
      (subject = 1#8 ∧ (∀ h : House, h.val = index.toNat → houseInUse s h = false) ∨
        subject = 2#8 ∧ 32 ≤ index.toNat ∨
        subject = 3#8 ∧ (∀ t : Tank, t.val = index.toNat → (planOf s).tanks[t].inUse = false) ∨
        subject = 4#8 ∧ index ≠ 15#8 ∧
          (∀ st : Station, stationAddress st = index.toNat → (planOf s).stations[st].inUse = false)) →
      reply [3#8]) ∧
    (∀ items, readSubject (counted s) subject.toNat index.toNat = .ok items →
      (∃ groups : List (List Item),
        groups.flatten = items ∧ pagesOf items = groups.map List.flatten ∧ (∀ g ∈ groups, g ≠ []) ∧
        (∀ g ∈ groups, g.flatten.length ≤ 240) ∧
        ∀ (i : Nat) (g : List Item) (x : Item) (xs : List Item), groups[i]? = some g → groups[i + 1]? = some (x :: xs) →
          240 < g.flatten.length + x.length) ∧
      (∀ bytes, (pagesOf items)[page.toNat]? = some bytes →
        reply ([0#8, subject, index, page] ++ toBytes 1 (pagesOf items).length ++ bytes)) ∧
      ((pagesOf items).length ≤ page.toNat → reply [3#8]))

/-- What STATE_READ returns of each subject, item by item. An absent value is all ones, a list is its count and its
elements, and an enumeration is coded by its place in its rule's list; the widths and the codes that the rules leave open
are the model's (log 29), the order of the lists that no rule orders, the interlock's byte and a HOUSE content that never
fills a second page as well (log 54), and K while the part is UNPLANNED is a free value (log 46). -/
def Obligations.StateReadReturnsTheRecords : Prop :=
  ∀ s : State,
    let pl := planOf s
    let uptime := s.time.uptime
    let wide := fun (n : Nat) (v : Option Nat) => (v.map (toBytes n)).getD (List.replicate n 255#8)
    let after := fun (u : Option Nat) => wide 4 (u.map fun x => x - uptime)
    let since := fun (u : Option Nat) => wide 4 (u.map fun x => uptime - x)
    let yes := fun (b : Bool) => if b then [1#8] else [0#8]
    let many := fun (xs : List Item) => toBytes 1 xs.length :: xs
    let place := fun (p : Option Pump) => wide 1 (p.map fun q => q.val)
    let condition := fun (c : ConditionRecord) =>
      [yes c.active, yes c.pending.isSome, since (c.pending.map fun q => q.since)]
    let bank := fun (b : Bank) =>
      [toBytes 1 (bankStateCode b.state), toBytes 4 b.plan.header.label,
        match b.lastCheck with
        | .absent => [0#8, 255#8, 255#8, 255#8, 255#8]
        | .passed => [1#8, 255#8, 255#8, 255#8, 255#8]
        | .failed f =>
          [2#8] ++ toBytes 1 (checkCodeNumber f.code) ++ toBytes 1 (encodeTableKind f.kind) ++ toBytes 2 f.index]
    (∀ k : Tank, planned s = true → pl.tanks[k].inUse = true →
      let r := s.levels[k]
      readSubject s 3 k.val = .ok
        ([wide 2 r.value, toBytes 1 (qualityCode r.quality), since r.lastGood, yes r.clampEpisode] ++
          many ((allHouses.filter fun h => pl.houses[h].inUse &&
            (pl.houses[h].suction == some k || pl.houses[h].delivery == k)).map fun h => toBytes 1 h.val))) ∧
    (∀ h : House, planned s = true → houseInUse s h = true →
      let y := s.hydraulics[h]
      let r := s.houses[h]
      let q := s.protection[h]
      let st := pl.houses[h].station
      let counts := fun kind : WindowKind =>
        (s.timetable.windows.filter fun w => w.house == h && pl.timetable[w.entry].kind == kind).map
          fun w => pl.timetable[w.entry].count
      readSubject s 1 h.val = .ok
        (condition y.suctionLow ++ condition y.overflow ++ condition y.lowAlarm ++
          many ((y.wanted.toList.take pl.houses[h].pumpCount).map yes) ++
          [toBytes 1 (y.wanted.toList.count true), yes y.degraded,
            toBytes 1 (encodeMode r.mode), toBytes 1 r.manualTarget, toBytes 1 r.want, toBytes 1 (limitCode r.limit),
            toBytes 1 (onCount s h), toBytes 1 (bookingCount s h), yes r.shortfall,
            yes (r.mainSettledAt.all fun u => decide (u ≤ uptime)), after r.mainSettledAt, yes (mainFree s h)] ++
          many (r.dutyList.map fun p => toBytes 1 p.val) ++
          [toBytes 1 (protStateCode q.state), yes q.interlock, yes (inhibited s h), yes q.suppression,
            toBytes 1 (st.val + 1), toBytes 1 (stationStateCode s.bus.stations[st].state),
            wide 1 (counts .floor).max?, wide 1 (counts .ceiling).min?,
            toBytes 1 q.attempts, wide 1 (q.causeCode.map fun c => c.val), after q.recoveryUntil, after q.forgiveAt] ++
          many (q.alarms.map fun e =>
            toBytes 1 e.code.val ++ place e.pump ++ toBytes 1 (encodeAction pl.alarmMap[e.code].action) ++
              yes e.activeAt.isNone ++ since (some e.firstSeen) ++ after e.activeAt) ++
          [yes q.listFull] ++
          many (q.faults.map fun e =>
            toBytes 1 e.code.val ++ place e.pump ++ since (some e.firstTime) ++ toBytes 1 e.count) ++
          [yes q.more])) ∧
    (∀ p : Pump, planned s = true →
      let r := s.pumps[p]
      readSubject s 2 p.val = .ok
        (if r.state = .unused then [toBytes 1 0, [255#8]]
        else
          [toBytes 1 (pumpStateCode r.state), wide 1 (r.fault.map faultCode),
            match r.fault with
            | some (.tripAlarm c) => toBytes 1 c.val
            | _ => [255#8],
            wide 1 r.permit, toBytes 4 r.booking, wide 1 r.admittedM, since r.startTime, yes r.admittedStart,
            after r.minRunUntil, after r.minOffUntil, after r.windowEnd, after r.permitRelease,
            toBytes 1 r.history.length, after (r.history.head?.map fun u => u + 3600),
            toBytes 1 pl.pumps[p].startsPerHour,
            yes (r.state == .ready && decide (r.history.length < pl.pumps[p].startsPerHour)),
            wide 1 (r.lastReported.map reportedCode), wide 1 (r.timedOut.map orderKindCode),
            wide 1 (r.stopCause.map stopCauseCode), yes r.isolatePending, yes r.protectPending,
            yes r.faultPending.isSome,
            wide 1 ((s.houses[houseOf p].dutyList.idxOf? p).map fun i => i + 1)])) ∧
    (∀ st : Station, planned s = true → pl.stations[st].inUse = true →
      let r := s.bus.stations[st]
      let poll := s.bus.queue.find? fun e => e.unit == .station st && e.order.isNone
      readSubject s 4 (st.val + 1) = .ok
        ([toBytes 1 (stationStateCode r.state), toBytes 1 r.silence, yes (orderBusy s st), toBytes 1 r.nextTag,
            after r.pollDue, yes poll.isSome, wide 1 (poll.map fun e => txClassCode e.cls), since r.lastGood,
            wide 1 (r.lastFail.map failReasonCode), toBytes 2 r.good, toBytes 2 r.failed,
            wide 1 ((pl.servedHouse st).map fun h => h.val)] ++
          many ((allTanks.filter fun k => pl.tanks[k].inUse && pl.tanks[k].station == st).map fun k =>
            toBytes 1 k.val ++ toBytes 1 pl.tanks[k].channel.val))) ∧
    (planned s = true →
      let m := s.bus.meter
      let f := s.feeder
      readSubject s 4 15 = .ok
        [after m.pollDue, yes (s.bus.queue.any fun e => e.unit == .meter && e.order.isNone),
          wide 1 (m.lastFail.map failReasonCode), toBytes 2 m.good, toBytes 2 m.failed] ∧
      ∀ index, readSubject s 5 index = .ok
        (many (f.queue.map fun e =>
            toBytes 1 e.pump.val ++ toBytes 1 e.house.val ++ toBytes 1 pl.houses[e.house].priority ++ toBytes 2 e.seq ++
              since (some e.enqueued)) ++
          many ([0, 1, 2, 3].flatMap fun k =>
            (allPumps.filter fun p => s.pumps[p].permit == some k).map fun p => toBytes 1 k ++ toBytes 1 p.val) ++
          match f.lastPass with
          | none => [4, 1, 1, 1, 1, 4, 4, 2].map fun n => List.replicate n 255#8
          | some r =>
            [toBytes 4 r.uptime, toBytes 1 r.admittedCount, toBytes 1 r.passedOver, toBytes 1 (passEndCode r.ended),
              place (r.candidate.map fun c => c.1), wide 4 (r.candidate.map fun c => (c.2 % 4294967296).toNat),
              wide 4 (r.tested.map fun x => x.1), wide 2 (r.tested.map fun x => x.2)])) ∧
    ∀ index,
      let f := s.feeder
      let c := s.link.counters
      let inForce := s.timetable.windowInForce
      let ofClass := fun (cls : TxClass) => toBytes 1 (s.bus.queue.filter fun e => e.cls == cls).length
      readSubject s 0 index = .ok
        ([yes !s.survey.running, toBytes 1 s.survey.awaited.length,
            toBytes 4 f.committed, toBytes 4 f.committedForShed, toBytes 2 f.cap,
            if planned s then toBytes 1 pl.header.permitCount else [Config.unplannedPermitLimit],
            toBytes 1 (allPumps.filter fun p => s.pumps[p].permit.isSome).length, yes f.overCap,
            toBytes 1 (meterStateCode f.meter.state), wide 2 f.meter.reading, yes !f.meter.hold,
            toBytes 1 (shedPhaseCode f.meter.phase), after f.meter.phaseUntil,
            toBytes 4 uptime, yes s.time.net.isSome, wide 3 (s.time.net.map fun n => n.second),
            wide 1 (s.time.net.map fun n => n.day.val), wide 1 (inForce.map fun w => w.val),
            wide 1 (inForce.map fun w => pl.tariff[w].periodLabel)] ++
          many (s.timetable.windows.map fun w =>
            toBytes 1 w.entry.val ++ toBytes 1 w.house.val ++ toBytes 1 (encodeWindowKind pl.timetable[w.entry].kind) ++
              toBytes 1 pl.timetable[w.entry].count ++ after (some w.activeUntil)) ++
          s.timetable.fired.toList.map yes ++
          [yes s.bus.flight.isSome, wide 1 (s.bus.flight.map fun g => unitAddress g.unit),
            wide 1 (s.bus.flight.map fun g => requestKind g.request), ofClass .order, ofClass .urgent,
            ofClass .routine,
            toBytes 1 ((s.banks.active.map encodeBank).getD 2)] ++
          bank s.banks.a ++ bank s.banks.b ++
          [yes s.store.writing.isSome,
            toBytes 1 ((s.store.writing.map fun w => encodeBank w.bank).getD 2),
            wide 4 (s.store.writing.map fun w => w.age), yes !s.store.valid,
            wide 4 (if s.store.valid then s.store.image.map fun x => x.header.label else none),
            toBytes 1 (restartCode s.restartCause),
            toBytes 1 (if planned s = false then 0 else if s.survey.running then 1 else 2), toBytes 1 s.rateCode.val,
            toBytes 2 c.framesTaken, toBytes 2 c.badFrames, toBytes 2 c.lengthDiscards, toBytes 2 c.gapDiscards,
            toBytes 2 c.bufferDiscards, toBytes 1 s.eventQueue.records.length, yes s.eventQueue.overflow,
            toBytes 2 s.eventQueue.nextSeq])

/-! ### Plan Banks and Plan Store -/

/-- Records and their bytes: a run of bytes of a record's size is taken exactly when it spells a record with every field
in its range, and then it is that record's bytes. -/
def Obligations.RecordsAreTheirBytes : Prop :=
  (∀ r : TableRecord, InFieldRange r →
    recordSize (kindOfRecord r) (encodeRecord r) = some (encodeRecord r).length ∧
    decodeRecord (kindOfRecord r) (encodeRecord r) = some r) ∧
  ∀ (kind : TableKind) (bs : List Byte) (r : TableRecord), recordSize kind bs = some bs.length →
    decodeRecord kind bs = some r → kindOfRecord r = kind ∧ InFieldRange r ∧ encodeRecord r = bs

/-- TABLE_WRITE refused: the tests in their order, each with its refusal, and nothing is written. Taken: the named records
of the edit bank are replaced and no other, the bank becomes EDITED without a table or a check result, and the reply names
what was written. -/
def Obligations.TableWriteIsTestedAndWrites : Prop :=
  (∀ (s : State) (tag b0 b1 b2 b3 : Byte) (rest : List Byte), Ready s →
    let reply := fun body => exec (.tableWrite tag (b0 :: b1 :: b2 :: b3 :: rest)) s = .next (answered 0x83#8 tag body s)
    (decodeTableKind b1.toNat = none → reply [4#8, 255#8, 255#8]) ∧
    ∀ kind, decodeTableKind b1.toNat = some kind →
      (splitRecords kind b3.toNat rest = none → reply [1#8]) ∧
      ∀ records, splitRecords kind b3.toNat rest = some records →
        (1 < b0.toNat → reply [4#8, 255#8, 255#8]) ∧
        ∀ k, decodeBank b0.toNat = some k →
          (b3.toNat = 0 ∨ b2.toNat < firstIndex kind ∨ lastIndex kind < b2.toNat + b3.toNat - 1 → reply [3#8]) ∧
          (1 ≤ b3.toNat → firstIndex kind ≤ b2.toNat → b2.toNat + b3.toNat - 1 ≤ lastIndex kind →
            (s.banks.active = some k → reply [5#8]) ∧
            (s.banks.active ≠ some k →
              (beingStored s k = true → reply [6#8]) ∧
              (beingStored s k = false → ∀ (i : Nat) (bs : List Byte), records[i]? = some bs →
                decodeRecord kind bs = none →
                (∀ (j : Nat) (cs : List Byte), j < i → records[j]? = some cs → (decodeRecord kind cs).isSome = true) →
                reply ([4#8] ++ toBytes 2 (b2.toNat + i)))))) ∧
  ∀ (s : State) (tag : Byte) (k : BankId) (kind : TableKind) (first : Nat) (rs : List TableRecord), Ready s →
    (∀ r ∈ rs, kindOfRecord r = kind ∧ InFieldRange r) → rs ≠ [] → firstIndex kind ≤ first →
    first + rs.length ≤ lastIndex kind + 1 → rs.length < 256 →
    s.banks.active ≠ some k → beingStored s k = false →
    let head := toBytes 1 (encodeBank k) ++ toBytes 1 (encodeTableKind kind) ++ toBytes 1 first ++ toBytes 1 rs.length
    ∃ pl : Plan,
      exec (.tableWrite tag (head ++ rs.flatMap encodeRecord)) s = .next
        (answered 0x83#8 tag (0#8 :: head)
          (updBank k (fun _ => { plan := pl, state := .edited, lastCheck := .absent, table := none }) s)) ∧
      ∀ (kind' : TableKind) (i : Nat), getRecord pl kind' i =
        if kind' = kind ∧ first ≤ i ∧ i < first + rs.length then rs[i - first]?
        else getRecord (bankOf s k).plan kind' i

/-- TABLE_READ: its refusals, and the run of records it carries: each as it stands, from the first index on, up to the
count or before the first that would carry the reply beyond 250 bytes. It changes no state. That the count of records
stands in one byte before them is the model's (log 30). -/
def Obligations.TableReadCarriesARun : Prop :=
  ∀ (s : State) (tag b0 b1 b2 b3 : Byte), Ready s →
    let reply := fun body => exec (.tableRead tag [b0, b1, b2, b3]) s = .next (answered 0x84#8 tag body s)
    (1 < b0.toNat ∨ 7 < b1.toNat → reply [4#8, 255#8, 255#8]) ∧
    ∀ k kind, decodeBank b0.toNat = some k → decodeTableKind b1.toNat = some kind →
      (b3.toNat = 0 ∨ b2.toNat < firstIndex kind ∨ lastIndex kind < b2.toNat + b3.toNat - 1 → reply [3#8]) ∧
      (1 ≤ b3.toNat → firstIndex kind ≤ b2.toNat → b2.toNat + b3.toNat - 1 ≤ lastIndex kind →
        ∃ rs : List TableRecord,
          rs.length ≤ b3.toNat ∧
          (∀ i : Nat, i < rs.length → rs[i]? = getRecord (bankOf s k).plan kind (b2.toNat + i)) ∧
          2 + (rs.flatMap encodeRecord).length ≤ 250 ∧
          (rs.length < b3.toNat → ∀ r, getRecord (bankOf s k).plan kind (b2.toNat + rs.length) = some r →
            250 < 2 + (rs.flatMap encodeRecord).length + (encodeRecord r).length) ∧
          reply ([0#8] ++ toBytes 1 rs.length ++ rs.flatMap encodeRecord))

/-- BANK_CLEAR: BAD_VALUE, BANK_ACTIVE and BUSY in their order; otherwise every record takes its clear value and the bank
is EMPTY, with no event and the bank in the reply. -/
def Obligations.BankClearEmptiesTheBank : Prop :=
  ∀ (s : State) (tag b : Byte), Ready s →
    (1 < b.toNat → exec (.bankClear tag [b]) s = .next (answered 0x85#8 tag [4#8, 255#8, 255#8] s)) ∧
    ∀ k, encodeBank k = b.toNat →
      (s.banks.active = some k → exec (.bankClear tag [b]) s = .next (answered 0x85#8 tag [5#8] s)) ∧
      (s.banks.active ≠ some k → (s.store.writing.map fun w => w.bank) = some k →
        exec (.bankClear tag [b]) s = .next (answered 0x85#8 tag [6#8] s)) ∧
      (s.banks.active ≠ some k → (s.store.writing.map fun w => w.bank) ≠ some k →
        exec (.bankClear tag [b]) s = .next
          (answered 0x85#8 tag [0#8, b]
            (updBank k (fun _ => { plan := clearPlan, state := .empty, lastCheck := .absent, table := none }) s)))

/-- BANK_CHECK: BAD_VALUE and BANK_ACTIVE; a plan that holds every relation makes the bank CHECKED with its booking table;
the first relation broken is reported, and recorded as the last check result alone. The code 1 for PASSED is the model's
(log 30). -/
def Obligations.BankCheckPassesOrReports : Prop :=
  ∀ (s : State) (tag b : Byte), Ready s →
    (1 < b.toNat → exec (.bankCheck tag [b]) s = .next (answered 0x86#8 tag [4#8, 255#8, 255#8] s)) ∧
    ∀ k, encodeBank k = b.toNat →
      let pl := (bankOf s k).plan
      (s.banks.active = some k → exec (.bankCheck tag [b]) s = .next (answered 0x86#8 tag [5#8] s)) ∧
      (s.banks.active ≠ some k → firstFailure pl = none →
        exec (.bankCheck tag [b]) s = .next
          (answered 0x86#8 tag
            ([0#8, 1#8] ++ toBytes 1 (allHouses.filter fun h => pl.houses[h].inUse).length ++
              toBytes 1 (allPumps.filter fun p => pl.pumps[p].inUse).length)
            (updBank k (fun _ => { plan := pl, state := .checked, lastCheck := .passed, table := some (bookingTable pl) })
              s))) ∧
      (∀ f, s.banks.active ≠ some k → firstFailure pl = some f →
        exec (.bankCheck tag [b]) s = .next
          (answered 0x86#8 tag
            ([8#8] ++ toBytes 1 (checkCodeNumber f.code) ++ toBytes 1 (encodeTableKind f.kind) ++ toBytes 2 f.index)
            (updBank k (fun o => { o with lastCheck := .failed f }) s)))

/-- The cascade walk finds exactly the houses that come back to themselves going upstream. -/
def Obligations.CascadeWalkFindsEveryLoop : Prop :=
  ∀ (pl : Plan) (h : House), pl.houses[h].inUse = true →
    (walkReturns pl h 8 h = true ↔
      ∃ n, 0 < n ∧ Nat.iterate (fun g : Option House => g.bind (upstream pl)) n (some h) = some h)

/-- PLAN_STORE: UNPLANNED, BUSY, or a copy of the active bank taken with the image INVALID. STORE_WRITE_COMPLETE: the copy
becomes the VALID image with STORE_DONE, or is discarded with STORE_FAILED; with no write in progress it does not come
about (log 3, log 8). -/
def Obligations.StoreWritesTheActiveBank : Prop :=
  (∀ (s : State) (tag : Byte), Ready s →
    (s.banks.active = none → exec (.planStore tag []) s = .next (answered 0x88#8 tag [12#8] s)) ∧
    ∀ k, s.banks.active = some k →
      (s.store.writing.isSome = true → exec (.planStore tag []) s = .next (answered 0x88#8 tag [6#8] s)) ∧
      (s.store.writing = none →
        exec (.planStore tag []) s = .next
          (answered 0x88#8 tag ([0#8] ++ toBytes 4 (bankOf s k).plan.header.label)
            { s with store :=
              { image := none, valid := false
                writing := some { bank := k, copy := (bankOf s k).plan, age := 0 } } }))) ∧
  ∀ (s : State) (crc : Bool), Running s →
    (s.store.writing = none → exec (.storeWriteComplete crc) s = .next s) ∧
    ∀ w, s.store.writing = some w →
      exec (.storeWriteComplete crc) s = .next
        { logged (if crc then .storeDone else .storeFailed) none none none (w.copy.header.label / 65536)
            (w.copy.header.label % 65536) s with
          store := { image := if crc then some w.copy else none, valid := crc, writing := none } }

/-- BANK_SWAP refused: the tests in their order, and nothing changes. -/
def Obligations.BankSwapTestsInOrder : Prop :=
  ∀ (s : State) (tag b : Byte), Ready s →
    let reply := fun body => exec (.bankSwap tag [b]) s = .next (answered 0x87#8 tag body s)
    (1 < b.toNat → reply [4#8, 255#8, 255#8]) ∧
    ∀ k, encodeBank k = b.toNat →
      let new := (bankOf s k).plan
      let fails := fun h : House =>
        (planOf s).houses[h].inUse = true ∧
        (new.houses[h].inUse = false ∨ new.houses[h].station ≠ (planOf s).houses[h].station ∨
          new.houses[h].pumpCount < (planOf s).houses[h].pumpCount) ∧
        ∃ p : Pump, p.val / 4 = h.val ∧ s.pumps[p].state ≠ .ready ∧ s.pumps[p].state ≠ .rest ∧
          s.pumps[p].state ≠ .unused
      (s.banks.active = some k → reply [5#8]) ∧
      (s.banks.active ≠ some k →
        ((bankOf s k).state ≠ .checked → reply [7#8]) ∧
        ((bankOf s k).state = .checked →
          (new.header.permitCount < permitCountHeld s → reply [9#8, 0#8, 0#8, 0#8]) ∧
          (permitCountHeld s ≤ new.header.permitCount → ∀ h : House, fails h → (∀ g : House, g < h → ¬ fails g) →
            reply [9#8, 1#8, 0#8, BitVec.ofNat 8 h.val])))

/-- BANK_SWAP out of UNPLANNED: the bank becomes active, BANK_SWAPPED is raised first, and every block takes its restart
form at the uptime as it stands. That SUCTION_LOW begins its filter at that uptime, or is active at once without one, is
the model's (log 24). -/
def Obligations.FirstSwapStartsThePlan : Prop :=
  ∀ (s : State) (tag : Byte) (k : BankId), Ready s → s.banks.active = none → (bankOf s k).state = .checked →
    permitCountHeld s = 0 →
    let pl := (bankOf s k).plan
    ∃ t, exec (.bankSwap tag [BitVec.ofNat 8 (encodeBank k)]) s = .next t ∧
      t.banks = { s.banks with active := some k } ∧ t.store = s.store ∧ t.time = s.time ∧ t.rateCode = s.rateCode ∧
      t.restartCause = s.restartCause ∧
      t.link = (answered 0x87#8 tag ([0#8] ++ toBytes 1 (encodeBank k) ++ toBytes 4 pl.header.label) s).link ∧
      t.levels = Vector.replicate 12 blankLevel ∧ t.protection = Vector.replicate 8 blankProtection ∧
      BeginsWith (withEvent .bankSwapped none none none (pl.header.label / 65536) (pl.header.label % 65536) s) t ∧
      ((∃ st : Station, pl.stations[st].inUse = true) ∨ firstFailure pl = none → RestartForm pl t)

/-- BANK_SWAP between two planned banks: what every block's settings and records become. The roles exchange, and neither
bank's records change but in the retired flags and runs that the re-establishment spends; BANK_SWAPPED is raised first.
Stations in use in both banks keep their records, and one that comes into use or goes out of use takes the blank one. The
alarm lists and note sets are emptied; a house that stays in use keeps the rest of its protection record, its interlock
only with the same station (its list-full flag is kept by log 26), and every other house has a blank one. A house that
stays keeps its mode, its target up to the new pump count and its main-settled-at; one that comes into use begins with its
initial mode. Level records are kept, clamped or begun anew; each house's conditions and positions are kept for the tanks
that it keeps, and then take the level updates under the new bank (those of a house that comes into use: log 49). Active
windows and marks are kept where their entry stays, the re-establishment follows with the network time set, and the cap
and the hold are taken anew. The store, the time and the rate are kept. -/
def Obligations.SwapCarriesTheStateOver : Prop :=
  ∀ (s : State) (tag : Byte) (j k : BankId), Ready s → s.banks.active = some j → j ≠ k → swapTest s k = none →
    let old := planOf s
    let pl := (bankOf s k).plan
    let uptime := s.time.uptime
    let levels := Vector.ofFn fun i : Tank => swappedLevel old.tanks[i] pl.tanks[i] s.levels[i]
    let leaves := fun w : ActiveWindow =>
      !pl.timetable[w.entry].inUse || pl.timetable[w.entry].house != w.house ||
        pl.timetable[w.entry].kind != old.timetable[w.entry].kind
    let windows := s.timetable.windows.filter fun w =>
      !s.timetable.windows.any fun d => d.entry == w.entry && leaves d
    let fired := Vector.ofFn fun e : Entry => s.timetable.fired[e] && pl.timetable[e].inUse
    let fate := fun e : Entry =>
      match s.time.net with
      | none => .untouched
      | some n => joiningFate pl levels uptime fired windows n e
    let inForce := s.time.net.bind fun n => selectWindow pl n.day (n.second / 60)
    let m := s.feeder.meter
    ∃ t, exec (.bankSwap tag [BitVec.ofNat 8 (encodeBank k)]) s = .next t ∧
      standing t =
        { standing (answered 0x87#8 tag ([0#8] ++ toBytes 1 (encodeBank k) ++ toBytes 4 pl.header.label) s) with
          banks := banksAfter fate { s.banks with active := some k }
          stations := Vector.ofFn fun st : Station =>
            if pl.stations[st].inUse = old.stations[st].inUse then untagged s.bus.stations[st] else untagged blankStation
          levels
          hydraulics := t.hydraulics
          houses := Vector.ofFn fun h : House =>
            if old.houses[h].inUse && pl.houses[h].inUse then
              (s.houses[h].mode, min s.houses[h].manualTarget pl.houses[h].pumpCount, s.houses[h].mainSettledAt)
            else if pl.houses[h].inUse then (pl.houses[h].initialMode, 0, none)
            else houseSettings blankHouse
          cap := capOf pl inForce
          meter :=
            { unphased m with hold :=
              match m.state, m.reading with
              | .valid, some reading => decide (pl.header.meterHoldLevel ≤ reading)
              | _, _ => m.hold }
          timetable :=
            { windowInForce := inForce, windows := windowsAfter pl fate windows, fired := marksAfter fate fired }
          protection := Vector.ofFn fun h : House =>
            if old.houses[h].inUse && pl.houses[h].inUse then
              { s.protection[h] with
                alarms := []
                interlock := s.protection[h].interlock && pl.houses[h].station == old.houses[h].station }
            else blankProtection
          noteSets := Vector.replicate 12 [] } ∧
      (∀ i, unspent (bankOf t i) = unspent (bankOf s i)) ∧
      BeginsWith (withEvent .bankSwapped none none none (pl.header.label / 65536) (pl.header.label % 65536) s) t ∧
      ∀ h : House,
        (pl.houses[h].inUse = false → t.hydraulics[h] = blankHydraulics) ∧
        (pl.houses[h].inUse = true → pl.tanks[pl.houses[h].delivery].inUse = true →
          (∀ i, pl.houses[h].suction = some i → pl.tanks[i].inUse = true) →
          t.hydraulics[h] = swappedHydraulics old pl levels uptime h s.hydraulics[h])

/-- BANK_SWAP between two planned banks: what becomes of the pumps, the duty lists, the transmit queue, the shed phase and
the survey. A pump that goes out of use is UNUSED; one that comes into use is READY or on its way to a start, at the back of
its duty list, with an urgent poll of its station; one that stays keeps its record and is re-booked from the new table, and
the swap's own evaluation, shed test or admission may move it on. A QUEUED pump that has used up its new starts per hour is
READY. Stations that come into use are polled at once; the polls of those that go out of use are dropped, and a
transaction in flight to one runs on to be discarded (log 38). The awaited set of a running survey follows the stations.
That several new pumps join a duty list in ascending index is the model's (log 53). -/
def Obligations.SwapCarriesThePumps : Prop :=
  ∀ (s : State) (tag : Byte) (j k : BankId), Ready s → QueueHoldsTheQueued s → s.banks.active = some j → j ≠ k →
    swapTest s k = none →
    let old := planOf s
    let pl := (bankOf s k).plan
    let uptime := s.time.uptime
    let leaves := fun st : Station => old.stations[st].inUse && !pl.stations[st].inUse
    let arrives := fun st : Station => pl.stations[st].inUse && !old.stations[st].inUse
    let m := s.feeder.meter
    ∃ t, exec (.bankSwap tag [BitVec.ofNat 8 (encodeBank k)]) s = .next t ∧ Settled t ∧
      let draw := fun p : Pump => drawB t p (bookingCount t (houseOf p))
      -- the survey
      (t.survey =
        if s.survey.running then
          let awaited := (s.survey.awaited.filter fun st => pl.stations[st].inUse) ++ allStations.filter arrives
          { running := !awaited.isEmpty, awaited, answered := s.survey.answered }
        else s.survey) ∧
      -- the station bus
      (∀ st, arrives st = true → UrgentlyPolled st t) ∧
      (∀ st, leaves st = true →
        (∀ p : Pump, pl.pumps[p].inUse = true → old.pumps[p].inUse = false → pl.houses[houseOf p].station ≠ st) →
        ∀ e ∈ t.bus.queue, e.unit = .station st → e.order.isSome = true) ∧
      (∀ f, s.bus.flight = some f →
        t.bus.flight = some { f with
          discarded := f.discarded || allStations.any fun st => leaves st && decide (f.unit = .station st) }) ∧
      -- the meter's shed phase
      (∀ reading, m.state = .valid → m.reading = some reading →
        (m.phase = .filtering ∨ m.phase = .due → reading < pl.header.meterShedLevel →
          t.feeder.meter.phase = .idle ∧ t.feeder.meter.phaseUntil = none) ∧
        (m.phase = .idle → pl.header.meterShedLevel ≤ reading → pl.header.meterFilter ≠ 0 →
          t.feeder.meter.phase = .filtering ∧ t.feeder.meter.phaseUntil = some (uptime + pl.header.meterFilter))) ∧
      (m.phase = .settling → t.feeder.meter.phase = .settling ∧ t.feeder.meter.phaseUntil = m.phaseUntil) ∧
      -- pumps that go out of use and that come into use
      (∀ p : Pump, old.pumps[p].inUse = true → pl.pumps[p].inUse = false →
        t.pumps[p] = blankPump ∧ p ∉ t.houses[houseOf p].dutyList ∧ ∀ e ∈ t.feeder.queue, e.pump ≠ p) ∧
      (∀ p : Pump, old.pumps[p].inUse = false → pl.pumps[p].inUse = true →
        OnItsWay t.pumps[p] ∧ p ∈ t.houses[houseOf p].dutyList ∧ UrgentlyPolled pl.houses[houseOf p].station t) ∧
      -- pumps that stay in use
      (∀ p : Pump, old.pumps[p].inUse = true → pl.pumps[p].inUse = true →
        let r := s.pumps[p]
        let x := t.pumps[p]
        (r.state = .rest ∨ r.state = .localControl ∨ r.state = .faulted ∨ r.state = .isolated →
          x = { r with booking := 0 }) ∧
        (r.state = .ready ∨ r.state = .queued → r.isolatePending = false → r.faultPending = none → OnItsWay x) ∧
        (r.state = .queued → r.isolatePending = false → r.faultPending = none →
          pl.pumps[p].startsPerHour ≤ r.history.length → x.state = .ready) ∧
        (x.state = .ordered → r.state = .ordered →
          { x with protectPending := false } =
            { r with booking := chargeS t p (r.admittedM.getD 0), protectPending := false }) ∧
        (r.state = .starting →
          x = { r with booking := chargeS t p (r.admittedM.getD 0) } ∨ x.state = .stopping ∧ x.booking = draw p) ∧
        (r.state = .running → x = { r with booking := draw p } ∨ x.state = .stopping ∧ x.booking = draw p) ∧
        (r.state = .stopping → x = { r with stopCause := x.stopCause, booking := draw p }) ∧
        (r.state = .unconfirmed → t.survey.running = s.survey.running →
          x = { r with protectPending := x.protectPending })) ∧
      -- the duty lists
      ∀ h : House, pl.houses[h].inUse = true → t.survey.running = s.survey.running →
        (∀ p : Pump, houseOf p = h → s.pumps[p].isolatePending = false ∧ s.pumps[p].faultPending = none ∧
          (t.pumps[p].state = .ordered → s.pumps[p].state = .ordered)) →
        let kept :=
          if old.houses[h].inUse then
            s.houses[h].dutyList.filter fun p => !(houseOf p == h && old.pumps[p].inUse && !pl.pumps[p].inUse)
          else []
        t.houses[h].dutyList =
          kept ++ allPumps.filter fun p =>
            decide (houseOf p = h) && pl.pumps[p].inUse && !old.pumps[p].inUse && !kept.contains p

/-! ### House and pump requests -/

/-- HOUSE_MODE and HOUSE_TARGET taken: the mode, and the manual target (the last want on a change to MANUAL, the value
clamped to the pump count), in the house and in the reply; no other setting of any block moves. HOUSE_CLEAR and
HOUSE_SUPPRESS taken: what becomes of the house's protection record in each protection state, with the event and the
reply. -/
def Obligations.HouseRequestsAreTaken : Prop :=
  (∀ (s : State) (tag : Byte) (h : House), Ready s → planned s = true → houseInUse s h = true →
    let put := fun (mode : Mode) (target : Nat) => (s.houses.map houseSettings).set h (mode, target, s.houses[h].mainSettledAt)
    (∀ mode : Mode,
      let target :=
        if mode = .manual ∧ s.houses[h].mode ≠ .manual then s.houses[h].want else s.houses[h].manualTarget
      ∃ t, exec (.houseMode tag [BitVec.ofNat 8 h.val, BitVec.ofNat 8 (encodeMode mode)]) s = .next t ∧
        standing t =
          { standing (answered 0x89#8 tag ([0#8] ++ toBytes 1 (encodeMode mode) ++ toBytes 1 target) s) with
            houses := put mode target } ∧
        BeginsWith s.eventQueue.records t) ∧
    ∀ value : Byte, s.houses[h].mode = .manual →
      let target := min value.toNat (planOf s).houses[h].pumpCount
      ∃ t, exec (.houseTarget tag [BitVec.ofNat 8 h.val, value]) s = .next t ∧
        standing t =
          { standing (answered 0x8A#8 tag ([0#8] ++ toBytes 1 target) s) with houses := put .manual target } ∧
        BeginsWith s.eventQueue.records t) ∧
  ∀ (s : State) (tag : Byte) (h : House), Ready s → planned s = true → houseInUse s h = true →
    let r := s.protection[h]
    let lockout := r.alarms.find? fun e => e.activeAt.isNone && actionOf s e.code == .lockout
    let recovery := fun (x : Protection) (attempts : Nat) (code : Code) =>
      { x with
        state := .recovery, attempts, forgiveAt := none, causeCode := some code
        recoveryUntil := some (s.time.uptime + (planOf s).houses[h].recoveryTime) }
    let cleared := { r with faults := [], more := false, attempts := 0, forgiveAt := none }
    let house := BitVec.ofNat 8 h.val
    (r.state ≠ .lockedOut →
      exec (.houseClear tag [house]) s = .next
        { answered 0x8B#8 tag ([0#8] ++ toBytes 1 (protStateCode r.state) ++ [0#8]) s with
          protection := s.protection.set h cleared }) ∧
    (r.state = .lockedOut → r.suppression = true ∨ lockout = none →
      ∃ t, exec (.houseClear tag [house]) s = .next t ∧
        standing t =
          { standing (answered 0x8B#8 tag [0#8, 0#8, 0#8] s) with
            protection := s.protection.set h
              { cleared with state := .clear, recoveryUntil := none, causeCode := none } } ∧
        BeginsWith (withEvent .recoveryEnd (some h) none none 0 1 s) t) ∧
    (∀ e, r.state = .lockedOut → r.suppression = false → lockout = some e →
      ∃ t, exec (.houseClear tag [house]) s = .next t ∧
        standing t =
          { standing (answered 0x8B#8 tag [0#8, 1#8, 1#8] s) with
            protection := s.protection.set h (recovery cleared 1 e.code) } ∧
        BeginsWith (withEvent .recoveryStart (some h) none none 1 e.code.val s) t) ∧
    (∀ on : Bool, ¬ (r.suppression = true ∧ on = false ∧ r.state = .clear ∧ lockout.isSome = true) →
      exec (.houseSuppress tag [house, if on then 1#8 else 0#8]) s = .next
        { answered 0x8C#8 tag ([0#8, if on then 1#8 else 0#8] ++ toBytes 1 (protStateCode r.state)) s with
          protection := s.protection.set h { r with suppression := on } }) ∧
    (∀ e, r.suppression = true → r.state = .clear → lockout = some e →
      ∃ t, exec (.houseSuppress tag [house, 0#8]) s = .next t ∧
        standing t =
          { standing (answered 0x8C#8 tag [0#8, 0#8, 1#8] s) with
            protection := s.protection.set h
              (recovery { r with suppression := false } (min 255 (r.attempts + 1)) e.code) } ∧
        BeginsWith (withEvent .recoveryStart (some h) none none (min 255 (r.attempts + 1)) e.code.val s) t)

/-- PUMP_ISOLATE taken: a stopped pump (READY, REST, QUEUED, FAULTED, LOCAL) is ISOLATED at once, out of the duty list and
the Start Queue, with what R35 clears cleared and its last stop and history kept; a pump in motion carries isolate-pending
or has become ISOLATED; an ISOLATED one stays as it is; the reply gives the state and the flag that result. PUMP_RESTORE of
an ISOLATED pump and PUMP_CLEAR of a FAULTED one: REST until last stop plus min off if that is still to come, otherwise
READY or on its way to a start; PUMP_CLEARED names the cause and the new state. Such a pump, out of the duty list till then,
joins its back: only a pump that an admission of the same event moves to the back stands behind it. PUMP_RESTORE otherwise
clears isolate-pending or changes nothing. That the two replies carry the status alone is the model's (log 30), and so is
that start time and admitted start are kept (log 20). -/
def Obligations.PumpRequestsAreTaken : Prop :=
  ∀ (s : State) (tag : Byte) (p : Pump), Ready s → QueueHoldsTheQueued s → planned s = true → pumpInUse s p = true →
    let r := s.pumps[p]
    let until_ := r.lastStop.map fun t => t + (planOf s).pumps[p].minOff
    let waits := ∃ u, until_ = some u ∧ s.time.uptime < u
    let rested := { r with state := .rest, fault := none, minOffUntil := until_, admittedM := none, stopCause := none }
    let atBack := fun t : State => p ∈ t.houses[houseOf p].dutyList ∧
      (p ∉ s.houses[houseOf p].dutyList → ∃ front back, t.houses[houseOf p].dutyList = front ++ p :: back ∧
        p ∉ front ∧ p ∉ back ∧ ∀ q ∈ back, s.pumps[q].state ≠ .ordered ∧ t.pumps[q].state = .ordered)
    let cleared := fun cause state => withEvent .pumpCleared (some (houseOf p)) (some p) none (faultCode cause) state s
    (r.state = .ready ∨ r.state = .rest ∨ r.state = .queued ∨ r.state = .faulted ∨ r.state = .localControl →
      ∃ t, exec (.pumpIsolate tag [BitVec.ofNat 8 p.val]) s = .next t ∧
        t.pumps[p] =
          { outRecord .isolated none r with isolatePending := false, protectPending := false, faultPending := none } ∧
        p ∉ t.houses[houseOf p].dutyList ∧ (∀ e ∈ t.feeder.queue, e.pump ≠ p) ∧
        standing t = standing (answered 0x8D#8 tag [0#8, 11#8, 0#8] s)) ∧
    (r.state = .running ∨ r.state = .starting ∨ r.state = .ordered ∨ r.state = .stopping ∨ r.state = .unconfirmed →
      ∃ t, exec (.pumpIsolate tag [BitVec.ofNat 8 p.val]) s = .next t ∧
        (t.pumps[p].isolatePending = true ∨ t.pumps[p].state = .isolated) ∧
        standing t =
          standing
            (answered 0x8D#8 tag
              ([0#8] ++ toBytes 1 (pumpStateCode t.pumps[p].state) ++ [if t.pumps[p].isolatePending then 1#8 else 0#8])
              s)) ∧
    (r.state = .isolated →
      ∃ t, exec (.pumpIsolate tag [BitVec.ofNat 8 p.val]) s = .next t ∧ t.pumps[p] = r ∧
        standing t =
          standing (answered 0x8D#8 tag [0#8, 11#8, if r.isolatePending then 1#8 else 0#8] s)) ∧
    (r.state = .isolated → r.isolatePending = false → r.faultPending = none →
      ∃ t, exec (.pumpRestore tag [BitVec.ofNat 8 p.val]) s = .next t ∧
        standing t = standing (answered 0x8E#8 tag [0#8] s) ∧
        (waits → t.pumps[p] = rested ∧ atBack t) ∧
        (¬ waits → OnItsWay t.pumps[p] ∧ t.pumps[p].minOffUntil = none ∧ atBack t)) ∧
    (r.state ≠ .isolated →
      exec (.pumpRestore tag [BitVec.ofNat 8 p.val]) s = .next
        (answered 0x8E#8 tag [0#8] (updPump p (fun x => { x with isolatePending := false }) s))) ∧
    (∀ cause, r.state = .faulted → r.fault = some cause → r.isolatePending = false → r.faultPending = none →
      ∃ t, exec (.pumpClear tag [BitVec.ofNat 8 p.val]) s = .next t ∧
        standing t = standing (answered 0x8F#8 tag [0#8] s) ∧
        (waits → t.pumps[p] = rested ∧ atBack t ∧ BeginsWith (cleared cause 1) t) ∧
        (¬ waits → OnItsWay t.pumps[p] ∧ atBack t ∧ BeginsWith (cleared cause 2) t))

/-! ### Time -/

/-- SET_TIME: TIME_INVALID out of range; otherwise network time is set, the jump is classed, and the reply carries kind and
time. FIRST and DAY_CHANGE make a re-establishment, DAY_CHANGE with the marks cleared first; FORWARD takes the entries it
passes over; BACKWARD and SAME take none. Each entry's fate shows in its mark, the active set, its runs and retirement; the
cap in force follows the tariff window of the new time. TIME_SET is raised first with the old minute, and the entries'
events follow in ascending index (for durations in their range). That the time in the reply is its second in three bytes
and its day, without the time state (log 30), that a miss counts its minutes rounded down (log 52), and that a join of an
entry that is active already is a start (log 27), is the model's. -/
def Obligations.SetTimeClassesTheJump : Prop :=
  ∀ (s : State) (tag : Byte) (second day : Nat), Ready s → second < 4294967296 → day < 256 →
    let pl := planOf s
    let uptime := s.time.uptime
    let command := Instr.setTime tag (toBytes 4 second ++ toBytes 1 day)
    (86399 < second ∨ 6 < day → exec command s = .next (answered 0x82#8 tag [13#8] s)) ∧
    (∀ (d : Day), day = d.val → second ≤ 86399 →
      let n : NetTime := { second, day := d }
      let time : TimeBase := { uptime, net := some n }
      let kind :=
        match s.time.net with
        | none => 0
        | some o => if o.day ≠ d then 3 else if o.second = second then 4 else if o.second < second then 1 else 2
      let fired := if planned s = true ∧ kind = 3 then Vector.replicate 24 false else s.timetable.fired
      let fate := fun e : Entry =>
        if kind = 0 ∨ kind = 3 then joiningFate pl s.levels uptime fired s.timetable.windows n e
        else if kind = 1 then jumpedFate pl s.levels uptime fired ((s.time.net.map fun o => o.second).getD 0) n e
        else .untouched
      let inForce := if planned s then selectWindow pl d (second / 60) else s.timetable.windowInForce
      let told := logged .timeSet none none none ((s.time.net.map fun o => o.second / 60).getD 65535) kind { s with time }
      ∃ t, exec command s = .next t ∧
        standing t =
          { standing (answered 0x82#8 tag ([0#8] ++ toBytes 1 kind ++ toBytes 3 second ++ toBytes 1 day) s) with
            time
            banks := banksAfter fate s.banks
            timetable :=
              { windowInForce := inForce, windows := windowsAfter pl fate s.timetable.windows
                fired := marksAfter fate fired }
            cap := if planned s then capOf pl inForce else s.feeder.cap } ∧
        BeginsWith told.eventQueue.records t ∧
        ((∀ e : Entry, pl.timetable[e].duration ≤ 1439) → BeginsWith (fatesLogged pl fate told).eventQueue.records t))

/-- The crossings: a second passes on uptime, on network time and for a store write (on network time alone, where uptime
already stands at that second). The entries of the minute fire (at midnight all marks are cleared first): each takes its
mark and starts, with its window and TT_FIRED, or is skipped with TT_SKIPPED; a limited one spends a run and retires with
its last; these events come first, in ascending index. The cap follows a window that starts, and at midnight the new day.
An idle part that comes to a crossing lets it wait (log 47), so that TT_ENDED of a window whose active-until has come may go
first: the window leaves the active set, the others stay in their order, and TT_ENDED is raised first with the duration
marking. -/
def Obligations.CrossingsAdvanceTheClock : Prop :=
  (∀ (s : State) (n : NetTime), Running s → s.time.net = some n →
    let pl := planOf s
    let next := min 4294967295 (s.time.uptime + 1)
    let aged := { s.store with writing := s.store.writing.map fun w => { w with age := w.age + 1 } }
    let uptime := if s.time.crossingWaits then s.time.uptime else next
    let store := if s.time.crossingWaits then s.store else aged
    let fate := firingFate pl s.levels uptime
    let crossed := fun (n : NetTime) (fired : Vector Bool 24) (evaluates : Bool) (t : State) =>
      let minute := n.second / 60
      let inForce := if evaluates then selectWindow pl n.day minute else s.timetable.windowInForce
      standing t =
        { standing s with
          time := { uptime, net := some n }
          store
          banks := banksAfter (fate fired n.day minute) s.banks
          timetable :=
            { windowInForce := inForce, windows := windowsAfter pl (fate fired n.day minute) s.timetable.windows
              fired := marksAfter (fate fired n.day minute) fired }
          cap := if evaluates then capOf pl inForce else s.feeder.cap } ∧
      BeginsWith
        (fatesLogged pl (fate fired n.day minute) { s with time := { uptime, net := some n } }).eventQueue.records t
    (∀ m, n.second ≠ 86399 → n.second + 1 = 60 * m →
      let time : TimeBase := { uptime, net := some { second := n.second + 1, day := n.day } }
      ∃ t, exec .minuteCrossing s = .next t ∧
        crossed { second := n.second + 1, day := n.day } s.timetable.fired (planned s && windowStarts pl n.day m) t ∧
        ((∀ e : Entry, fate s.timetable.fired n.day m e = .untouched) → (planned s && windowStarts pl n.day m) = false →
          t = { s with time, store })) ∧
    (n.second = 86399 →
      let time : TimeBase := { uptime, net := some { second := 0, day := n.day + 1 } }
      ∃ t, exec .midnightCrossing s = .next t ∧
        crossed { second := 0, day := n.day + 1 }
          (if planned s then Vector.replicate 24 false else s.timetable.fired) (planned s) t ∧
        (planned s = false → t = { s with time, store })) ∧
    (s.pending = [] → dueEvents s = [] → (n.second + 1) % 60 = 0 →
      step s = .next { s with time := { uptime := next, net := some n, crossingWaits := true }, store := aged })) ∧
  ∀ (s : State) (e : Entry) (w : ActiveWindow), Running s → windowOf s e = some w → w.activeUntil ≤ s.time.uptime →
    ∃ t, exec (.ttEnded e) s = .next t ∧
      standing t =
        { standing s with timetable :=
          { s.timetable with windows := s.timetable.windows.filter fun d => d.entry != e } } ∧
      BeginsWith (withEvent .ttEnded (some w.house) none none e.val 0 s) t

/-! ### The station bus -/

/-- The station bus, byte by byte: the end of a request releases BUS_DE, a byte outside a wait for a reply is discarded, a
byte of an incomplete reply joins it, and the gap discards what has come. That a byte is discarded while the request is
still being sent is the model's reading (log 39), and so is that a gap with no reply begun changes nothing (log 3). A
complete reply frame ends the transaction, whether it comes as a row or byte by byte: with the first of the failures that
its tests find, in their order, or with its contents; the outcome of a discarded transaction is dropped. That the row
REPORT, ORDER_REPLY or METER_REPLY does what its bytes do is the model's choice (log 2). -/
def Obligations.RepliesAreTakenByteByByte : Prop :=
  (∀ (s : State) (b : Byte), Running s →
    (s.bus.flight = none → exec (.busByteReceived b) s = .next s) ∧
    ∀ f, s.bus.flight = some f →
      (f.sentAt = none →
        exec .busRequestSent s = .next
          { s with bus := { s.bus with flight := some { f with sentAt := some s.time.uptime } }, busDe := false } ∧
        exec (.busByteReceived b) s = .next s) ∧
      (f.sentAt.isSome = true →
        ((f.partialReply ++ [b]).length < 3 ∨ (f.partialReply ++ [b]).length < 5 + fieldAt (f.partialReply ++ [b]) 2 1) →
        exec (.busByteReceived b) s = .next
          { s with bus := { s.bus with flight := some { f with partialReply := f.partialReply ++ [b] } } }) ∧
      exec .busGapExpiry s = .next { s with bus := { s.bus with flight := some { f with partialReply := [] } } }) ∧
  ∀ (s : State) (f : Flight) (front : List Byte) (last : Byte), Running s → s.bus.flight = some f →
    f.sentAt.isSome = true → f.partialReply = [] →
    let bs := front ++ [last]
    bs.length = 5 + fieldAt bs 2 1 →
    let c := answerRow f.request bs
    let body := (bs.drop 3).take (bs.length - 5)
    let ends := fun r => exec c s = .next (finish (endTransaction f r s))
    let addressed := crcMatches bs = true ∧ fieldAt bs 0 1 = unitAddress f.unit + 128
    let right := addressed ∧ fieldAt bs 1 1 = replyKind f.request
    exec (.busByteReceived last) { s with bus := { s.bus with flight := some { f with partialReply := front } } } =
      exec c s ∧
    (f.discarded = true → exec c s = .next (finish { s with bus := { s.bus with flight := none } })) ∧
    (crcMatches bs = false → ends (.error .badCrc)) ∧
    (crcMatches bs = true → fieldAt bs 0 1 ≠ unitAddress f.unit + 128 → ends (.error .wrongAddress)) ∧
    (addressed → fieldAt bs 1 1 ≠ replyKind f.request → ends (.error .wrongKind)) ∧
    ∀ st : Station, right →
      (f.request = .poll → f.unit = .station st →
        (parseReport body = none → ends (.error .malformed)) ∧
        ∀ r, parseReport body = some r → ends (.ok (.report st r))) ∧
      (∀ o tag, f.request = .order o tag → f.unit = .station st →
        (parseOrderReply body = none → ends (.error .malformed)) ∧
        ∀ t out, parseOrderReply body = some (t, out) →
          (t ≠ tag → ends (.error .wrongTag)) ∧ (t = tag → ends (.ok (.order st o out)))) ∧
      (f.request = .meterPoll → f.unit = .meter →
        (parseMeterReply body = none → ends (.error .malformed)) ∧
        ∀ reading, parseMeterReply body = some reading → ends (.ok (.meter reading)))

/-- A good REPORT: its station is ONLINE with its next poll due, its tanks take their last entries, and a station that
serves no house takes its note set. A station's house takes the interlock flag, the pumps' reported states and the alarm
codes: the entries whose codes the REPORT carries stay as they were; behind them, while the list has room, stands each new
code whose map action is not NONE, PENDING until its filter has run (ACTIVE at once with a filter of 0) and with the pump
at its first item's position; the list-full flag says that a code found no room. Nothing else of the standing state moves,
and no record is lost. -/
def Obligations.ReportIsDelivered : Prop :=
  ∀ (s : State) (f : Flight) (st : Station) (body : List Byte) (r : Report), Running s → Waiting f s →
    f.request = .poll → f.unit = .station st → parseReport body = some r →
    let pl := planOf s
    let uptime := s.time.uptime
    ∃ t, exec (.report (busFrame (stationAddress st + 128) 2 body)) s = .next t ∧
      BeginsWith s.eventQueue.records t ∧
      standing t =
        { standing s with
          stations := (s.bus.stations.map untagged).set st
            { answeredStation uptime s.bus.stations[st] with
              pollDue := some (uptime + pl.stations[st].pollInterval) }
          levels := t.levels, hydraulics := t.hydraulics, protection := t.protection, noteSets := t.noteSets } ∧
      (∀ k : Tank, t.levels[k] =
        match (r.channels.filter fun e => e.channel == pl.tanks[k].channel.val).getLast? with
        | none => s.levels[k]
        | some e =>
          if pl.tanks[k].inUse && pl.tanks[k].station == st then
            if e.failed then { s.levels[k] with quality := .failed }
            else
              { value := some (min e.level pl.tanks[k].height), quality := .fresh, lastGood := some uptime
                staleAt := some (uptime + pl.header.levelHold)
                clampEpisode := decide (pl.tanks[k].height < e.level) }
          else s.levels[k]) ∧
      (pl.servedHouse st = none → t.protection = s.protection ∧
        (∀ k : Station, k ≠ st → t.noteSets[k] = s.noteSets[k]) ∧
        ∀ c, c ∈ t.noteSets[st] ↔ pl.alarmMap[c].action ≠ .none ∧ ∃ i ∈ r.alarms, i.code = c) ∧
      ∀ h, pl.servedHouse st = some h →
        let old := s.protection[h]
        let kept := old.alarms.filter fun e => r.alarms.any fun i => i.code == e.code
        let fresh := (noteCodes s r.alarms).filter fun c => !old.alarms.any fun e => e.code == c
        let entered := (fresh.take (8 - old.alarms.length)).filterMap fun c =>
          (r.alarms.find? fun i => i.code == c).map fun i : AlarmItem =>
            { code := c
              pump := i.position.bind fun k => if k < pl.houses[h].pumpCount then pumpAt h k else none
              firstSeen := uptime
              activeAt := if pl.alarmMap[c].filter = 0 then none else some (uptime + pl.alarmMap[c].filter) : AlarmEntry }
        t.noteSets = s.noteSets ∧ t.protection[h].interlock = r.interlock ∧
        t.protection[h].alarms = kept ++ entered ∧
        (t.protection[h].listFull = true ↔
          (old.listFull = true ∨ fresh ≠ [] ∧ 8 < old.alarms.length + fresh.length) ∧
            8 ≤ kept.length + entered.length) ∧
        (∀ g : House, g ≠ h → t.protection[g] = s.protection[g]) ∧
        ∀ (p : Pump) (rep : Reported), houseOf p = h → positionOf p < pl.houses[h].pumpCount →
          r.pumps[positionOf p]? = some rep →
          t.pumps[p].lastReported = some rep ∧ t.pumps[p].lastReportedAt = some uptime

/-- A report reconciled with a pump whose pending flags are clear, outside the survey: for each state of the pump and each
reported state what becomes of it, with its whole record, the events and the re-booking of its house; and what a good
REPORT with no alarm item leaves of a pump that stops, trips, goes to LOCAL or is adopted. An adopted pump may have taken
a stop before the REPORT's work is done. That PUMP_FAULT comes before RESOLVED (log 14), that every move to REST clears
the start time (log 15), that FAULTED and LOCAL keep it (log 20), and that RESOLVED names REST where min off is 0 (log 21),
is the model's. -/
def Obligations.ReportsAreReconciled : Prop :=
  (∀ (s : State) (p : Pump) (rep : Reported),
    s.pumps[p].isolatePending = false → s.pumps[p].protectPending = false → s.pumps[p].faultPending = none →
    let h := houseOf p
    let r := s.pumps[p]
    let uptime := s.time.uptime
    let plan := (planOf s).pumps[p]
    let t := reconcile p rep s
    let booked := drawB s p (bookingCount t h)
    let log := fun (kind : EventKind) (value1 value2 : Nat) (u : State) =>
      logged kind (some h) (some p) none value1 value2 u
    let becomes := fun (x : PumpLive) (u : State) => t.pumps[p] = x ∧ t.eventQueue = u.eventQueue
    let running := fun x : PumpLive =>
      { x with
        state := .running, fault := none, startTime := some uptime, admittedStart := false, reachedRunning := true
        windowEnd := none, minRunUntil := none, minOffUntil := none, timedOut := none, stopCause := none
        booking := booked }
    let undone := { unadmitted r with permit := none, permitRelease := none, admittedM := none, windowEnd := none }
    let rested :=
      if plan.minOff = 0 then { restRecord uptime 0 r with state := .ready, minOffUntil := none }
      else restRecord uptime plan.minOff r
    let faulted := fun cause => outRecord .faulted (some cause) r
    let local_ := outRecord .localControl none r
    let tripped := log .pumpFault (faultCode .stationTrip) 0 s
    let resolved := fun (x : PumpState) (u : State) => log .resolved (reportedCode rep) (pumpStateCode x) u
    let noOrder := ∀ e ∈ t.bus.queue, ∀ o, e.order = some o → o.pump ≠ p
    let out := p ∉ t.houses[h].dutyList ∧ ∀ e ∈ t.feeder.queue, e.pump ≠ p
    standing t = standing s ∧ (SumsHold s → SumsHold t) ∧
    (∀ q : Pump, q ≠ p → t.pumps[q] =
      if t.pumps[p].state ≠ r.state ∧ houseOf q = h ∧ (s.pumps[q].state = .running ∨ s.pumps[q].state = .stopping) then
        { s.pumps[q] with booking := drawB s q (bookingCount t h) }
      else s.pumps[q]) ∧
    (r.state = .ready ∨ r.state = .rest ∨ r.state = .queued →
      (rep = .run → becomes (running r) (log .unexpectedRun (pumpStateCode r.state) booked s) ∧
        ∀ e ∈ t.feeder.queue, e.pump ≠ p) ∧
      (rep = .stop → t = s) ∧
      (rep = .trip → becomes (faulted .stationTrip) tripped ∧ out) ∧
      (rep = .localControl → becomes local_ s ∧ out)) ∧
    (r.state = .ordered →
      (rep = .run → becomes (running undone) (log .unexpectedRun (pumpStateCode .ordered) booked s) ∧ noOrder) ∧
      (rep = .stop → t = s) ∧
      (rep = .trip → becomes (outRecord .faulted (some .stationTrip) undone) tripped ∧ out ∧ noOrder) ∧
      (rep = .localControl → becomes (outRecord .localControl none undone) s ∧ out ∧ noOrder)) ∧
    (r.state = .starting →
      (rep = .run → t = s) ∧
      (rep = .stop → becomes (faulted .startFailed) (log .pumpFault (faultCode .startFailed) 0 s) ∧ out) ∧
      (rep = .trip → becomes (faulted .stationTrip) tripped ∧ out) ∧
      (rep = .localControl → becomes local_ s ∧ out)) ∧
    (r.state = .running →
      (rep = .run → t = s) ∧
      (∀ u, rep = .stop → r.startTime = some u →
        becomes rested (log .unexpectedStop (pumpStateCode .running) (uptime - u) s)) ∧
      (rep = .trip → becomes (faulted .stationTrip) tripped ∧ out) ∧
      (rep = .localControl → becomes local_ s ∧ out)) ∧
    (r.state = .stopping →
      (rep = .run → t = s) ∧
      (∀ cause, rep = .stop → r.stopCause = some cause →
        becomes rested (log .stopped (stopCauseCode cause) 5 s) ∧ noOrder) ∧
      (rep = .trip → becomes (faulted .stationTrip) tripped ∧ out ∧ noOrder) ∧
      (rep = .localControl → becomes local_ s ∧ out ∧ noOrder)) ∧
    (r.state = .unconfirmed →
      (rep = .run → r.admittedStart = false →
        becomes { running r with permit := none, permitRelease := none } (resolved .running s)) ∧
      (∀ u, rep = .run → r.admittedStart = true → r.startTime = some u →
        becomes
          { r with
            state := .running, permit := none, permitRelease := none, timedOut := none, stopCause := none
            reachedRunning := true, booking := booked
            minRunUntil :=
              if r.minRunUntil.isSome then r.minRunUntil
              else if r.reachedRunning then none
              else if uptime < u + plan.minRun then some (u + plan.minRun) else none }
          (resolved .running s)) ∧
      (rep = .stop → becomes rested (resolved .rest s)) ∧
      (rep = .trip → becomes (faulted .stationTrip) (resolved .faulted tripped) ∧ out) ∧
      (rep = .localControl → becomes local_ (resolved .localControl s) ∧ out)) ∧
    (r.state = .localControl →
      (rep = .run → becomes (running r) (resolved .running s) ∧ p ∈ t.houses[h].dutyList) ∧
      (rep = .stop → becomes rested (resolved .rest s) ∧ p ∈ t.houses[h].dutyList) ∧
      (rep = .trip → becomes (faulted .stationTrip) tripped) ∧
      (rep = .localControl → t = s)) ∧
    (r.state = .faulted ∨ r.state = .isolated →
      (rep = .run → r.lastReported = some .run → t = s) ∧
      (rep = .run → r.lastReported ≠ some .run → becomes r (log .unexpectedRun (pumpStateCode r.state) 0 s)) ∧
      (rep = .stop ∨ rep = .trip → t = s) ∧
      (rep = .localControl → r.state = .faulted → becomes local_ (resolved .localControl s)) ∧
      (rep = .localControl → r.state = .isolated → t = s)) ∧
    (r.state = .unused → t = s)) ∧
  ∀ (s : State) (f : Flight) (st : Station) (body : List Byte) (x : Report) (p : Pump) (rep : Reported),
    Running s → QueueHoldsTheQueued s → Waiting f s → f.request = .poll → f.unit = .station st →
    parseReport body = some x → x.alarms = [] → s.survey.running = false →
    (planOf s).servedHouse st = some (houseOf p) → positionOf p < (planOf s).houses[houseOf p].pumpCount →
    x.pumps[positionOf p]? = some rep →
    s.pumps[p].isolatePending = false → s.pumps[p].protectPending = false → s.pumps[p].faultPending = none →
    let r := s.pumps[p]
    let uptime := s.time.uptime
    let minOff := (planOf s).pumps[p].minOff
    let named := fun y : PumpLive => { y with lastReported := some rep, lastReportedAt := some uptime }
    let moving := r.state = .starting ∨ r.state = .running ∨ r.state = .stopping ∨ r.state = .unconfirmed
    let waiting := r.state = .ready ∨ r.state = .rest ∨ r.state = .queued
    ∃ t, exec (.report (busFrame (stationAddress st + 128) 2 body)) s = .next t ∧
      (rep = .stop → r.state = .running ∨ r.state = .stopping ∨ r.state = .unconfirmed ∨ r.state = .localControl →
        0 < minOff → t.pumps[p] = named (restRecord uptime minOff r)) ∧
      (rep = .stop → r.state = .starting → t.pumps[p] = named (outRecord .faulted (some .startFailed) r)) ∧
      (rep = .trip → waiting ∨ moving ∨ r.state = .localControl →
        t.pumps[p] = named (outRecord .faulted (some .stationTrip) r)) ∧
      (rep = .trip → r.state = .ordered →
        t.pumps[p] = named (outRecord .faulted (some .stationTrip) (unadmitted r))) ∧
      (rep = .localControl → waiting ∨ moving ∨ r.state = .faulted →
        t.pumps[p] = named (outRecord .localControl none r)) ∧
      (rep = .run → waiting ∨ r.state = .localControl ∨ r.state = .ordered →
        (t.pumps[p].state = .running ∨ t.pumps[p].state = .stopping) ∧ t.pumps[p].startTime = some uptime ∧
          t.pumps[p].admittedStart = false)

/-- An ACCEPTED reply: main-settled-at moves; a start enters STARTING with its window, or is on its way out again; a stop
ends in REST for min off, or READY, or in the state that a pending flag calls for; START_ACCEPTED or STOPPED is raised
first, behind STATION_ONLINE where the station was not ONLINE, and a SILENT one is asked for an urgent poll. That the flag
protect-pending stays as it is in REST is the model's (log 18). -/
def Obligations.OrderIsAccepted : Prop :=
  ∀ (s : State) (f : Flight) (st : Station) (p : Pump) (tag : Nat), Running s → Waiting f s →
    QueueHoldsTheQueued s → f.unit = .station st → tag < 256 →
    let h := houseOf p
    let r := s.pumps[p]
    let uptime := s.time.uptime
    let window := (planOf s).pumps[p].startWindow
    let minOff := (planOf s).pumps[p].minOff
    let before := s.bus.stations[st].state
    let back :=
      if before = .online then s
      else logged .stationOnline ((planOf s).servedHouse st) none none (stationAddress st) (stationStateCode before) s
    let moved :=
      { standing s with
        stations := (s.bus.stations.map untagged).set st (answeredStation uptime s.bus.stations[st])
        houses := (s.houses.map houseSettings).set h (mainMoved s h) }
    let ends := fun t : State => standing t = moved ∧ (before = .silent → UrgentlyPolled st t)
    let reply := exec (.orderReply (busFrame (stationAddress st + 128) 4 (toBytes 1 tag ++ [0#8, 0#8]))) s
    (f.request = .order { pump := p, command := .start } tag → r.state = .ordered →
      ∃ t, reply = .next t ∧ ends t ∧
        BeginsWith (withEvent .startAccepted (some h) (some p) none (r.permit.getD 65535) window back) t ∧
        (t.pumps[p] = { r with state := .starting, windowEnd := some (uptime + window) } ∨
          t.pumps[p].state = .stopping)) ∧
    (f.request = .order { pump := p, command := .stop } tag → r.state = .stopping →
      ∃ t, reply = .next t ∧ ends t ∧
        BeginsWith (withEvent .stopped (some h) (some p) none ((r.stopCause.map stopCauseCode).getD 0) 0 back) t ∧
        (r.isolatePending = true → t.pumps[p].state = .isolated) ∧
        (r.isolatePending = false → ∀ cause, r.faultPending = some cause →
          t.pumps[p].state = .faulted ∧ t.pumps[p].fault = some cause) ∧
        (r.isolatePending = false → r.faultPending = none →
          (0 < minOff → t.pumps[p] = restRecord uptime minOff r) ∧ (minOff = 0 → OnItsWay t.pumps[p])))

/-- A REFUSED reply, for each of its reasons: the state the pump takes with its record, ISOLATED where isolate-pending
waits; the events in order, behind STATION_ONLINE where the station was not ONLINE; the interlock of INTERLOCKED with
INTERLOCK_ON, and the urgent poll of a stop so refused and of a SILENT station that returns. main-settled-at does not move.
That PUMP_FAULT comes before START_REFUSED and after STOPPED (log 14), that START_REFUSED names the state the reason calls for where the pump
becomes ISOLATED (log 21), that FAULTED, LOCAL and ISOLATED keep start time and admitted start after a refused stop (log
20), and that FAULTED and LOCAL keep protect-pending (log 18), is the model's. -/
def Obligations.OrderIsRefused : Prop :=
  ∀ (s : State) (f : Flight) (st : Station) (p : Pump) (tag : Nat), Running s → Waiting f s →
    QueueHoldsTheQueued s → f.unit = .station st → tag < 256 →
    let h := houseOf p
    let r := { s.pumps[p] with faultPending := none }
    let own := (planOf s).houses[h].station
    let before := s.bus.stations[st].state
    let back :=
      if before = .online then s
      else logged .stationOnline ((planOf s).servedHouse st) none none (stationAddress st) (stationStateCode before) s
    let heard :=
      { standing s with
        stations := (s.bus.stations.map untagged).set st (answeredStation s.time.uptime s.bus.stations[st]) }
    let locked := { heard with protection := s.protection.set h { s.protection[h] with interlock := true } }
    let logLock := fun u : State =>
      if s.protection[h].interlock then u else logged .interlockOn (some h) none none 1 (stationAddress own) u
    let log := fun (kind : EventKind) (value1 value2 : Nat) (u : State) =>
      logged kind (some h) (some p) none value1 value2 u
    let gone := fun (state : PumpState) (fault : Option FaultCause) (r : PumpLive) =>
      if r.isolatePending then
        { outRecord .isolated none r with isolatePending := false, protectPending := false }
      else outRecord state fault r
    -- the standing part, the pump's record, and the state whose records the Event Queue begins with
    let ends := fun (reason : Byte) (part : Standing) (x : PumpLive) (told : State) =>
      ∃ t, exec (.orderReply (busFrame (stationAddress st + 128) 4 (toBytes 1 tag ++ [1#8, reason]))) s = .next t ∧
        standing t = part ∧ t.pumps[p] = x ∧ p ∉ t.houses[h].dutyList ∧ BeginsWith told.eventQueue.records t ∧
        (before = .silent → UrgentlyPolled st t)
    (f.request = .order { pump := p, command := .start } tag → r.state = .ordered →
      let refused := fun (fault : FaultCause) (reason : Nat) =>
        log .startRefused reason 10 (log .pumpFault (faultCode fault) 0 back)
      ends 1#8 heard (gone .localControl none (unadmitted r)) (log .startRefused 1 9 back) ∧
      ends 2#8 heard (gone .faulted (some .refusedTripped) (unadmitted r)) (refused .refusedTripped 2) ∧
      ends 3#8 locked (gone .faulted (some .refusedTripped) (unadmitted r)) (logLock (refused .refusedTripped 3)) ∧
      ends 4#8 heard (gone .faulted (some .unknownPump) (unadmitted r)) (refused .unknownPump 4)) ∧
    (f.request = .order { pump := p, command := .stop } tag → r.state = .stopping →
      let stopped := fun reason : Nat => log .stopped ((r.stopCause.map stopCauseCode).getD 0) reason back
      let refused := fun (fault : FaultCause) (reason : Nat) => log .pumpFault (faultCode fault) 0 (stopped reason)
      ends 1#8 heard (gone .localControl none r) (stopped 1) ∧
      ends 2#8 heard (gone .faulted (some .refusedTripped) r) (refused .refusedTripped 2) ∧
      (∃ t, exec (.orderReply (busFrame (stationAddress st + 128) 4 (toBytes 1 tag ++ [1#8, 3#8]))) s = .next t ∧
        standing t = locked ∧
        { t.pumps[p] with protectPending := false } =
          { s.pumps[p] with state := .unconfirmed, timedOut := some .stop, protectPending := false } ∧
        BeginsWith (logLock (stopped 3)).eventQueue.records t ∧ UrgentlyPolled own t ∧
        (before = .silent → UrgentlyPolled st t)) ∧
      ends 4#8 heard (gone .faulted (some .unknownPump) r) (refused .unknownPump 4))

/-- A METER_REPLY: with status OK the reading is taken, the hold follows the hold level with its event, and the shed phase
its shed level; with status FAULT only the meter unit's count and poll-due move. -/
def Obligations.MeterReplyIsDelivered : Prop :=
  ∀ (s : State) (f : Flight) (power : Nat), Running s → Waiting f s → f.request = .meterPoll → f.unit = .meter →
    power < 4294967296 →
    let header := (planOf s).header
    let m := s.feeder.meter
    let uptime := s.time.uptime
    let reading := min power 65535
    let unit := { s.bus.meter with good := min 65535 (s.bus.meter.good + 1), pollDue := some (uptime + header.meterPoll) }
    let above := header.meterShedLevel ≤ reading
    (∃ t, exec (.meterReply (busFrame 143 6 (toBytes 4 power ++ [0#8]))) s = .next t ∧
      standing t =
        { standing s with
          meterUnit := unit
          meter :=
            { state := .valid, reading := some reading, lastGood := some uptime
              staleAt := some (uptime + header.meterStale), hold := decide (header.meterHoldLevel ≤ reading)
              phase := .idle, phaseUntil := none } } ∧
      (m.hold = false → header.meterHoldLevel ≤ reading →
        BeginsWith (withEvent .meterHold none none none reading header.meterHoldLevel s) t) ∧
      (m.hold = true → reading < header.meterHoldLevel →
        BeginsWith (withEvent .meterHoldEnd none none none reading 0 s) t) ∧
      (m.phase ≠ .settling → ¬ above → t.feeder.meter.phase = .idle) ∧
      (m.phase = .idle → above → header.meterFilter ≠ 0 →
        t.feeder.meter.phase = .filtering ∧ t.feeder.meter.phaseUntil = some (uptime + header.meterFilter)) ∧
      (m.phase = .filtering ∧ above ∨ m.phase = .settling →
        t.feeder.meter.phase = m.phase ∧ t.feeder.meter.phaseUntil = m.phaseUntil) ∧
      (above → m.phase = .due ∨ m.phase = .idle ∧ header.meterFilter = 0 →
        t.feeder.meter.phase = .due ∨
          t.feeder.meter.phase = .settling ∧
            t.feeder.meter.phaseUntil = some (uptime + header.meterShedSettle))) ∧
    ∃ t, exec (.meterReply (busFrame 143 6 (toBytes 4 power ++ [1#8]))) s = .next t ∧
      standing t = { standing s with meterUnit := unit } ∧ BeginsWith s.eventQueue.records t

/-- A failed transaction, for each reason of failure; REPLY_TIMEOUT is the reason TIMEOUT. The failure of a POLL counts
against its station; a METER_POLL's is counted; an ORDER's leaves its pump UNCONFIRMED with its booking held, and asks for
an urgent poll, and then counts against its station. A station that so reaches its silence limit becomes SILENT with the
reason in STATION_SILENT, its tanks HELD and its running pumps UNCONFIRMED, and leaves the awaited set of a survey. -/
def Obligations.FailedTransactionsAreCounted : Prop :=
  ∀ (s : State) (f : Flight) (reason : FailReason), Running s → Waiting f s →
    let pl := planOf s
    let uptime := s.time.uptime
    let t := finish (endTransaction f (.error reason) s)
    (reason = .timeout → exec .replyTimeout s = .next t) ∧
    (f.request = .meterPoll → f.unit = .meter →
      BeginsWith s.eventQueue.records t ∧
        standing t =
          { standing s with meterUnit :=
            { s.bus.meter with
              failed := min 65535 (s.bus.meter.failed + 1), lastFail := some reason
              pollDue := some (uptime + pl.header.meterPoll) } }) ∧
    ∀ st : Station, f.unit = .station st →
      let old := s.bus.stations[st]
      let new := failedStation reason old
      let put := (s.bus.stations.map untagged).set st
      let poll := { new with pollDue := some (uptime + pl.stations[st].pollInterval) }
      let stays := old.state = .silent ∨ min 255 (old.silence + 1) < pl.header.silenceLimit
      let falls := old.state ≠ .silent ∧ pl.header.silenceLimit ≤ min 255 (old.silence + 1)
      let silent := fun u => logged .stationSilent (pl.servedHouse st) none none (stationAddress st)
        (failReasonCode reason) u
      let held := Vector.ofFn fun k : Tank =>
        if pl.tanks[k].inUse && pl.tanks[k].station == st && s.levels[k].quality == .fresh then
          { s.levels[k] with quality := .held }
        else s.levels[k]
      let pumpsLost := s.survey.running = false → QueueHoldsTheQueued s →
        ∀ p : Pump, pl.servedHouse st = some (houseOf p) →
          s.pumps[p].state = .running ∨ s.pumps[p].state = .starting →
          t.pumps[p].state = .unconfirmed ∧ t.pumps[p].permit = none
      let surveyLeaves := s.survey.running = true → s.survey.awaited.contains st = true →
        t.survey =
          let rest := s.survey.awaited.filter fun k => k != st
          { running := !rest.isEmpty, awaited := rest, answered := s.survey.answered }
      (f.request = .poll → stays →
        BeginsWith s.eventQueue.records t ∧ standing t = { standing s with stations := put poll }) ∧
      (f.request = .poll → falls →
        BeginsWith (silent s).eventQueue.records t ∧
          standing t =
            { standing s with
              stations := put { poll with state := .silent }, hydraulics := t.hydraulics, levels := held } ∧
          surveyLeaves ∧ pumpsLost) ∧
      ∀ p tag, QueueHoldsTheQueued s →
        let h := houseOf p
        let r := s.pumps[p]
        let timedOut := fun (command : OrderKind) u =>
          logged .orderTimeout (some h) (some p) none (orderKindCode command) r.booking u
        let unsettled := fun (command : OrderKind) (release : Option Nat) =>
          { t.pumps[p] with protectPending := false } =
            { r with
              state := .unconfirmed, timedOut := some command, permitRelease := release, protectPending := false } ∧
          ((∃ e ∈ t.bus.queue, e.unit = .station (stationOf s h) ∧ e.order = none ∧ e.cls = .urgent) ∨
            ∃ g, t.bus.flight = some g ∧ g.unit = .station (stationOf s h) ∧ g.request = .poll)
        let counts := fun command : OrderKind =>
          (stays →
            BeginsWith (timedOut command s).eventQueue.records t ∧
            standing t =
              { standing s with stations := put new, houses := (s.houses.map houseSettings).set h (mainMoved s h) }) ∧
          (falls →
            BeginsWith (silent (timedOut command s)).eventQueue.records t ∧
            standing t =
              { standing s with
                stations := put { new with state := .silent }
                houses := (s.houses.map houseSettings).set h (mainMoved s h)
                hydraulics := t.hydraulics, levels := held } ∧
            surveyLeaves ∧ pumpsLost)
        let settled := stays ∨ s.survey.running = false ∨ stationOf s h = st
        (f.request = .order { pump := p, command := .start } tag → r.state = .ordered →
          counts .start ∧ (settled → unsettled .start (some (uptime + pl.pumps[p].startWindow)))) ∧
        (f.request = .order { pump := p, command := .stop } tag → r.state = .stopping →
          counts .stop ∧ (settled → unsettled .stop r.permitRelease))

/-- POLL_DUE: the poll-due becomes absent, and a routine poll of the unit joins the transmit queue, or is sent at once on
an idle bus, unless a poll of the unit is queued or in flight; before its time nothing comes about (log 3). -/
def Obligations.PollDueAsksForAPoll : Prop :=
  ∀ (s : State) (unit : BusUnit), Running s →
    let due := pollDueOf s unit
    let cleared := clearPollDue unit s
    let request := match unit with
      | .station _ => Request.poll
      | .meter => Request.meterPoll
    let number := (s.bus.nextArrival + 1) % 65536
    let polls := (∃ e ∈ s.bus.queue, e.unit = unit ∧ e.order = none) ∨
      ∃ f, s.bus.flight = some f ∧ f.unit = unit ∧ (f.request = .poll ∨ f.request = .meterPoll)
    ((∀ d, due = some d → s.time.uptime < d) → exec (.pollDue unit) s = .next s) ∧
    ∀ d, due = some d → d ≤ s.time.uptime →
      (polls → exec (.pollDue unit) s = .next cleared) ∧
      (¬ polls → (∀ e ∈ s.bus.queue, e.arrival ≠ s.bus.nextArrival) →
        (s.bus.flight.isSome = true →
          exec (.pollDue unit) s = .next
            { cleared with bus := { cleared.bus with
              queue := s.bus.queue ++ [{ unit, cls := .routine, order := none, arrival := s.bus.nextArrival }]
              nextArrival := number } }) ∧
        (s.bus.flight = none → planned s = true →
          exec (.pollDue unit) s = .next
            { cleared with
              bus := { cleared.bus with
                nextArrival := number
                flight := some
                  { unit, request, timeout := (planOf s).header.replyTimeout
                    frame := busFrame (unitAddress unit) (requestKind request) []
                    sentAt := none, partialReply := [], discarded := false } }
              busDe := true }))

/-! ### Levels, conditions and positions -/

/-- LEVEL_STALE and CONDITION_FILTER_EXPIRY: the level record and its event, with what the loss of a level does to the
houses that name its tank; a pending condition active, with its event. Before its time neither comes about (log 3). -/
def Obligations.LevelTimersExpire : Prop :=
  ∀ s : State, Running s →
    let pl := planOf s
    let uptime := s.time.uptime
    (∀ k : Tank, s.levels[k].quality = .fresh ∨ s.levels[k].quality = .held → ∀ u, s.levels[k].staleAt = some u →
      (uptime < u → exec (.levelStale k) s = .next s) ∧
      (u ≤ uptime →
        let r := s.levels[k]
        ∃ t, exec (.levelStale k) s = .next t ∧
          BeginsWith
            (withEvent .levelStale none none (some k) (r.value.getD 65535)
              ((r.lastGood.map fun g => uptime - g).getD 65535) s) t ∧
          standing t =
            { standing s with
              levels := s.levels.set k { r with quality := .stale, staleAt := none }, hydraulics := t.hydraulics } ∧
          ∀ h : House,
            let y := s.hydraulics[h]
            (pl.houses[h].inUse = false ∨ pl.houses[h].suction ≠ some k ∧ pl.houses[h].delivery ≠ k →
              t.hydraulics[h] = y) ∧
            (pl.houses[h].inUse = true → pl.houses[h].delivery = k →
              t.hydraulics[h].degraded = true ∧ (∀ i : Fin 4, t.hydraulics[h].wanted[i] = false) ∧
              t.hydraulics[h].overflow = y.overflow ∧ t.hydraulics[h].lowAlarm = y.lowAlarm) ∧
            (pl.houses[h].inUse = true → pl.houses[h].suction = some k → y.suctionLow.active = false →
              y.suctionLow.pending = none →
              t.hydraulics[h].suctionLow =
                if pl.houses[h].levelFilter = 0 then { active := true, pending := none }
                else { active := false, pending := some { since := uptime, filter := pl.houses[h].levelFilter } }))) ∧
    ∀ (h : House) (c : Condition) (q : PendingSince), (conditionOf s.hydraulics[h] c).pending = some q →
      (uptime < q.since + q.filter → exec (.conditionFilterExpiry h c) s = .next s) ∧
      (q.since + q.filter ≤ uptime →
        let tank := match c with
          | .suctionLow => pl.houses[h].suction
          | .overflow => some pl.houses[h].delivery
          | .lowAlarm => some pl.houses[h].delivery
        ∃ t, exec (.conditionFilterExpiry h c) s = .next t ∧
          BeginsWith
            (withEvent .conditionOn (some h) none tank (conditionCode c)
              ((tank.bind fun k => s.levels[k].value).getD 65535) s) t ∧
          standing t =
            { standing s with
              hydraulics := s.hydraulics.set h
                (putCondition c { active := true, pending := none } s.hydraulics[h]) })

/-- A level update: how each condition of a house follows the level of its tank, how the wanted flags follow their bands,
and that the flags stay a prefix of the positions where the bands are in order. -/
def Obligations.ConditionsFollowTheLevel : Prop :=
  ∀ (s : State) (k : Tank) (h : House), houseInUse s h = true →
    let pl := planOf s
    let tank := pl.tanks[k]
    let level := usableLevel s.levels[k]
    let y := s.hydraulics[h]
    let z := (levelUpdate k s).hydraulics[h]
    let filter := pl.houses[h].levelFilter
    let moves := fun (raw clears : Prop) (before after : ConditionRecord) =>
      (raw → before.active = true ∨ before.pending.isSome = true → after = before) ∧
      (raw → before.active = false → before.pending = none →
        after =
          if filter = 0 then { active := true, pending := none }
          else { active := false, pending := some { since := s.time.uptime, filter } }) ∧
      (¬ raw → clears → after = { active := false, pending := none }) ∧
      (¬ raw → ¬ clears → after = if before.active then before else { active := false, pending := none })
    let inOrder := ∀ i j : Fin 4, i < j → j.val < pl.houses[h].pumpCount →
      tank.start[j] ≤ tank.start[i] ∧ tank.stop[j] ≤ tank.stop[i]
    let isPrefix := fun flags : Vector Bool 4 => ∀ i j : Fin 4, i < j → flags[j] = true → flags[i] = true
    (pl.houses[h].suction = some k →
      moves (∀ l, level = some l → l ≤ tank.cutoff) (∃ l, level = some l ∧ tank.cutoff + pl.header.suctionMargin ≤ l)
        y.suctionLow z.suctionLow) ∧
    (pl.houses[h].suction ≠ some k → z.suctionLow = y.suctionLow) ∧
    (pl.houses[h].delivery ≠ k →
      z.overflow = y.overflow ∧ z.lowAlarm = y.lowAlarm ∧ z.wanted = y.wanted ∧ z.degraded = y.degraded) ∧
    (pl.houses[h].delivery = k →
      (level = none → z.overflow = y.overflow ∧ z.lowAlarm = y.lowAlarm ∧ z.degraded = true ∧
        ∀ i : Fin 4, z.wanted[i] = false) ∧
      (∀ l, level = some l → z.degraded = false ∧
        moves (tank.overflow ≤ l) (l < tank.stop[0]) y.overflow z.overflow ∧
        moves (l ≤ tank.lowAlarm) (tank.lowAlarm + pl.header.lowAlarmMargin < l) y.lowAlarm z.lowAlarm ∧
        ∀ i : Fin 4, z.wanted[i] =
          if i.val < pl.houses[h].pumpCount then
            if l ≤ tank.start[i] then true else if tank.stop[i] ≤ l then false else y.wanted[i]
          else false) ∧
      (inOrder → isPrefix y.wanted → isPrefix z.wanted))

/-! ### The House Dispatcher -/

/-- The want and limit that an evaluation stores: 0 for the first of the limits that hold it, otherwise the manual target
or what floor, ceiling and fallback make of the level's positions, and never more than the duty list. A delivery level
that is not usable has no positions, whether or not its tank has ever reported. -/
def Obligations.EvaluationStoresTheWant : Prop :=
  ∀ (s : State) (h : House),
    let t := evaluateHouse h s
    let r := s.houses[h]
    let stores := fun (value : Nat) (limit : Limit) => t.houses[h].want = value ∧ t.houses[h].limit = limit
    let silent := s.bus.stations[(planOf s).houses[h].station].state = .silent
    let counts := fun kind : WindowKind =>
      (s.timetable.windows.filter fun w => w.house == h && (planOf s).timetable[w.entry].kind == kind).map
        fun w => (planOf s).timetable[w.entry].count
    let level := s.levels[(planOf s).houses[h].delivery]
    let usable := level.quality = .fresh ∨ level.quality = .held
    let wanted := (s.hydraulics[h].wanted.toList.filter id).length
    (s.survey.running = true → stores 0 .survey) ∧
    (s.survey.running = false →
      (silent → stores 0 .silent) ∧
      (¬ silent →
        (s.protection[h].interlock = true → stores 0 .interlock) ∧
        (s.protection[h].interlock = false →
          (s.protection[h].state ≠ .clear → stores 0 .protection) ∧
          (s.protection[h].state = .clear →
            (r.mode = .disabled → stores 0 .disabled) ∧
            (r.mode ≠ .disabled →
              (s.hydraulics[h].suctionLow.active = true → stores 0 .suctionLow) ∧
              (s.hydraulics[h].suctionLow.active = false →
                (s.hydraulics[h].overflow.active = true → stores 0 .overflow) ∧
                (s.hydraulics[h].overflow.active = false →
                  (r.mode = .manual →
                    stores (min r.dutyList.length r.manualTarget)
                      (if r.dutyList.length < r.manualTarget then .rotation else .manual)) ∧
                  (r.mode = .auto → (usable → level.value.isSome = true) →
                    ∀ base, (usable → base = wanted) → (¬ usable → base = 0) →
                    let floor := max base (((counts .floor).max?).getD 0)
                    let ceiling :=
                      if s.hydraulics[h].lowAlarm.active then floor
                      else min floor (((counts .ceiling).min?).getD floor)
                    let fallback :=
                      if s.hydraulics[h].degraded then min ceiling (planOf s).houses[h].fallback else ceiling
                    stores (min fallback r.dutyList.length)
                      (if r.dutyList.length < fallback then .rotation
                       else if fallback < ceiling then .fallback
                       else if ceiling < floor then .ceiling
                       else if base < floor then .floor
                       else .level)))))))))

/-- What an evaluation does to the pumps of its house. Raising: the eligible pumps of the duty list, from the lead, are
QUEUED until the on-count reaches the want, none while the house is inhibited; and the shortfall episode. Lowering: the
youngest queued pumps are withdrawn until the on-count reaches the want; then come the stops: none while the survey runs;
PROTECT to every pump of the house; otherwise, at a free main, one ISOLATE stop, or else one DEMAND or OVERFLOW stop of
the earliest start while there is a surplus. Nothing of another house changes. That PROTECT stops ask for no surplus (log 23),
and where the evaluations stand in the work of an event (log 11), is the model's. -/
def Obligations.EvaluationActsOnThePumps : Prop :=
  (∀ (s : State) (h : House), QueueHoldsTheQueued s →
    s.houses[h].dutyList.Nodup → (∀ p ∈ s.houses[h].dutyList, houseOf p = h) →
    (∀ p : Pump, houseOf p = h → s.pumps[p].state = .queued →
      s.pumps[p].isolatePending = false ∧ s.pumps[p].faultPending = none) →
    let t := evaluateHouse h s
    let want := t.houses[h].want
    let on := onCount s h
    let canQueue := s.houses[h].dutyList.filter fun p =>
      s.pumps[p].state == .ready && decide (s.pumps[p].history.length < (planOf s).pumps[p].startsPerHour)
    let taken := if inhibited s h then [] else canQueue.take (want - on)
    let unmet := inhibited s h = false ∧ on + taken.length < want
    let entries := s.feeder.queue.filter fun e => e.house == h
    let withdrawn := min (on - want) entries.length
    let isDue := fun p : Pump => houseOf p = h ∧ s.pumps[p].isolatePending = true ∧
      (s.pumps[p].state = .running ∨ s.pumps[p].state = .starting)
    let protects := s.protection[h].interlock = true ∨ s.protection[h].state ≠ .clear ∨
      s.hydraulics[h].suctionLow.active = true
    let surplus := want + withdrawn < on
    let cause : StopCause := if s.hydraulics[h].overflow.active then .overflow else .demand
    let canStop := fun p : Pump => houseOf p = h ∧ s.pumps[p].state = .running ∧
      (cause = .overflow ∨ s.pumps[p].minRunUntil = none)
    let stopped := fun (p : Pump) (c : StopCause) =>
      t.pumps[p] =
        { s.pumps[p] with
          state := .stopping, permit := none, permitRelease := none, windowEnd := none, stopCause := some c
          isolatePending := s.pumps[p].isolatePending || c == .isolate
          booking := drawB s p (bookingCount t h) } ∧
      ((∃ e ∈ t.bus.queue, e.order = some { pump := p, command := .stop }) ∨
        ∃ g tag, t.bus.flight = some g ∧ g.request = .order { pump := p, command := .stop } tag)
    let moves := fun p : Pump => t.pumps[p].state = .stopping ∧ s.pumps[p].state ≠ .stopping
    let issued := fun (p : Pump) (c : StopCause) (u : State) =>
      logged .stopIssued (some h) (some p) none (stopCauseCode c) 0 u
    let toldUnmet :=
      if unmet ∧ s.houses[h].shortfall = false then
        logged .wantUnmet (some h) none none want (on + taken.length) s
      else s
    -- raising
    (∀ p ∈ taken, t.pumps[p] = { s.pumps[p] with state := .queued } ∧
      ∃ e ∈ t.feeder.queue, e.pump = p ∧ e.house = h ∧ e.enqueued = s.time.uptime) ∧
    (∀ p : Pump, s.pumps[p].state = .ready → p ∉ taken → t.pumps[p] = s.pumps[p]) ∧
    (t.houses[h].shortfall = true ↔
      (inhibited s h = true ∧ s.houses[h].shortfall = true) ∨ unmet) ∧
    -- withdrawing
    ((s.feeder.queue.map fun e => startAge s e).Nodup → ∀ e ∈ entries,
      let younger := (entries.filter fun d => decide (startAge s d < startAge s e)).length
      (younger < withdrawn →
        t.pumps[e.pump] = { s.pumps[e.pump] with state := .ready, admittedM := none, stopCause := none } ∧
          ∀ d ∈ t.feeder.queue, d.pump ≠ e.pump) ∧
      (withdrawn ≤ younger → t.pumps[e.pump] = s.pumps[e.pump] ∧ ∃ d ∈ t.feeder.queue, d.pump = e.pump)) ∧
    -- stopping
    (s.survey.running = true → (∀ p : Pump, ¬ moves p) ∧ t.eventQueue = toldUnmet.eventQueue) ∧
    (s.survey.running = false → protects → ∀ p : Pump, houseOf p = h →
      let r := s.pumps[p]
      (r.state = .running ∨ r.state = .starting → stopped p .protect) ∧
      (r.state = .stopping →
        t.pumps[p] = { r with stopCause := some .protect, booking := t.pumps[p].booking }) ∧
      (r.state = .unconfirmed → t.pumps[p] = { r with protectPending := true }) ∧
      (r.state = .ordered → (s.bus.flight = none → s.work.busEnded = false → s.bus.queue = []) →
        (orderInFlight s p = true → t.pumps[p] = { r with protectPending := true }) ∧
        (orderInFlight s p = false → r.isolatePending = false → r.faultPending = none →
          t.pumps[p] =
            { unadmitted r with
              state := .ready, permit := none, permitRelease := none, booking := 0, admittedM := none
              windowEnd := none, stopCause := none } ∧
          ∀ e ∈ t.bus.queue, ∀ o, e.order = some o → o.pump = p → o.command = .stop))) ∧
    (s.survey.running = false → ¬ protects → mainFree s h = false →
      (∀ p : Pump, ¬ moves p) ∧ t.eventQueue = toldUnmet.eventQueue) ∧
    (s.survey.running = false → ¬ protects → mainFree s h = true →
      (∀ p, isDue p → (∀ q : Pump, isDue q → p ≤ q) →
        stopped p .isolate ∧ (∀ q : Pump, q ≠ p → ¬ moves q) ∧
          t.eventQueue = (issued p .isolate toldUnmet).eventQueue) ∧
      ((∀ p : Pump, ¬ isDue p) →
        (∀ p, surplus → canStop p →
          (∀ q : Pump, canStop q → startTimeOf s p < startTimeOf s q ∨ startTimeOf s p = startTimeOf s q ∧ p ≤ q) →
          stopped p cause ∧ (∀ q : Pump, q ≠ p → ¬ moves q) ∧ t.eventQueue = (issued p cause s).eventQueue) ∧
        (¬ surplus ∨ (∀ p : Pump, ¬ canStop p) →
          (∀ p : Pump, ¬ moves p) ∧ t.eventQueue = toldUnmet.eventQueue))) ∧
    -- the rest
    standing t = standing s ∧ (∀ g : House, g ≠ h → t.houses[g] = s.houses[g]) ∧
    (∀ p : Pump, houseOf p ≠ h → t.pumps[p] = s.pumps[p]) ∧
    ((t.feeder.queue.filter fun e => e.house != h).map fun e => (e.pump, e.enqueued)) =
      (s.feeder.queue.filter fun e => e.house != h).map fun e => (e.pump, e.enqueued)) ∧
  ∀ (s : State) (h : House), s.work.surveyEnd = false → s.work.shedTest = false → s.work.notices[h] = true →
    (∀ g : House, g < h → s.work.notices[g] = false) →
    let t := { s with work := { s.work with notices := s.work.notices.set h false } }
    workStep s = some (if houseInUse s h then evaluateHouse h t else t)

/-- The end of the survey: each in-use UNCONFIRMED pump whose station is not SILENT is adopted from its last reported
state, with RESOLVED (one with pending flags then acts on them); the others stay as they are; SURVEY_DONE is raised behind
them, the houses are re-booked, a shed test, every house's evaluation and an admission pass are called for. That RESOLVED
comes by ascending pump is the model's choice (log 50). A REPORT of the last awaited station ends the survey, and one of
another awaited station takes that station from the set. -/
def Obligations.SurveyEnds : Prop :=
  (∀ s : State,
    let t := endSurvey s
    let adopts := fun p : Pump => pumpInUse s p = true ∧ s.pumps[p].state = .unconfirmed ∧
      s.pumps[p].lastReported.isSome = true ∧ s.bus.stations[stationOf s (houseOf p)].state ≠ .silent
    t.survey = { s.survey with running := false } ∧ standing t = standing s ∧ SumsHold t ∧
    (∀ p, adopts p → s.pumps[p].isolatePending = false → s.pumps[p].protectPending = false →
      s.pumps[p].faultPending = none →
      let h := houseOf p
      let r := s.pumps[p]
      (∀ u, r.lastReported = some .run → r.lastReportedAt = some u →
        t.pumps[p] =
          { r with
            state := .running, fault := none, startTime := some u, admittedStart := false, reachedRunning := true
            windowEnd := none, minRunUntil := none, minOffUntil := none, timedOut := none, stopCause := none
            booking := drawB s p (bookingCount t h) }) ∧
      (r.lastReported = some .stop →
        t.pumps[p] =
          { r with
            state := .ready, permit := none, permitRelease := none, booking := 0, admittedM := none
            startTime := none, admittedStart := false, minRunUntil := none, minOffUntil := none, lastStop := none
            timedOut := none, stopCause := none }) ∧
      (r.lastReported = some .trip →
        t.pumps[p] = outRecord .faulted (some .stationTrip) r ∧ p ∉ t.houses[h].dutyList) ∧
      (r.lastReported = some .localControl →
        t.pumps[p] = outRecord .localControl none r ∧ p ∉ t.houses[h].dutyList)) ∧
    (∀ p, ¬ adopts p →
      t.pumps[p] =
        if houseInUse s (houseOf p) = true ∧ (s.pumps[p].state = .running ∨ s.pumps[p].state = .stopping) then
          { s.pumps[p] with booking := drawB s p (bookingCount t (houseOf p)) }
        else { s.pumps[p] with booking := t.pumps[p].booking }) ∧
    (∀ p, ¬ adopts p → s.pumps[p].state ≠ .running → s.pumps[p].state ≠ .stopping → t.pumps[p] = s.pumps[p]) ∧
    (s.eventQueue.records.length ≤ 63 →
      ∃ told done, t.eventQueue.records = s.eventQueue.records ++ told ++ [done] ∧
        done.kind = .surveyDone ∧ done.value1 = min s.survey.answered 65535 ∧
        done.value2 = (allPumps.filter fun p => pumpInUse s p && t.pumps[p].state == .unconfirmed).length ∧
        (told.filter fun x => x.kind == .resolved).map (fun x => (x.pump, x.value1)) =
          (allPumps.filter fun p => decide (adopts p)).map fun p =>
            (some p, (s.pumps[p].lastReported.map reportedCode).getD 0)) ∧
    t.work.shedTest = true ∧ s.work.passes < t.work.passes ∧
    ∀ h, houseInUse s h = true → t.work.notices[h] = true) ∧
  ∀ (s : State) (f : Flight) (st : Station) (body : List Byte) (r : Report), Running s → Waiting f s →
    f.request = .poll → f.unit = .station st → parseReport body = some r → s.survey.running = true →
    s.survey.awaited.contains st = true →
    ∃ t, exec (.report (busFrame (stationAddress st + 128) 2 body)) s = .next t ∧
      t.survey =
        let rest := s.survey.awaited.filter fun k => k != st
        { running := !rest.isEmpty, awaited := rest, answered := s.survey.answered + 1 }

/-! ### Pump, main and meter timers -/

/-- The timers of a pump: the end of the start window, and the expiries of min run, of a kept permit, of the start history
and of min off. The standing part of the state does not move. That min-run-until is absent where start time plus min run
has passed is the model's reading (log 16), and so is the record that RUNNING was reached (log 17). A pump that is READY or
QUEUED may be admitted in the same event, and an ORDERED one may be withdrawn. -/
def Obligations.PumpTimersExpire : Prop :=
  ∀ (s : State) (p : Pump), Running s → QueueHoldsTheQueued s →
    let h := houseOf p
    let r := s.pumps[p]
    let uptime := s.time.uptime
    let plan := (planOf s).pumps[p]
    (∀ u, r.state = .starting → r.windowEnd = some u → u ≤ uptime →
      ∃ t, exec (.startWindowEnd p) s = .next t ∧ standing t = standing s ∧
        BeginsWith
          (withEvent .run (some h) (some p) none (r.admittedM.getD 0) (drawB s p (bookingCount s h)) s) t ∧
        (t.pumps[p].state = .stopping ∨
          { t.pumps[p] with booking := 0 } =
            { r with
              state := .running, permit := none, permitRelease := none, booking := 0, windowEnd := none
              reachedRunning := true
              minRunUntil :=
                if uptime < r.startTime.getD 0 + plan.minRun then some (r.startTime.getD 0 + plan.minRun) else none })) ∧
    (∀ u, r.minRunUntil = some u → u ≤ uptime →
      ∃ t, exec (.minRunExpiry p) s = .next t ∧ standing t = standing s ∧ t.pumps[p].minRunUntil = none ∧
        BeginsWith s.eventQueue.records t) ∧
    (∀ u, r.state = .unconfirmed → r.permitRelease = some u → u ≤ uptime →
      ∃ t, exec (.permitReleaseExpiry p) s = .next t ∧ standing t = standing s ∧
        BeginsWith s.eventQueue.records t ∧
        { t.pumps[p] with protectPending := false } =
          { r with permit := none, permitRelease := none, protectPending := false }) ∧
    (∀ u rest, r.history = u :: rest → u + 3600 ≤ uptime →
      ∃ t, exec (.startHistoryExpiry p) s = .next t ∧ standing t = standing s ∧ BeginsWith s.eventQueue.records t ∧
        (r.state = .ready ∨ r.state = .queued →
          t.pumps[p].history = rest ∨ t.pumps[p].state = .ordered ∧ t.pumps[p].history = rest ++ [uptime]) ∧
        (r.state = .ordered →
          t.pumps[p].history = rest ∨ t.pumps[p].state ≠ .ordered ∧ t.pumps[p].history = rest.dropLast) ∧
        (r.state ≠ .ready → r.state ≠ .queued → r.state ≠ .ordered → t.pumps[p].history = rest)) ∧
    (∀ u, r.state = .rest → r.minOffUntil = some u → u ≤ uptime → r.isolatePending = false → r.faultPending = none →
      ∃ t, exec (.minOffExpiry p) s = .next t ∧ standing t = standing s ∧ OnItsWay t.pumps[p] ∧
        t.pumps[p].minOffUntil = none ∧ BeginsWith s.eventQueue.records t)

/-- MAIN_SETTLED, whichever block takes it first; METER_STALE, which ends a hold and the shed phase with their events; and
the expiry of the shed phase, in FILTERING and in SETTLING. That MAIN_SETTLED before its time changes nothing is the
model's choice (log 3), and so is the operand that says which block is first (log 36). -/
def Obligations.MainAndMeterTimersExpire : Prop :=
  ∀ s : State, Running s →
    let m := s.feeder.meter
    let header := (planOf s).header
    let uptime := s.time.uptime
    let reading := m.reading.getD 65535
    let shedding := fun t : State =>
      t.feeder.meter.phase = .due ∨
        t.feeder.meter.phase = .settling ∧ t.feeder.meter.phaseUntil = some (uptime + header.meterShedSettle)
    (∀ (h : House) (feederFirst : Bool) (u : Nat), s.houses[h].mainSettledAt = some u →
      (uptime < u → exec (.mainSettled h feederFirst) s = .next s) ∧
      (u ≤ uptime →
        ∃ t, exec (.mainSettled h feederFirst) s = .next t ∧ BeginsWith s.eventQueue.records t ∧
          standing t =
            { standing s with
              houses := (s.houses.map houseSettings).set h
                (s.houses[h].mode, s.houses[h].manualTarget, none) })) ∧
    (∀ u, m.staleAt = some u → u ≤ uptime →
      let stale := fun x => logged .meterStale none none none reading ((m.lastGood.map fun g => uptime - g).getD 65535) x
      ∃ t, exec .meterStale s = .next t ∧
        standing t =
          { standing s with meter :=
            { m with state := .stale, staleAt := none, hold := false, phase := .idle, phaseUntil := none } } ∧
        t.feeder.meter.phase = .idle ∧
        (m.hold = false → BeginsWith (stale s).eventQueue.records t) ∧
        (m.hold = true → BeginsWith (withEvent .meterHoldEnd none none none reading 1 (stale s)) t)) ∧
    ∀ u, m.phaseUntil = some u → u ≤ uptime →
      (m.phase = .filtering →
        ∃ t, exec .meterPhaseExpiry s = .next t ∧ standing t = standing s ∧ shedding t) ∧
      (m.phase = .settling →
        ∃ t, exec .meterPhaseExpiry s = .next t ∧ standing t = standing s ∧
          ((∃ v, m.reading = some v ∧ header.meterShedLevel ≤ v) → shedding t) ∧
          ((∀ v, m.reading = some v → v < header.meterShedLevel) → t.feeder.meter.phase = .idle))

/-! ### The Feeder Budget Unit -/

/-- An admission: the pump is ORDERED with the lowest free permit and its start charge, its order joins the transmit
queue or is sent at once, and committed rises by exactly the need; so no admission pass carries committed over the cap. -/
def Obligations.AdmissionKeepsTheBudget : Prop :=
  (∀ (s : State) (p : Pump), SumsHold s → s.pumps[p].state = .queued → s.pumps[p].booking = 0 →
    passedOver s (houseOf p) = false → candidateEnd s p = none →
    let t := admitPump p s
    let m := bookingCount s (houseOf p) + 1
    s.feeder.meter.hold = false ∧ permitCountHeld s < (planOf s).header.permitCount ∧
      (t.feeder.committed : Int) = s.feeder.committed + needOf s p ∧ t.feeder.committed ≤ s.feeder.cap ∧
      (∃ k, k < (planOf s).header.permitCount ∧ (∀ q : Pump, s.pumps[q].permit ≠ some k) ∧
        (∀ j, j < k → ∃ q : Pump, s.pumps[q].permit = some j) ∧
        t.pumps[p] =
          { s.pumps[p] with
            state := .ordered, permit := some k, booking := chargeS s p m, admittedM := some m
            startTime := some s.time.uptime, admittedStart := true, reachedRunning := false, minRunUntil := none
            stopCause := none, history := s.pumps[p].history ++ [s.time.uptime] }) ∧
      (∀ e ∈ t.feeder.queue, e.pump ≠ p) ∧
      ((∃ e ∈ t.bus.queue, e.cls = .order ∧ e.order = some { pump := p, command := .start }) ∨
        ∃ g tag, t.bus.flight = some g ∧ g.request = .order { pump := p, command := .start } tag)) ∧
  ∀ s : State, SumsHold s → QueueHoldsTheQueued s → (∀ p : Pump, s.pumps[p].state = .queued → s.pumps[p].booking = 0) →
    s.feeder.committed ≤ s.feeder.cap → (admissionPass s).feeder.committed ≤ s.feeder.cap

/-- An admission pass and its record. While the survey runs it ends at once. Otherwise it walks the Start Queue: the
record counts the pumps admitted and the entries passed over, which stay at the front; where the walk did not come to the
queue's end, the next entry is the candidate, of a house that is not passed over, with the first reason that held and its
need, and the entries behind it are as they were. A pass triggers no further pass; what does trigger one: among others, a
change of a pump that makes its booking or another's fall, whether or not committed falls on the whole (that the sums are
recomputed between a change and each re-booking is the model's reading, log 12). -/
def Obligations.AdmissionPassIsRecorded : Prop :=
  (∀ s : State, QueueHoldsTheQueued s →
    let t := admissionPass s
    let uptime := s.time.uptime
    t.work.passes = s.work.passes ∧
    let atOnce : PassRecord :=
      { uptime := uptime, admittedCount := 0, passedOver := 0, ended := .survey, candidate := none, tested := none }
    (s.survey.running = true → t = { s with feeder := { s.feeder with lastPass := some atOnce } }) ∧
    (s.survey.running = false →
      ∃ r, t.feeder.lastPass = some r ∧ r.uptime = uptime ∧
        let seen := r.admittedCount + r.passedOver
        r.admittedCount = (allPumps.filter fun p => s.pumps[p].state == .queued && t.pumps[p].state == .ordered).length ∧
        seen ≤ s.feeder.queue.length ∧
        (∀ e ∈ t.feeder.queue.take r.passedOver, passedOver t e.house = true) ∧
        t.feeder.queue.drop r.passedOver = s.feeder.queue.drop seen ∧
        (r.ended = .queueEnd ∧ seen = s.feeder.queue.length ∧ r.candidate = none ∧ r.tested = none ∨
          ∃ e need, s.feeder.queue[seen]? = some e ∧ need = needOf t e.pump ∧ r.candidate = some (e.pump, need) ∧
            passedOver t e.house = false ∧
            (r.ended = .meterHold ∧ t.feeder.meter.hold = true ∧ r.tested = none ∨
              t.feeder.meter.hold = false ∧
                (r.ended = .noPermit ∧ (planOf s).header.permitCount ≤ permitCountHeld t ∧ r.tested = none ∨
                  permitCountHeld t < (planOf s).header.permitCount ∧ r.ended = .budget ∧
                    (t.feeder.cap : Int) < t.feeder.committed + need ∧
                    r.tested = some (t.feeder.committed, t.feeder.cap)))))) ∧
  (∀ s : State, s.work.surveyEnd = false → s.work.shedTest = false → (∀ h : House, s.work.notices[h] = false) →
    (s.work.passes = 0 → workStep s = none) ∧
    ∀ k, s.work.passes = k + 1 → workStep s = some (admissionPass { s with work := { s.work with passes := k } })) ∧
  ∀ (s : State) (p : Pump),
    let triggers := fun t : State => t.work.passes = s.work.passes + 1
    triggers (joinStart p s) ∧
      (s.pumps[p].permit.isSome = true → triggers (releasePermit p s)) ∧
      (sumBookings s < s.feeder.committed → triggers (resum s)) ∧
      (∀ c, s.feeder.cap < c → triggers (takeCap c s)) ∧
      (s.feeder.meter.hold = true → ∀ reading, reading < (planOf s).header.meterHoldLevel →
        triggers (evaluateHold reading s)) ∧
      (∀ f : PumpLive → PumpLive, SumsHold s →
        let t := pumpChanged p (updPump p f s)
        (∃ q : Pump, t.pumps[q].booking < s.pumps[q].booking) → s.work.passes < t.work.passes)

/-- The shed test. None is made while the survey runs. Otherwise the over-cap episode is open afterwards exactly while
committed-for-shed still exceeds the cap, and then no house with a free main has a candidate left; with nothing in excess
and no METER_SHED due nothing happens but the episode's end. One choice takes the RUNNING pump of latest start in the
house of greatest priority number whose main is free, which goes to STOPPING with STOP_ISSUED and SHED; a METER_SHED
choice takes the same, and is made first, where the shed phase is DUE. The test is called for when either sum changes and
at the end of a stop, and it is made before the event's evaluations. That place in the event's work is the model's (log
11), and so is the order of its events, OVER_CAP first (log 13). -/
def Obligations.ShedTestShedsPumps : Prop :=
  let exceeds := fun s : State => s.feeder.cap < s.feeder.committedForShed
  let canTake := fun (s : State) (p : Pump) =>
    s.pumps[p].state = .running ∧ houseInUse s (houseOf p) = true ∧ mainFree s (houseOf p) = true
  let takes := fun (s : State) (p : Pump) => canTake s p ∧ ∀ q, canTake s q →
    priorityOf s (houseOf q) < priorityOf s (houseOf p) ∨
    priorityOf s (houseOf q) = priorityOf s (houseOf p) ∧
      (houseOf q < houseOf p ∨
        houseOf q = houseOf p ∧
          (startTimeOf s q < startTimeOf s p ∨ startTimeOf s q = startTimeOf s p ∧ q ≤ p))
  let stops := fun (cause : StopCause) (p : Pump) (s t : State) =>
    t.pumps[p] =
        { s.pumps[p] with
          state := .stopping, permit := none, permitRelease := none, windowEnd := none, stopCause := some cause
          booking := drawB s p (bookingCount s (houseOf p)) } ∧
      (∀ q : Pump, q ≠ p → t.pumps[q] =
        if houseOf q = houseOf p ∧ (s.pumps[q].state = .running ∨ s.pumps[q].state = .stopping) then
          { s.pumps[q] with booking := drawB s q (bookingCount s (houseOf p)) }
        else s.pumps[q]) ∧
      SumsHold t ∧ standing t = standing s ∧
      ((∃ e ∈ t.bus.queue, e.order = some { pump := p, command := .stop }) ∨
        ∃ g tag, t.bus.flight = some g ∧ g.request = .order { pump := p, command := .stop } tag)
  let log := fun (kind : EventKind) (p : Pump) (value1 value2 : Nat) (s : State) =>
    logged kind (some (houseOf p)) (some p) none value1 value2 s
  (∀ s : State, SumsHold s →
    let t := shedTest s
    let m := s.feeder.meter
    (s.survey.running = true → t = s) ∧
    (s.survey.running = false →
      standing t = standing s ∧ SumsHold t ∧ (t.feeder.overCap = true ↔ exceeds t) ∧
      (exceeds t → ∀ p, ¬ canTake t p) ∧
      (s.feeder.overCap = false → exceeds s →
        BeginsWith (withEvent .overCap none none none s.feeder.committedForShed s.feeder.cap s) t) ∧
      (¬ exceeds s → m.phase ≠ .due →
        t =
          if s.feeder.overCap then
            { s with
              eventQueue :=
                (logged .overCapEnd none none none s.feeder.committedForShed s.feeder.cap s).eventQueue
              feeder := { s.feeder with overCap := false } }
          else s) ∧
      (m.phase ≠ .due ∨ (∀ p, ¬ canTake s p) → t.feeder.meter = m) ∧
      (∀ p, takes s p → exceeds s ∨ m.phase = .due →
        t.pumps[p].state = .stopping ∧
        t.pumps[p].stopCause = some (if m.phase = .due then .meterShed else .shed) ∧
        (m.phase = .due →
          t.feeder.meter =
            { m with
              phase := .settling, phaseUntil := some (s.time.uptime + (planOf s).header.meterShedSettle) })))) ∧
  (∀ (s : State) (p : Pump), takes s p →
    (∀ k, exceeds s → ∃ t, shedLoop (k + 1) s = shedLoop k t ∧ stops .shed p s t ∧
      t.eventQueue =
        (log .shed p s.feeder.committedForShed s.feeder.cap (log .stopIssued p 2 0 s)).eventQueue) ∧
    (s.feeder.meter.phase = .due → s.survey.running = false →
      stops .meterShed p s (meterShed s) ∧
      (meterShed s).eventQueue =
        (log .meterShed p (s.feeder.meter.reading.getD 65535) (planOf s).header.meterShedLevel
          (log .stopIssued p 3 0 s)).eventQueue)) ∧
  (∀ (s : State) (k : Nat), ¬ exceeds s ∨ (∀ p, ¬ canTake s p) → shedLoop k s = s) ∧
  ∀ (s : State) (p : Pump) (reason : RefuseReason) (rep : Reported),
    (¬ SumsHold s → (resum s).work.shedTest = true) ∧
    (∀ c, c ≠ s.feeder.cap → (takeCap c s).work.shedTest = true) ∧
    (stopAccepted p s).work.shedTest = true ∧ (stopRefused reason p s).work.shedTest = true ∧
    (stopTimedOut p s).work.shedTest = true ∧
    (rep ≠ .run → (reportStopping p rep s).work.shedTest = true) ∧
    (s.work.surveyEnd = false → s.work.shedTest = true →
      workStep s = some (shedTest { s with work := { s.work with shedTest := false } }))

/-- The Start Queue holds the QUEUED pumps and no others, each once and under its own house: every step keeps it so. -/
def Obligations.StartQueueHoldsTheQueued : Prop :=
  ∀ s t : State, QueueHoldsTheQueued s → step s = .next t → QueueHoldsTheQueued t

/-- The Start Queue stays in order, by priority and then by age: a pump joins behind those of its own priority and before
those of a greater number, whether or not the entries are renumbered; and a re-sort puts any queue in order. That an
entry holding the counter's number is the oldest is the model's reading (log 22). -/
def Obligations.StartQueueStaysInOrder : Prop :=
  (∀ (s : State) (p : Pump), s.feeder.nextSeq < 65536 → (∀ e ∈ s.feeder.queue, e.seq < 65536) →
    (s.feeder.queue.map fun e => e.seq).Nodup → s.feeder.queue.Pairwise (fun d e => standsBefore s d e = true) →
    QueueHoldsTheQueued s →
    let t := joinStart p s
    t.feeder.queue.Pairwise (fun d e => standsBefore t d e = true) ∧
      (t.feeder.queue.map fun e => e.pump) =
        ((s.feeder.queue.filter fun e => decide (priorityOf s e.house ≤ priorityOf s (houseOf p))).map fun e => e.pump) ++
          p :: ((s.feeder.queue.filter fun e => decide (priorityOf s (houseOf p) < priorityOf s e.house)).map
            fun e => e.pump)) ∧
  ∀ s : State,
    (resortQueue s).feeder.queue.Pairwise (fun d e => standsBefore s d e = true) ∧
      (resortQueue s).feeder.queue.Perm s.feeder.queue

/-- The draw of a pump at a head: the first draw up to the first head; between two points the quotient of the signed
product, rounded up; between the smallest and the largest draw of the curve; exact at a point; and a plan that passes its
check has no head above a curve. -/
def Obligations.DrawIsReadFromTheCurve : Prop :=
  (∀ (curve : List CurvePoint) (head : Nat), curve.Pairwise (fun p q => p.head < q.head) →
    (∀ p rest, curve = p :: rest → head ≤ p.head → drawAt curve head = p.draw) ∧
    (∀ (i : Nat) (p q : CurvePoint), curve[i]? = some p → curve[i + 1]? = some q → p.head < head → head ≤ q.head →
      let product := ((q.draw : Int) - p.draw) * ((head : Int) - p.head)
      let length := (q.head : Int) - p.head
      (∃ quotient : Int, (drawAt curve head : Int) = p.draw + quotient ∧ product ≤ quotient * length ∧
        (quotient - 1) * length < product ∧
        min 0 ((q.draw : Int) - p.draw) ≤ quotient ∧ quotient ≤ max 0 ((q.draw : Int) - p.draw)) ∧
      (head = q.head → drawAt curve head = q.draw) ∧
      ((∀ x ∈ curve, x.head ≤ 65535 ∧ x.draw ≤ 65535) → product.natAbs ≤ 65535 * 65535)) ∧
    ((∃ q ∈ curve, head ≤ q.head) → (∃ p ∈ curve, p.draw ≤ drawAt curve head) ∧ ∃ p ∈ curve, drawAt curve head ≤ p.draw)) ∧
  ∀ (pl : Plan) (p : Pump) (m : Nat), firstFailure pl = none → pl.pumps[p].inUse = true →
    pl.houses[houseOf p].inUse = true → pl.pumps[p].curve ≠ [] → m ≤ pl.houses[houseOf p].pumpCount →
    ∃ q ∈ pl.pumps[p].curve, headAt pl (houseOf p) m ≤ q.head

/-! ### The Protection Unit -/

/-- ALARM_FILTER_EXPIRY: a PENDING entry becomes ACTIVE with ALARM_ACTIVE, enters the fault record unless its action is
NONE or NOTE, and, for a LOCKOUT in a CLEAR house that is not suppressed, begins a recovery. A TRIP that names a pump acts
on it by the pump's state: FAULTED at once with PUMP_FAULT, or a PROTECT stop, or flags left on it. Before its time it
does not come about (log 3). That a TRIP replaces a cause that waits (log 19), that the pump's events stand right behind
ALARM_ACTIVE (log 51), and that a FAULTED pump keeps protect-pending (log 18) and its start time (log 20), is the model's. -/
def Obligations.AlarmsActivate : Prop :=
  ∀ (s : State) (h : House) (c : Code) (e : AlarmEntry) (u : Nat), Running s →
    s.protection[h].alarms.find? (fun d => d.code == c) = some e → e.activeAt = some u →
    let r := s.protection[h]
    let uptime := s.time.uptime
    let action := (planOf s).alarmMap[c].action
    let active :=
      { r with alarms := r.alarms.map fun d => if d.code = c then { d with activeAt := none } else d }
    let recorded :=
      if action = .none ∨ action = .note then active
      else if (r.faults.any fun f => f.code == c) = true then
        { active with
          faults := r.faults.map fun f => if f.code = c then { f with count := min 255 (f.count + 1) } else f }
      else if r.faults.length < 8 then
        { active with faults := r.faults ++ [{ code := c, pump := e.pump, firstTime := uptime, count := 1 }] }
      else { active with more := true }
    let acted :=
      if action = .lockout ∧ r.state = .clear ∧ r.suppression = false then
        { recorded with
          state := .recovery, attempts := min 255 (r.attempts + 1), forgiveAt := none, causeCode := some c
          recoveryUntil := some (uptime + (planOf s).houses[h].recoveryTime) }
      else recorded
    let shown := match action with
      | .none => 0
      | .note => 1
      | .inhibit => 2
      | .trip => 3
      | .lockout => if r.suppression then 5 else 4
    let told := logged .alarmActive (some h) e.pump none c.val shown s
    (uptime < u → exec (.alarmFilterExpiry h c) s = .next s) ∧
    (u ≤ uptime →
      ∃ t, exec (.alarmFilterExpiry h c) s = .next t ∧
        standing t = { standing s with protection := s.protection.set h acted } ∧
        BeginsWith told.eventQueue.records t ∧
        ∀ p, action = .trip → e.pump = some p → QueueHoldsTheQueued s →
          let x := s.pumps[p]
          let cause := FaultCause.tripAlarm c
          let faulted := fun y : PumpLive =>
            (x.isolatePending = false →
              t.pumps[p] = outRecord .faulted (some cause) { y with faultPending := none }) ∧
            (x.isolatePending = true → t.pumps[p].state = .isolated) ∧
            p ∉ t.houses[houseOf p].dutyList ∧ (∀ d ∈ t.feeder.queue, d.pump ≠ p) ∧
            BeginsWith (withEvent .pumpFault (some (houseOf p)) (some p) none (faultCode cause) c.val told) t
          (x.state = .ready ∨ x.state = .rest ∨ x.state = .queued ∨ x.state = .localControl → faulted x) ∧
          (x.state = .ordered → orderInFlight s p = false → faulted (unadmitted x)) ∧
          (x.state = .ordered ∧ orderInFlight s p = true ∨ x.state = .unconfirmed →
            t.pumps[p] = { x with faultPending := some cause, protectPending := true }) ∧
          (x.state = .running ∨ x.state = .starting →
            { t.pumps[p] with booking := 0 } =
              { x with
                state := .stopping, permit := none, permitRelease := none, windowEnd := none
                stopCause := some .protect, faultPending := some cause, booking := 0 } ∧
            BeginsWith (withEvent .stopIssued (some (houseOf p)) (some p) none 5 0 told) t) ∧
          (x.state = .stopping → t.pumps[p].state = .stopping ∧ t.pumps[p].faultPending = some cause) ∧
          (x.state = .faulted ∨ x.state = .isolated ∨ x.state = .unused → t.pumps[p] = x))

/-- RECOVERY_EXPIRY: CLEAR, a further period, or LOCKED_OUT at the limit of retries, each with its event; FORGIVE_EXPIRY
sets the attempt count to 0. That FORGIVE_EXPIRY before its time changes nothing is the model's choice (log 3). -/
def Obligations.RecoveryRunsItsCourse : Prop :=
  ∀ (s : State) (h : House), Running s →
    let r := s.protection[h]
    let uptime := s.time.uptime
    let plan := (planOf s).houses[h]
    let lockout := r.alarms.find? fun e => e.activeAt.isNone && (planOf s).alarmMap[e.code].action == .lockout
    let becomes := fun (x : Protection) (kind : EventKind) (value1 value2 : Nat) =>
      ∃ t, exec (.recoveryExpiry h) s = .next t ∧
        standing t = { standing s with protection := s.protection.set h x } ∧
        BeginsWith (withEvent kind (some h) none none value1 value2 s) t
    (∀ u, r.state = .recovery → r.recoveryUntil = some u → u ≤ uptime →
      (r.suppression = true ∨ lockout = none →
        becomes
          { r with
            state := .clear, recoveryUntil := none, causeCode := none
            forgiveAt := if r.attempts = 0 then none else some (uptime + 3600) }
          .recoveryEnd r.attempts (if lockout.isSome then 2 else 0)) ∧
      (∀ e, r.suppression = false → lockout = some e →
        (plan.recoveryRetries ≠ 0 ∧ plan.recoveryRetries ≤ r.attempts →
          becomes { r with state := .lockedOut, recoveryUntil := none, causeCode := some e.code }
            .lockedOut r.attempts e.code.val) ∧
        (plan.recoveryRetries = 0 ∨ r.attempts < plan.recoveryRetries →
          becomes
            { r with
              state := .recovery, attempts := min 255 (r.attempts + 1), forgiveAt := none
              causeCode := some e.code, recoveryUntil := some (uptime + plan.recoveryTime) }
            .recoveryStart (min 255 (r.attempts + 1)) e.code.val))) ∧
    (∀ u, r.state = .clear → r.forgiveAt = some u →
      (uptime < u → exec (.forgiveExpiry h) s = .next s) ∧
      (u ≤ uptime →
        exec (.forgiveExpiry h) s = .next
          { s with protection := s.protection.set h { r with attempts := 0, forgiveAt := none } }))

end
end

