-- ==== Sys2Proof/Laws/Bytes.lean ====
section
/-! SUPPORT. Bytes and numbers: what reading back written bytes gives, and that a frame's own CRC matches. -/

namespace Sys2Proof.Machine

@[simp] theorem toBytes_length (k n : Nat) : (toBytes k n).length = k := by
  induction k with
  | zero => rfl
  | succ k ih => simp [toBytes, ih]

theorem foldl_bytes (bs : List Byte) (n : Nat) :
    bs.foldl (fun n b => n * 256 + b.toNat) n = n * 256 ^ bs.length + ofBytes bs := by
  unfold ofBytes
  induction bs generalizing n with
  | nil => simp
  | cons b bs ih =>
    simp only [List.foldl_cons, List.length_cons]
    rw [ih, ih (0 * 256 + b.toNat)]
    rw [pow_succ]
    ring

@[simp] theorem ofBytes_nil : ofBytes [] = 0 := rfl

theorem ofBytes_cons (b : Byte) (bs : List Byte) : ofBytes (b :: bs) = b.toNat * 256 ^ bs.length + ofBytes bs := by
  have h : ofBytes (b :: bs) = bs.foldl (fun n b => n * 256 + b.toNat) (0 * 256 + b.toNat) := rfl
  rw [h, foldl_bytes]
  simp

theorem ofBytes_append (a b : List Byte) : ofBytes (a ++ b) = ofBytes a * 256 ^ b.length + ofBytes b := by
  have h : ofBytes (a ++ b) = b.foldl (fun n b => n * 256 + b.toNat) (ofBytes a) := by
    unfold ofBytes; rw [List.foldl_append]
  rw [h, foldl_bytes]

theorem ofBytes_single (b : Byte) : ofBytes [b] = b.toNat := by simp [ofBytes]

/-- A number written in k bytes reads back modulo 256^k. -/
theorem ofBytes_toBytes (k n : Nat) : ofBytes (toBytes k n) = n % 256 ^ k := by
  induction k with
  | zero => simp [toBytes, Nat.mod_one]
  | succ k ih =>
    have h : 256 ^ (k + 1) = 256 ^ k * 256 := pow_succ _ _
    simp only [toBytes, ofBytes_cons, toBytes_length, ih, BitVec.toNat_ofNat]
    rw [h, Nat.mod_mul, show (2 : Nat) ^ 8 = 256 from rfl, Nat.mul_comm (256 ^ k), Nat.add_comm]

/-- A field that stands right after what is before it. -/
theorem fieldAt_append (a b : List Byte) (len : Nat) :
    fieldAt (a ++ b) a.length len = fieldAt b 0 len := by
  simp [fieldAt]

/-- A field within the bytes before. -/
theorem fieldAt_left (a b : List Byte) (offset len : Nat) (h : offset + len ≤ a.length) :
    fieldAt (a ++ b) offset len = fieldAt a offset len := by
  unfold fieldAt
  rw [List.drop_append_of_le_length (by omega), List.take_append_of_le_length (by simp; omega)]

/-- A field within the bytes behind. -/
theorem fieldAt_right (a b : List Byte) (offset len : Nat) (h : a.length ≤ offset) :
    fieldAt (a ++ b) offset len = fieldAt b (offset - a.length) len := by
  unfold fieldAt
  rw [List.drop_append, List.drop_eq_nil_of_le h, List.nil_append]

/-- A number read back from its own bytes, whatever stands behind. -/
theorem fieldAt_toBytes (k n : Nat) (b : List Byte) (h : n < 256 ^ k) : fieldAt (toBytes k n ++ b) 0 k = n := by
  simp [fieldAt, ofBytes_toBytes, Nat.mod_eq_of_lt h]

/-- A number read back from its own bytes. -/
theorem fieldAt_toBytes_all (k n : Nat) (h : n < 256 ^ k) : fieldAt (toBytes k n) 0 k = n := by
  have := fieldAt_toBytes k n [] h
  simpa using this

@[simp] theorem crcBytes_length (bs : List Byte) : (crcBytes bs).length = 2 := toBytes_length _ _

/-- Bytes followed by their own CRC match it (R147, R184). -/
theorem crcMatches_own (bs : List Byte) : crcMatches (bs ++ crcBytes bs) = true := by
  simp [crcMatches]

end Sys2Proof.Machine
end

