-- ==== Sys2Proof/Laws/Exec.lean ====
section
/-! SUPPORT. What each command that comes about only out of reset does, as one equation: the provers rewrite with these
and never unfold `exec`. -/

namespace Sys2Proof.Machine

theorem exec_supFrameReceived (bytes : List Byte) (s : State) :
    exec (.supFrameReceived bytes) s =
      live (fun s => bytes.foldl takeSupByte s) s := rfl

theorem exec_supByteReceived (byte : Byte) (stopBit : Bool) (s : State) :
    exec (.supByteReceived byte stopBit) s =
      live (fun s => if stopBit then takeSupByte s byte else brokenByte s) s := rfl

theorem exec_supGapExpiry (s : State) :
    exec .supGapExpiry s =
      live supGap s := rfl

theorem exec_ident (tag : Byte) (body : List Byte) (s : State) :
    exec (.ident tag body) s =
      live (acceptFrame { kind := 1#8, tag, body }) s := rfl

theorem exec_setTime (tag : Byte) (body : List Byte) (s : State) :
    exec (.setTime tag body) s =
      live (acceptFrame { kind := 2#8, tag, body }) s := rfl

theorem exec_tableWrite (tag : Byte) (body : List Byte) (s : State) :
    exec (.tableWrite tag body) s =
      live (acceptFrame { kind := 3#8, tag, body }) s := rfl

theorem exec_tableRead (tag : Byte) (body : List Byte) (s : State) :
    exec (.tableRead tag body) s =
      live (acceptFrame { kind := 4#8, tag, body }) s := rfl

theorem exec_bankClear (tag : Byte) (body : List Byte) (s : State) :
    exec (.bankClear tag body) s =
      live (acceptFrame { kind := 5#8, tag, body }) s := rfl

theorem exec_bankCheck (tag : Byte) (body : List Byte) (s : State) :
    exec (.bankCheck tag body) s =
      live (acceptFrame { kind := 6#8, tag, body }) s := rfl

theorem exec_bankSwap (tag : Byte) (body : List Byte) (s : State) :
    exec (.bankSwap tag body) s =
      live (acceptFrame { kind := 7#8, tag, body }) s := rfl

theorem exec_planStore (tag : Byte) (body : List Byte) (s : State) :
    exec (.planStore tag body) s =
      live (acceptFrame { kind := 8#8, tag, body }) s := rfl

theorem exec_houseMode (tag : Byte) (body : List Byte) (s : State) :
    exec (.houseMode tag body) s =
      live (acceptFrame { kind := 9#8, tag, body }) s := rfl

theorem exec_houseTarget (tag : Byte) (body : List Byte) (s : State) :
    exec (.houseTarget tag body) s =
      live (acceptFrame { kind := 10#8, tag, body }) s := rfl

theorem exec_houseClear (tag : Byte) (body : List Byte) (s : State) :
    exec (.houseClear tag body) s =
      live (acceptFrame { kind := 11#8, tag, body }) s := rfl

theorem exec_houseSuppress (tag : Byte) (body : List Byte) (s : State) :
    exec (.houseSuppress tag body) s =
      live (acceptFrame { kind := 12#8, tag, body }) s := rfl

theorem exec_pumpIsolate (tag : Byte) (body : List Byte) (s : State) :
    exec (.pumpIsolate tag body) s =
      live (acceptFrame { kind := 13#8, tag, body }) s := rfl

theorem exec_pumpRestore (tag : Byte) (body : List Byte) (s : State) :
    exec (.pumpRestore tag body) s =
      live (acceptFrame { kind := 14#8, tag, body }) s := rfl

theorem exec_pumpClear (tag : Byte) (body : List Byte) (s : State) :
    exec (.pumpClear tag body) s =
      live (acceptFrame { kind := 15#8, tag, body }) s := rfl

theorem exec_stateRead (tag : Byte) (body : List Byte) (s : State) :
    exec (.stateRead tag body) s =
      live (acceptFrame { kind := 16#8, tag, body }) s := rfl

theorem exec_eventRead (tag : Byte) (body : List Byte) (s : State) :
    exec (.eventRead tag body) s =
      live (acceptFrame { kind := 17#8, tag, body }) s := rfl

theorem exec_restart (tag : Byte) (body : List Byte) (s : State) :
    exec (.restart tag body) s =
      live (acceptFrame { kind := 18#8, tag, body }) s := rfl

theorem exec_unknownKind (kind tag : Byte) (body : List Byte) (s : State) :
    exec (.unknownKind kind tag body) s =
      live (acceptFrame { kind, tag, body }) s := rfl

theorem exec_busRequestSent (s : State) :
    exec .busRequestSent s =
      live requestSent s := rfl

theorem exec_busByteReceived (byte : Byte) (s : State) :
    exec (.busByteReceived byte) s =
      live (fun s => takeBusByte s byte) s := rfl

theorem exec_report (bytes : List Byte) (s : State) :
    exec (.report bytes) s =
      live
    (fun s => whenDue
      (inFlight s fun r =>
        match r with
        | .poll => true
        | .meterPoll => false
        | .order _ _ => false)
      (takeBusBytes bytes) s) s := rfl

theorem exec_orderReply (bytes : List Byte) (s : State) :
    exec (.orderReply bytes) s =
      live
    (fun s => whenDue
      (inFlight s fun r =>
        match r with
        | .poll => false
        | .meterPoll => false
        | .order _ _ => true)
      (takeBusBytes bytes) s) s := rfl

theorem exec_meterReply (bytes : List Byte) (s : State) :
    exec (.meterReply bytes) s =
      live
    (fun s => whenDue
      (inFlight s fun r =>
        match r with
        | .poll => false
        | .meterPoll => true
        | .order _ _ => false)
      (takeBusBytes bytes) s) s := rfl

theorem exec_replyTimeout (s : State) :
    exec .replyTimeout s =
      live replyTimedOut s := rfl

theorem exec_busGapExpiry (s : State) :
    exec .busGapExpiry s =
      live busGap s := rfl

theorem exec_minuteCrossing (s : State) :
    exec .minuteCrossing s =
      live (fun s => whenDue (minuteIsNext s) cross s) s := rfl

theorem exec_midnightCrossing (s : State) :
    exec .midnightCrossing s =
      live (fun s => whenDue (midnightIsNext s) cross s) s := rfl

theorem exec_pollDue (unit : BusUnit) (s : State) :
    exec (.pollDue unit) s =
      live (fun s => whenDue (pollIsDue s unit) (pollDueReached unit) s) s := rfl

theorem exec_levelStale (tank : Tank) (s : State) :
    exec (.levelStale tank) s =
      live (fun s => whenDue (levelIsStale s tank) (levelBecomesStale tank) s) s := rfl

theorem exec_conditionFilterExpiry (house : House) (condition : Condition) (s : State) :
    exec (.conditionFilterExpiry house condition) s =
      live (fun s => whenDue (conditionIsDue s house condition) (conditionActivates house condition) s) s := rfl

theorem exec_startWindowEnd (pump : Pump) (s : State) :
    exec (.startWindowEnd pump) s =
      live (fun s => whenDue (windowIsOver s pump) (windowEnded pump) s) s := rfl

theorem exec_permitReleaseExpiry (pump : Pump) (s : State) :
    exec (.permitReleaseExpiry pump) s =
      live (fun s => whenDue (permitIsDue s pump) (releasePermit pump) s) s := rfl

theorem exec_minRunExpiry (pump : Pump) (s : State) :
    exec (.minRunExpiry pump) s =
      live (fun s => whenDue (minRunIsOver s pump) (minRunExpires pump) s) s := rfl

theorem exec_minOffExpiry (pump : Pump) (s : State) :
    exec (.minOffExpiry pump) s =
      live (fun s => whenDue (minOffIsOver s pump) (minOffExpires pump) s) s := rfl

theorem exec_startHistoryExpiry (pump : Pump) (s : State) :
    exec (.startHistoryExpiry pump) s =
      live (fun s => whenDue (historyIsDue s pump) (historyExpires pump) s) s := rfl

theorem exec_mainSettled (house : House) (feederFirst : Bool) (s : State) :
    exec (.mainSettled house feederFirst) s =
      live (fun s => whenDue (mainIsDue s house) (mainSettles house feederFirst) s) s := rfl

theorem exec_meterStale (s : State) :
    exec .meterStale s =
      live (fun s => whenDue (meterIsStale s) meterBecomesStale s) s := rfl

theorem exec_meterPhaseExpiry (s : State) :
    exec .meterPhaseExpiry s =
      live (fun s => whenDue (phaseIsOver s) phaseExpired s) s := rfl

theorem exec_ttEnded (entry : Entry) (s : State) :
    exec (.ttEnded entry) s =
      live (fun s => whenDue (windowIsDue s entry) (windowExpires entry) s) s := rfl

theorem exec_alarmFilterExpiry (house : House) (code : Code) (s : State) :
    exec (.alarmFilterExpiry house code) s =
      live (fun s => whenDue (alarmIsDue s house code) (alarmExpires house code) s) s := rfl

theorem exec_recoveryExpiry (house : House) (s : State) :
    exec (.recoveryExpiry house) s =
      live (fun s => whenDue (recoveryIsOver s house) (recoveryExpired house) s) s := rfl

theorem exec_forgiveExpiry (house : House) (s : State) :
    exec (.forgiveExpiry house) s =
      live (fun s => whenDue (forgiveIsDue s house) (forgive house) s) s := rfl

theorem exec_storeWriteComplete (crcMatches : Bool) (s : State) :
    exec (.storeWriteComplete crcMatches) s =
      live (storeCompletes crcMatches) s := rfl

theorem live_inReset {s : State} (h : s.inReset = true) (f : State → State) : live f s = .next s := by simp [live, h]

theorem live_running {s : State} (h : s.inReset = false) (f : State → State) : live f s = .next (finish (f s)) := by
  simp [live, h]

end Sys2Proof.Machine
end

