-- ==== Sys2Proof/Laws/State.lean ====
section
/-! SUPPORT. The simp lemmas of the record updates: which field of State each leaves alone, true by unfolding, so that no
later proof unfolds an update to read a field it does not write. -/

namespace Sys2Proof.Machine

/-! ### updPump -/

@[simp] theorem updPump_inReset (p : Pump) (f : PumpLive → PumpLive) (s : State) : (updPump p f s).inReset = s.inReset := rfl
@[simp] theorem updPump_attn (p : Pump) (f : PumpLive → PumpLive) (s : State) : (updPump p f s).attn = s.attn := rfl
@[simp] theorem updPump_busDe (p : Pump) (f : PumpLive → PumpLive) (s : State) : (updPump p f s).busDe = s.busDe := rfl
@[simp] theorem updPump_rateCode (p : Pump) (f : PumpLive → PumpLive) (s : State) : (updPump p f s).rateCode = s.rateCode := rfl
@[simp] theorem updPump_restartCause (p : Pump) (f : PumpLive → PumpLive) (s : State) : (updPump p f s).restartCause = s.restartCause := rfl
@[simp] theorem updPump_time (p : Pump) (f : PumpLive → PumpLive) (s : State) : (updPump p f s).time = s.time := rfl
@[simp] theorem updPump_banks (p : Pump) (f : PumpLive → PumpLive) (s : State) : (updPump p f s).banks = s.banks := rfl
@[simp] theorem updPump_store (p : Pump) (f : PumpLive → PumpLive) (s : State) : (updPump p f s).store = s.store := rfl
@[simp] theorem updPump_bus (p : Pump) (f : PumpLive → PumpLive) (s : State) : (updPump p f s).bus = s.bus := rfl
@[simp] theorem updPump_levels (p : Pump) (f : PumpLive → PumpLive) (s : State) : (updPump p f s).levels = s.levels := rfl
@[simp] theorem updPump_hydraulics (p : Pump) (f : PumpLive → PumpLive) (s : State) : (updPump p f s).hydraulics = s.hydraulics := rfl
@[simp] theorem updPump_houses (p : Pump) (f : PumpLive → PumpLive) (s : State) : (updPump p f s).houses = s.houses := rfl
@[simp] theorem updPump_survey (p : Pump) (f : PumpLive → PumpLive) (s : State) : (updPump p f s).survey = s.survey := rfl
@[simp] theorem updPump_feeder (p : Pump) (f : PumpLive → PumpLive) (s : State) : (updPump p f s).feeder = s.feeder := rfl
@[simp] theorem updPump_timetable (p : Pump) (f : PumpLive → PumpLive) (s : State) : (updPump p f s).timetable = s.timetable := rfl
@[simp] theorem updPump_protection (p : Pump) (f : PumpLive → PumpLive) (s : State) : (updPump p f s).protection = s.protection := rfl
@[simp] theorem updPump_noteSets (p : Pump) (f : PumpLive → PumpLive) (s : State) : (updPump p f s).noteSets = s.noteSets := rfl
@[simp] theorem updPump_link (p : Pump) (f : PumpLive → PumpLive) (s : State) : (updPump p f s).link = s.link := rfl
@[simp] theorem updPump_eventQueue (p : Pump) (f : PumpLive → PumpLive) (s : State) : (updPump p f s).eventQueue = s.eventQueue := rfl
@[simp] theorem updPump_work (p : Pump) (f : PumpLive → PumpLive) (s : State) : (updPump p f s).work = s.work := rfl
@[simp] theorem updPump_pending (p : Pump) (f : PumpLive → PumpLive) (s : State) : (updPump p f s).pending = s.pending := rfl

/-! ### updHouse -/

@[simp] theorem updHouse_inReset (h : House) (f : HouseLive → HouseLive) (s : State) : (updHouse h f s).inReset = s.inReset := rfl
@[simp] theorem updHouse_attn (h : House) (f : HouseLive → HouseLive) (s : State) : (updHouse h f s).attn = s.attn := rfl
@[simp] theorem updHouse_busDe (h : House) (f : HouseLive → HouseLive) (s : State) : (updHouse h f s).busDe = s.busDe := rfl
@[simp] theorem updHouse_rateCode (h : House) (f : HouseLive → HouseLive) (s : State) : (updHouse h f s).rateCode = s.rateCode := rfl
@[simp] theorem updHouse_restartCause (h : House) (f : HouseLive → HouseLive) (s : State) : (updHouse h f s).restartCause = s.restartCause := rfl
@[simp] theorem updHouse_time (h : House) (f : HouseLive → HouseLive) (s : State) : (updHouse h f s).time = s.time := rfl
@[simp] theorem updHouse_banks (h : House) (f : HouseLive → HouseLive) (s : State) : (updHouse h f s).banks = s.banks := rfl
@[simp] theorem updHouse_store (h : House) (f : HouseLive → HouseLive) (s : State) : (updHouse h f s).store = s.store := rfl
@[simp] theorem updHouse_bus (h : House) (f : HouseLive → HouseLive) (s : State) : (updHouse h f s).bus = s.bus := rfl
@[simp] theorem updHouse_levels (h : House) (f : HouseLive → HouseLive) (s : State) : (updHouse h f s).levels = s.levels := rfl
@[simp] theorem updHouse_hydraulics (h : House) (f : HouseLive → HouseLive) (s : State) : (updHouse h f s).hydraulics = s.hydraulics := rfl
@[simp] theorem updHouse_pumps (h : House) (f : HouseLive → HouseLive) (s : State) : (updHouse h f s).pumps = s.pumps := rfl
@[simp] theorem updHouse_survey (h : House) (f : HouseLive → HouseLive) (s : State) : (updHouse h f s).survey = s.survey := rfl
@[simp] theorem updHouse_feeder (h : House) (f : HouseLive → HouseLive) (s : State) : (updHouse h f s).feeder = s.feeder := rfl
@[simp] theorem updHouse_timetable (h : House) (f : HouseLive → HouseLive) (s : State) : (updHouse h f s).timetable = s.timetable := rfl
@[simp] theorem updHouse_protection (h : House) (f : HouseLive → HouseLive) (s : State) : (updHouse h f s).protection = s.protection := rfl
@[simp] theorem updHouse_noteSets (h : House) (f : HouseLive → HouseLive) (s : State) : (updHouse h f s).noteSets = s.noteSets := rfl
@[simp] theorem updHouse_link (h : House) (f : HouseLive → HouseLive) (s : State) : (updHouse h f s).link = s.link := rfl
@[simp] theorem updHouse_eventQueue (h : House) (f : HouseLive → HouseLive) (s : State) : (updHouse h f s).eventQueue = s.eventQueue := rfl
@[simp] theorem updHouse_work (h : House) (f : HouseLive → HouseLive) (s : State) : (updHouse h f s).work = s.work := rfl
@[simp] theorem updHouse_pending (h : House) (f : HouseLive → HouseLive) (s : State) : (updHouse h f s).pending = s.pending := rfl

/-! ### updHydraulics -/

@[simp] theorem updHydraulics_inReset (h : House) (f : Hydraulics → Hydraulics) (s : State) : (updHydraulics h f s).inReset = s.inReset := rfl
@[simp] theorem updHydraulics_attn (h : House) (f : Hydraulics → Hydraulics) (s : State) : (updHydraulics h f s).attn = s.attn := rfl
@[simp] theorem updHydraulics_busDe (h : House) (f : Hydraulics → Hydraulics) (s : State) : (updHydraulics h f s).busDe = s.busDe := rfl
@[simp] theorem updHydraulics_rateCode (h : House) (f : Hydraulics → Hydraulics) (s : State) : (updHydraulics h f s).rateCode = s.rateCode := rfl
@[simp] theorem updHydraulics_restartCause (h : House) (f : Hydraulics → Hydraulics) (s : State) : (updHydraulics h f s).restartCause = s.restartCause := rfl
@[simp] theorem updHydraulics_time (h : House) (f : Hydraulics → Hydraulics) (s : State) : (updHydraulics h f s).time = s.time := rfl
@[simp] theorem updHydraulics_banks (h : House) (f : Hydraulics → Hydraulics) (s : State) : (updHydraulics h f s).banks = s.banks := rfl
@[simp] theorem updHydraulics_store (h : House) (f : Hydraulics → Hydraulics) (s : State) : (updHydraulics h f s).store = s.store := rfl
@[simp] theorem updHydraulics_bus (h : House) (f : Hydraulics → Hydraulics) (s : State) : (updHydraulics h f s).bus = s.bus := rfl
@[simp] theorem updHydraulics_levels (h : House) (f : Hydraulics → Hydraulics) (s : State) : (updHydraulics h f s).levels = s.levels := rfl
@[simp] theorem updHydraulics_pumps (h : House) (f : Hydraulics → Hydraulics) (s : State) : (updHydraulics h f s).pumps = s.pumps := rfl
@[simp] theorem updHydraulics_houses (h : House) (f : Hydraulics → Hydraulics) (s : State) : (updHydraulics h f s).houses = s.houses := rfl
@[simp] theorem updHydraulics_survey (h : House) (f : Hydraulics → Hydraulics) (s : State) : (updHydraulics h f s).survey = s.survey := rfl
@[simp] theorem updHydraulics_feeder (h : House) (f : Hydraulics → Hydraulics) (s : State) : (updHydraulics h f s).feeder = s.feeder := rfl
@[simp] theorem updHydraulics_timetable (h : House) (f : Hydraulics → Hydraulics) (s : State) : (updHydraulics h f s).timetable = s.timetable := rfl
@[simp] theorem updHydraulics_protection (h : House) (f : Hydraulics → Hydraulics) (s : State) : (updHydraulics h f s).protection = s.protection := rfl
@[simp] theorem updHydraulics_noteSets (h : House) (f : Hydraulics → Hydraulics) (s : State) : (updHydraulics h f s).noteSets = s.noteSets := rfl
@[simp] theorem updHydraulics_link (h : House) (f : Hydraulics → Hydraulics) (s : State) : (updHydraulics h f s).link = s.link := rfl
@[simp] theorem updHydraulics_eventQueue (h : House) (f : Hydraulics → Hydraulics) (s : State) : (updHydraulics h f s).eventQueue = s.eventQueue := rfl
@[simp] theorem updHydraulics_work (h : House) (f : Hydraulics → Hydraulics) (s : State) : (updHydraulics h f s).work = s.work := rfl
@[simp] theorem updHydraulics_pending (h : House) (f : Hydraulics → Hydraulics) (s : State) : (updHydraulics h f s).pending = s.pending := rfl

/-! ### updProtection -/

@[simp] theorem updProtection_inReset (h : House) (f : Protection → Protection) (s : State) : (updProtection h f s).inReset = s.inReset := rfl
@[simp] theorem updProtection_attn (h : House) (f : Protection → Protection) (s : State) : (updProtection h f s).attn = s.attn := rfl
@[simp] theorem updProtection_busDe (h : House) (f : Protection → Protection) (s : State) : (updProtection h f s).busDe = s.busDe := rfl
@[simp] theorem updProtection_rateCode (h : House) (f : Protection → Protection) (s : State) : (updProtection h f s).rateCode = s.rateCode := rfl
@[simp] theorem updProtection_restartCause (h : House) (f : Protection → Protection) (s : State) : (updProtection h f s).restartCause = s.restartCause := rfl
@[simp] theorem updProtection_time (h : House) (f : Protection → Protection) (s : State) : (updProtection h f s).time = s.time := rfl
@[simp] theorem updProtection_banks (h : House) (f : Protection → Protection) (s : State) : (updProtection h f s).banks = s.banks := rfl
@[simp] theorem updProtection_store (h : House) (f : Protection → Protection) (s : State) : (updProtection h f s).store = s.store := rfl
@[simp] theorem updProtection_bus (h : House) (f : Protection → Protection) (s : State) : (updProtection h f s).bus = s.bus := rfl
@[simp] theorem updProtection_levels (h : House) (f : Protection → Protection) (s : State) : (updProtection h f s).levels = s.levels := rfl
@[simp] theorem updProtection_hydraulics (h : House) (f : Protection → Protection) (s : State) : (updProtection h f s).hydraulics = s.hydraulics := rfl
@[simp] theorem updProtection_pumps (h : House) (f : Protection → Protection) (s : State) : (updProtection h f s).pumps = s.pumps := rfl
@[simp] theorem updProtection_houses (h : House) (f : Protection → Protection) (s : State) : (updProtection h f s).houses = s.houses := rfl
@[simp] theorem updProtection_survey (h : House) (f : Protection → Protection) (s : State) : (updProtection h f s).survey = s.survey := rfl
@[simp] theorem updProtection_feeder (h : House) (f : Protection → Protection) (s : State) : (updProtection h f s).feeder = s.feeder := rfl
@[simp] theorem updProtection_timetable (h : House) (f : Protection → Protection) (s : State) : (updProtection h f s).timetable = s.timetable := rfl
@[simp] theorem updProtection_noteSets (h : House) (f : Protection → Protection) (s : State) : (updProtection h f s).noteSets = s.noteSets := rfl
@[simp] theorem updProtection_link (h : House) (f : Protection → Protection) (s : State) : (updProtection h f s).link = s.link := rfl
@[simp] theorem updProtection_eventQueue (h : House) (f : Protection → Protection) (s : State) : (updProtection h f s).eventQueue = s.eventQueue := rfl
@[simp] theorem updProtection_work (h : House) (f : Protection → Protection) (s : State) : (updProtection h f s).work = s.work := rfl
@[simp] theorem updProtection_pending (h : House) (f : Protection → Protection) (s : State) : (updProtection h f s).pending = s.pending := rfl

/-! ### updLevel -/

@[simp] theorem updLevel_inReset (t : Tank) (f : LevelRecord → LevelRecord) (s : State) : (updLevel t f s).inReset = s.inReset := rfl
@[simp] theorem updLevel_attn (t : Tank) (f : LevelRecord → LevelRecord) (s : State) : (updLevel t f s).attn = s.attn := rfl
@[simp] theorem updLevel_busDe (t : Tank) (f : LevelRecord → LevelRecord) (s : State) : (updLevel t f s).busDe = s.busDe := rfl
@[simp] theorem updLevel_rateCode (t : Tank) (f : LevelRecord → LevelRecord) (s : State) : (updLevel t f s).rateCode = s.rateCode := rfl
@[simp] theorem updLevel_restartCause (t : Tank) (f : LevelRecord → LevelRecord) (s : State) : (updLevel t f s).restartCause = s.restartCause := rfl
@[simp] theorem updLevel_time (t : Tank) (f : LevelRecord → LevelRecord) (s : State) : (updLevel t f s).time = s.time := rfl
@[simp] theorem updLevel_banks (t : Tank) (f : LevelRecord → LevelRecord) (s : State) : (updLevel t f s).banks = s.banks := rfl
@[simp] theorem updLevel_store (t : Tank) (f : LevelRecord → LevelRecord) (s : State) : (updLevel t f s).store = s.store := rfl
@[simp] theorem updLevel_bus (t : Tank) (f : LevelRecord → LevelRecord) (s : State) : (updLevel t f s).bus = s.bus := rfl
@[simp] theorem updLevel_hydraulics (t : Tank) (f : LevelRecord → LevelRecord) (s : State) : (updLevel t f s).hydraulics = s.hydraulics := rfl
@[simp] theorem updLevel_pumps (t : Tank) (f : LevelRecord → LevelRecord) (s : State) : (updLevel t f s).pumps = s.pumps := rfl
@[simp] theorem updLevel_houses (t : Tank) (f : LevelRecord → LevelRecord) (s : State) : (updLevel t f s).houses = s.houses := rfl
@[simp] theorem updLevel_survey (t : Tank) (f : LevelRecord → LevelRecord) (s : State) : (updLevel t f s).survey = s.survey := rfl
@[simp] theorem updLevel_feeder (t : Tank) (f : LevelRecord → LevelRecord) (s : State) : (updLevel t f s).feeder = s.feeder := rfl
@[simp] theorem updLevel_timetable (t : Tank) (f : LevelRecord → LevelRecord) (s : State) : (updLevel t f s).timetable = s.timetable := rfl
@[simp] theorem updLevel_protection (t : Tank) (f : LevelRecord → LevelRecord) (s : State) : (updLevel t f s).protection = s.protection := rfl
@[simp] theorem updLevel_noteSets (t : Tank) (f : LevelRecord → LevelRecord) (s : State) : (updLevel t f s).noteSets = s.noteSets := rfl
@[simp] theorem updLevel_link (t : Tank) (f : LevelRecord → LevelRecord) (s : State) : (updLevel t f s).link = s.link := rfl
@[simp] theorem updLevel_eventQueue (t : Tank) (f : LevelRecord → LevelRecord) (s : State) : (updLevel t f s).eventQueue = s.eventQueue := rfl
@[simp] theorem updLevel_work (t : Tank) (f : LevelRecord → LevelRecord) (s : State) : (updLevel t f s).work = s.work := rfl
@[simp] theorem updLevel_pending (t : Tank) (f : LevelRecord → LevelRecord) (s : State) : (updLevel t f s).pending = s.pending := rfl

/-! ### updStation -/

@[simp] theorem updStation_inReset (st : Station) (f : StationLive → StationLive) (s : State) : (updStation st f s).inReset = s.inReset := rfl
@[simp] theorem updStation_attn (st : Station) (f : StationLive → StationLive) (s : State) : (updStation st f s).attn = s.attn := rfl
@[simp] theorem updStation_busDe (st : Station) (f : StationLive → StationLive) (s : State) : (updStation st f s).busDe = s.busDe := rfl
@[simp] theorem updStation_rateCode (st : Station) (f : StationLive → StationLive) (s : State) : (updStation st f s).rateCode = s.rateCode := rfl
@[simp] theorem updStation_restartCause (st : Station) (f : StationLive → StationLive) (s : State) : (updStation st f s).restartCause = s.restartCause := rfl
@[simp] theorem updStation_time (st : Station) (f : StationLive → StationLive) (s : State) : (updStation st f s).time = s.time := rfl
@[simp] theorem updStation_banks (st : Station) (f : StationLive → StationLive) (s : State) : (updStation st f s).banks = s.banks := rfl
@[simp] theorem updStation_store (st : Station) (f : StationLive → StationLive) (s : State) : (updStation st f s).store = s.store := rfl
@[simp] theorem updStation_levels (st : Station) (f : StationLive → StationLive) (s : State) : (updStation st f s).levels = s.levels := rfl
@[simp] theorem updStation_hydraulics (st : Station) (f : StationLive → StationLive) (s : State) : (updStation st f s).hydraulics = s.hydraulics := rfl
@[simp] theorem updStation_pumps (st : Station) (f : StationLive → StationLive) (s : State) : (updStation st f s).pumps = s.pumps := rfl
@[simp] theorem updStation_houses (st : Station) (f : StationLive → StationLive) (s : State) : (updStation st f s).houses = s.houses := rfl
@[simp] theorem updStation_survey (st : Station) (f : StationLive → StationLive) (s : State) : (updStation st f s).survey = s.survey := rfl
@[simp] theorem updStation_feeder (st : Station) (f : StationLive → StationLive) (s : State) : (updStation st f s).feeder = s.feeder := rfl
@[simp] theorem updStation_timetable (st : Station) (f : StationLive → StationLive) (s : State) : (updStation st f s).timetable = s.timetable := rfl
@[simp] theorem updStation_protection (st : Station) (f : StationLive → StationLive) (s : State) : (updStation st f s).protection = s.protection := rfl
@[simp] theorem updStation_noteSets (st : Station) (f : StationLive → StationLive) (s : State) : (updStation st f s).noteSets = s.noteSets := rfl
@[simp] theorem updStation_link (st : Station) (f : StationLive → StationLive) (s : State) : (updStation st f s).link = s.link := rfl
@[simp] theorem updStation_eventQueue (st : Station) (f : StationLive → StationLive) (s : State) : (updStation st f s).eventQueue = s.eventQueue := rfl
@[simp] theorem updStation_work (st : Station) (f : StationLive → StationLive) (s : State) : (updStation st f s).work = s.work := rfl
@[simp] theorem updStation_pending (st : Station) (f : StationLive → StationLive) (s : State) : (updStation st f s).pending = s.pending := rfl

/-! ### updMeterUnit -/

@[simp] theorem updMeterUnit_inReset (f : MeterUnit → MeterUnit) (s : State) : (updMeterUnit f s).inReset = s.inReset := rfl
@[simp] theorem updMeterUnit_attn (f : MeterUnit → MeterUnit) (s : State) : (updMeterUnit f s).attn = s.attn := rfl
@[simp] theorem updMeterUnit_busDe (f : MeterUnit → MeterUnit) (s : State) : (updMeterUnit f s).busDe = s.busDe := rfl
@[simp] theorem updMeterUnit_rateCode (f : MeterUnit → MeterUnit) (s : State) : (updMeterUnit f s).rateCode = s.rateCode := rfl
@[simp] theorem updMeterUnit_restartCause (f : MeterUnit → MeterUnit) (s : State) : (updMeterUnit f s).restartCause = s.restartCause := rfl
@[simp] theorem updMeterUnit_time (f : MeterUnit → MeterUnit) (s : State) : (updMeterUnit f s).time = s.time := rfl
@[simp] theorem updMeterUnit_banks (f : MeterUnit → MeterUnit) (s : State) : (updMeterUnit f s).banks = s.banks := rfl
@[simp] theorem updMeterUnit_store (f : MeterUnit → MeterUnit) (s : State) : (updMeterUnit f s).store = s.store := rfl
@[simp] theorem updMeterUnit_levels (f : MeterUnit → MeterUnit) (s : State) : (updMeterUnit f s).levels = s.levels := rfl
@[simp] theorem updMeterUnit_hydraulics (f : MeterUnit → MeterUnit) (s : State) : (updMeterUnit f s).hydraulics = s.hydraulics := rfl
@[simp] theorem updMeterUnit_pumps (f : MeterUnit → MeterUnit) (s : State) : (updMeterUnit f s).pumps = s.pumps := rfl
@[simp] theorem updMeterUnit_houses (f : MeterUnit → MeterUnit) (s : State) : (updMeterUnit f s).houses = s.houses := rfl
@[simp] theorem updMeterUnit_survey (f : MeterUnit → MeterUnit) (s : State) : (updMeterUnit f s).survey = s.survey := rfl
@[simp] theorem updMeterUnit_feeder (f : MeterUnit → MeterUnit) (s : State) : (updMeterUnit f s).feeder = s.feeder := rfl
@[simp] theorem updMeterUnit_timetable (f : MeterUnit → MeterUnit) (s : State) : (updMeterUnit f s).timetable = s.timetable := rfl
@[simp] theorem updMeterUnit_protection (f : MeterUnit → MeterUnit) (s : State) : (updMeterUnit f s).protection = s.protection := rfl
@[simp] theorem updMeterUnit_noteSets (f : MeterUnit → MeterUnit) (s : State) : (updMeterUnit f s).noteSets = s.noteSets := rfl
@[simp] theorem updMeterUnit_link (f : MeterUnit → MeterUnit) (s : State) : (updMeterUnit f s).link = s.link := rfl
@[simp] theorem updMeterUnit_eventQueue (f : MeterUnit → MeterUnit) (s : State) : (updMeterUnit f s).eventQueue = s.eventQueue := rfl
@[simp] theorem updMeterUnit_work (f : MeterUnit → MeterUnit) (s : State) : (updMeterUnit f s).work = s.work := rfl
@[simp] theorem updMeterUnit_pending (f : MeterUnit → MeterUnit) (s : State) : (updMeterUnit f s).pending = s.pending := rfl

/-! ### updMeter -/

@[simp] theorem updMeter_inReset (f : MeterRecord → MeterRecord) (s : State) : (updMeter f s).inReset = s.inReset := rfl
@[simp] theorem updMeter_attn (f : MeterRecord → MeterRecord) (s : State) : (updMeter f s).attn = s.attn := rfl
@[simp] theorem updMeter_busDe (f : MeterRecord → MeterRecord) (s : State) : (updMeter f s).busDe = s.busDe := rfl
@[simp] theorem updMeter_rateCode (f : MeterRecord → MeterRecord) (s : State) : (updMeter f s).rateCode = s.rateCode := rfl
@[simp] theorem updMeter_restartCause (f : MeterRecord → MeterRecord) (s : State) : (updMeter f s).restartCause = s.restartCause := rfl
@[simp] theorem updMeter_time (f : MeterRecord → MeterRecord) (s : State) : (updMeter f s).time = s.time := rfl
@[simp] theorem updMeter_banks (f : MeterRecord → MeterRecord) (s : State) : (updMeter f s).banks = s.banks := rfl
@[simp] theorem updMeter_store (f : MeterRecord → MeterRecord) (s : State) : (updMeter f s).store = s.store := rfl
@[simp] theorem updMeter_bus (f : MeterRecord → MeterRecord) (s : State) : (updMeter f s).bus = s.bus := rfl
@[simp] theorem updMeter_levels (f : MeterRecord → MeterRecord) (s : State) : (updMeter f s).levels = s.levels := rfl
@[simp] theorem updMeter_hydraulics (f : MeterRecord → MeterRecord) (s : State) : (updMeter f s).hydraulics = s.hydraulics := rfl
@[simp] theorem updMeter_pumps (f : MeterRecord → MeterRecord) (s : State) : (updMeter f s).pumps = s.pumps := rfl
@[simp] theorem updMeter_houses (f : MeterRecord → MeterRecord) (s : State) : (updMeter f s).houses = s.houses := rfl
@[simp] theorem updMeter_survey (f : MeterRecord → MeterRecord) (s : State) : (updMeter f s).survey = s.survey := rfl
@[simp] theorem updMeter_timetable (f : MeterRecord → MeterRecord) (s : State) : (updMeter f s).timetable = s.timetable := rfl
@[simp] theorem updMeter_protection (f : MeterRecord → MeterRecord) (s : State) : (updMeter f s).protection = s.protection := rfl
@[simp] theorem updMeter_noteSets (f : MeterRecord → MeterRecord) (s : State) : (updMeter f s).noteSets = s.noteSets := rfl
@[simp] theorem updMeter_link (f : MeterRecord → MeterRecord) (s : State) : (updMeter f s).link = s.link := rfl
@[simp] theorem updMeter_eventQueue (f : MeterRecord → MeterRecord) (s : State) : (updMeter f s).eventQueue = s.eventQueue := rfl
@[simp] theorem updMeter_work (f : MeterRecord → MeterRecord) (s : State) : (updMeter f s).work = s.work := rfl
@[simp] theorem updMeter_pending (f : MeterRecord → MeterRecord) (s : State) : (updMeter f s).pending = s.pending := rfl

/-! ### updCounters -/

@[simp] theorem updCounters_inReset (f : LinkCounters → LinkCounters) (s : State) : (updCounters f s).inReset = s.inReset := rfl
@[simp] theorem updCounters_attn (f : LinkCounters → LinkCounters) (s : State) : (updCounters f s).attn = s.attn := rfl
@[simp] theorem updCounters_busDe (f : LinkCounters → LinkCounters) (s : State) : (updCounters f s).busDe = s.busDe := rfl
@[simp] theorem updCounters_rateCode (f : LinkCounters → LinkCounters) (s : State) : (updCounters f s).rateCode = s.rateCode := rfl
@[simp] theorem updCounters_restartCause (f : LinkCounters → LinkCounters) (s : State) : (updCounters f s).restartCause = s.restartCause := rfl
@[simp] theorem updCounters_time (f : LinkCounters → LinkCounters) (s : State) : (updCounters f s).time = s.time := rfl
@[simp] theorem updCounters_banks (f : LinkCounters → LinkCounters) (s : State) : (updCounters f s).banks = s.banks := rfl
@[simp] theorem updCounters_store (f : LinkCounters → LinkCounters) (s : State) : (updCounters f s).store = s.store := rfl
@[simp] theorem updCounters_bus (f : LinkCounters → LinkCounters) (s : State) : (updCounters f s).bus = s.bus := rfl
@[simp] theorem updCounters_levels (f : LinkCounters → LinkCounters) (s : State) : (updCounters f s).levels = s.levels := rfl
@[simp] theorem updCounters_hydraulics (f : LinkCounters → LinkCounters) (s : State) : (updCounters f s).hydraulics = s.hydraulics := rfl
@[simp] theorem updCounters_pumps (f : LinkCounters → LinkCounters) (s : State) : (updCounters f s).pumps = s.pumps := rfl
@[simp] theorem updCounters_houses (f : LinkCounters → LinkCounters) (s : State) : (updCounters f s).houses = s.houses := rfl
@[simp] theorem updCounters_survey (f : LinkCounters → LinkCounters) (s : State) : (updCounters f s).survey = s.survey := rfl
@[simp] theorem updCounters_feeder (f : LinkCounters → LinkCounters) (s : State) : (updCounters f s).feeder = s.feeder := rfl
@[simp] theorem updCounters_timetable (f : LinkCounters → LinkCounters) (s : State) : (updCounters f s).timetable = s.timetable := rfl
@[simp] theorem updCounters_protection (f : LinkCounters → LinkCounters) (s : State) : (updCounters f s).protection = s.protection := rfl
@[simp] theorem updCounters_noteSets (f : LinkCounters → LinkCounters) (s : State) : (updCounters f s).noteSets = s.noteSets := rfl
@[simp] theorem updCounters_eventQueue (f : LinkCounters → LinkCounters) (s : State) : (updCounters f s).eventQueue = s.eventQueue := rfl
@[simp] theorem updCounters_work (f : LinkCounters → LinkCounters) (s : State) : (updCounters f s).work = s.work := rfl
@[simp] theorem updCounters_pending (f : LinkCounters → LinkCounters) (s : State) : (updCounters f s).pending = s.pending := rfl

/-! ### notice -/

@[simp] theorem notice_inReset (h : House) (s : State) : (notice h s).inReset = s.inReset := rfl
@[simp] theorem notice_attn (h : House) (s : State) : (notice h s).attn = s.attn := rfl
@[simp] theorem notice_busDe (h : House) (s : State) : (notice h s).busDe = s.busDe := rfl
@[simp] theorem notice_rateCode (h : House) (s : State) : (notice h s).rateCode = s.rateCode := rfl
@[simp] theorem notice_restartCause (h : House) (s : State) : (notice h s).restartCause = s.restartCause := rfl
@[simp] theorem notice_time (h : House) (s : State) : (notice h s).time = s.time := rfl
@[simp] theorem notice_banks (h : House) (s : State) : (notice h s).banks = s.banks := rfl
@[simp] theorem notice_store (h : House) (s : State) : (notice h s).store = s.store := rfl
@[simp] theorem notice_bus (h : House) (s : State) : (notice h s).bus = s.bus := rfl
@[simp] theorem notice_levels (h : House) (s : State) : (notice h s).levels = s.levels := rfl
@[simp] theorem notice_hydraulics (h : House) (s : State) : (notice h s).hydraulics = s.hydraulics := rfl
@[simp] theorem notice_pumps (h : House) (s : State) : (notice h s).pumps = s.pumps := rfl
@[simp] theorem notice_houses (h : House) (s : State) : (notice h s).houses = s.houses := rfl
@[simp] theorem notice_survey (h : House) (s : State) : (notice h s).survey = s.survey := rfl
@[simp] theorem notice_feeder (h : House) (s : State) : (notice h s).feeder = s.feeder := rfl
@[simp] theorem notice_timetable (h : House) (s : State) : (notice h s).timetable = s.timetable := rfl
@[simp] theorem notice_protection (h : House) (s : State) : (notice h s).protection = s.protection := rfl
@[simp] theorem notice_noteSets (h : House) (s : State) : (notice h s).noteSets = s.noteSets := rfl
@[simp] theorem notice_link (h : House) (s : State) : (notice h s).link = s.link := rfl
@[simp] theorem notice_eventQueue (h : House) (s : State) : (notice h s).eventQueue = s.eventQueue := rfl
@[simp] theorem notice_pending (h : House) (s : State) : (notice h s).pending = s.pending := rfl

/-! ### triggerPass -/

@[simp] theorem triggerPass_inReset (s : State) : (triggerPass s).inReset = s.inReset := rfl
@[simp] theorem triggerPass_attn (s : State) : (triggerPass s).attn = s.attn := rfl
@[simp] theorem triggerPass_busDe (s : State) : (triggerPass s).busDe = s.busDe := rfl
@[simp] theorem triggerPass_rateCode (s : State) : (triggerPass s).rateCode = s.rateCode := rfl
@[simp] theorem triggerPass_restartCause (s : State) : (triggerPass s).restartCause = s.restartCause := rfl
@[simp] theorem triggerPass_time (s : State) : (triggerPass s).time = s.time := rfl
@[simp] theorem triggerPass_banks (s : State) : (triggerPass s).banks = s.banks := rfl
@[simp] theorem triggerPass_store (s : State) : (triggerPass s).store = s.store := rfl
@[simp] theorem triggerPass_bus (s : State) : (triggerPass s).bus = s.bus := rfl
@[simp] theorem triggerPass_levels (s : State) : (triggerPass s).levels = s.levels := rfl
@[simp] theorem triggerPass_hydraulics (s : State) : (triggerPass s).hydraulics = s.hydraulics := rfl
@[simp] theorem triggerPass_pumps (s : State) : (triggerPass s).pumps = s.pumps := rfl
@[simp] theorem triggerPass_houses (s : State) : (triggerPass s).houses = s.houses := rfl
@[simp] theorem triggerPass_survey (s : State) : (triggerPass s).survey = s.survey := rfl
@[simp] theorem triggerPass_feeder (s : State) : (triggerPass s).feeder = s.feeder := rfl
@[simp] theorem triggerPass_timetable (s : State) : (triggerPass s).timetable = s.timetable := rfl
@[simp] theorem triggerPass_protection (s : State) : (triggerPass s).protection = s.protection := rfl
@[simp] theorem triggerPass_noteSets (s : State) : (triggerPass s).noteSets = s.noteSets := rfl
@[simp] theorem triggerPass_link (s : State) : (triggerPass s).link = s.link := rfl
@[simp] theorem triggerPass_eventQueue (s : State) : (triggerPass s).eventQueue = s.eventQueue := rfl
@[simp] theorem triggerPass_pending (s : State) : (triggerPass s).pending = s.pending := rfl

/-! ### callShedTest -/

@[simp] theorem callShedTest_inReset (s : State) : (callShedTest s).inReset = s.inReset := rfl
@[simp] theorem callShedTest_attn (s : State) : (callShedTest s).attn = s.attn := rfl
@[simp] theorem callShedTest_busDe (s : State) : (callShedTest s).busDe = s.busDe := rfl
@[simp] theorem callShedTest_rateCode (s : State) : (callShedTest s).rateCode = s.rateCode := rfl
@[simp] theorem callShedTest_restartCause (s : State) : (callShedTest s).restartCause = s.restartCause := rfl
@[simp] theorem callShedTest_time (s : State) : (callShedTest s).time = s.time := rfl
@[simp] theorem callShedTest_banks (s : State) : (callShedTest s).banks = s.banks := rfl
@[simp] theorem callShedTest_store (s : State) : (callShedTest s).store = s.store := rfl
@[simp] theorem callShedTest_bus (s : State) : (callShedTest s).bus = s.bus := rfl
@[simp] theorem callShedTest_levels (s : State) : (callShedTest s).levels = s.levels := rfl
@[simp] theorem callShedTest_hydraulics (s : State) : (callShedTest s).hydraulics = s.hydraulics := rfl
@[simp] theorem callShedTest_pumps (s : State) : (callShedTest s).pumps = s.pumps := rfl
@[simp] theorem callShedTest_houses (s : State) : (callShedTest s).houses = s.houses := rfl
@[simp] theorem callShedTest_survey (s : State) : (callShedTest s).survey = s.survey := rfl
@[simp] theorem callShedTest_feeder (s : State) : (callShedTest s).feeder = s.feeder := rfl
@[simp] theorem callShedTest_timetable (s : State) : (callShedTest s).timetable = s.timetable := rfl
@[simp] theorem callShedTest_protection (s : State) : (callShedTest s).protection = s.protection := rfl
@[simp] theorem callShedTest_noteSets (s : State) : (callShedTest s).noteSets = s.noteSets := rfl
@[simp] theorem callShedTest_link (s : State) : (callShedTest s).link = s.link := rfl
@[simp] theorem callShedTest_eventQueue (s : State) : (callShedTest s).eventQueue = s.eventQueue := rfl
@[simp] theorem callShedTest_pending (s : State) : (callShedTest s).pending = s.pending := rfl

/-! ### resum -/

@[simp] theorem resum_inReset (s : State) : (resum s).inReset = s.inReset := rfl
@[simp] theorem resum_attn (s : State) : (resum s).attn = s.attn := rfl
@[simp] theorem resum_busDe (s : State) : (resum s).busDe = s.busDe := rfl
@[simp] theorem resum_rateCode (s : State) : (resum s).rateCode = s.rateCode := rfl
@[simp] theorem resum_restartCause (s : State) : (resum s).restartCause = s.restartCause := rfl
@[simp] theorem resum_time (s : State) : (resum s).time = s.time := rfl
@[simp] theorem resum_banks (s : State) : (resum s).banks = s.banks := rfl
@[simp] theorem resum_store (s : State) : (resum s).store = s.store := rfl
@[simp] theorem resum_bus (s : State) : (resum s).bus = s.bus := rfl
@[simp] theorem resum_levels (s : State) : (resum s).levels = s.levels := rfl
@[simp] theorem resum_hydraulics (s : State) : (resum s).hydraulics = s.hydraulics := rfl
@[simp] theorem resum_pumps (s : State) : (resum s).pumps = s.pumps := rfl
@[simp] theorem resum_houses (s : State) : (resum s).houses = s.houses := rfl
@[simp] theorem resum_survey (s : State) : (resum s).survey = s.survey := rfl
@[simp] theorem resum_timetable (s : State) : (resum s).timetable = s.timetable := rfl
@[simp] theorem resum_protection (s : State) : (resum s).protection = s.protection := rfl
@[simp] theorem resum_noteSets (s : State) : (resum s).noteSets = s.noteSets := rfl
@[simp] theorem resum_link (s : State) : (resum s).link = s.link := rfl
@[simp] theorem resum_eventQueue (s : State) : (resum s).eventQueue = s.eventQueue := rfl
@[simp] theorem resum_pending (s : State) : (resum s).pending = s.pending := rfl

/-! ### resumQuietly -/

@[simp] theorem resumQuietly_inReset (s : State) : (resumQuietly s).inReset = s.inReset := rfl
@[simp] theorem resumQuietly_attn (s : State) : (resumQuietly s).attn = s.attn := rfl
@[simp] theorem resumQuietly_busDe (s : State) : (resumQuietly s).busDe = s.busDe := rfl
@[simp] theorem resumQuietly_rateCode (s : State) : (resumQuietly s).rateCode = s.rateCode := rfl
@[simp] theorem resumQuietly_restartCause (s : State) : (resumQuietly s).restartCause = s.restartCause := rfl
@[simp] theorem resumQuietly_time (s : State) : (resumQuietly s).time = s.time := rfl
@[simp] theorem resumQuietly_banks (s : State) : (resumQuietly s).banks = s.banks := rfl
@[simp] theorem resumQuietly_store (s : State) : (resumQuietly s).store = s.store := rfl
@[simp] theorem resumQuietly_bus (s : State) : (resumQuietly s).bus = s.bus := rfl
@[simp] theorem resumQuietly_levels (s : State) : (resumQuietly s).levels = s.levels := rfl
@[simp] theorem resumQuietly_hydraulics (s : State) : (resumQuietly s).hydraulics = s.hydraulics := rfl
@[simp] theorem resumQuietly_pumps (s : State) : (resumQuietly s).pumps = s.pumps := rfl
@[simp] theorem resumQuietly_houses (s : State) : (resumQuietly s).houses = s.houses := rfl
@[simp] theorem resumQuietly_survey (s : State) : (resumQuietly s).survey = s.survey := rfl
@[simp] theorem resumQuietly_timetable (s : State) : (resumQuietly s).timetable = s.timetable := rfl
@[simp] theorem resumQuietly_protection (s : State) : (resumQuietly s).protection = s.protection := rfl
@[simp] theorem resumQuietly_noteSets (s : State) : (resumQuietly s).noteSets = s.noteSets := rfl
@[simp] theorem resumQuietly_link (s : State) : (resumQuietly s).link = s.link := rfl
@[simp] theorem resumQuietly_eventQueue (s : State) : (resumQuietly s).eventQueue = s.eventQueue := rfl
@[simp] theorem resumQuietly_pending (s : State) : (resumQuietly s).pending = s.pending := rfl

/-! ### leaveStartQueue -/

@[simp] theorem leaveStartQueue_inReset (p : Pump) (s : State) : (leaveStartQueue p s).inReset = s.inReset := rfl
@[simp] theorem leaveStartQueue_attn (p : Pump) (s : State) : (leaveStartQueue p s).attn = s.attn := rfl
@[simp] theorem leaveStartQueue_busDe (p : Pump) (s : State) : (leaveStartQueue p s).busDe = s.busDe := rfl
@[simp] theorem leaveStartQueue_rateCode (p : Pump) (s : State) : (leaveStartQueue p s).rateCode = s.rateCode := rfl
@[simp] theorem leaveStartQueue_restartCause (p : Pump) (s : State) : (leaveStartQueue p s).restartCause = s.restartCause := rfl
@[simp] theorem leaveStartQueue_time (p : Pump) (s : State) : (leaveStartQueue p s).time = s.time := rfl
@[simp] theorem leaveStartQueue_banks (p : Pump) (s : State) : (leaveStartQueue p s).banks = s.banks := rfl
@[simp] theorem leaveStartQueue_store (p : Pump) (s : State) : (leaveStartQueue p s).store = s.store := rfl
@[simp] theorem leaveStartQueue_bus (p : Pump) (s : State) : (leaveStartQueue p s).bus = s.bus := rfl
@[simp] theorem leaveStartQueue_levels (p : Pump) (s : State) : (leaveStartQueue p s).levels = s.levels := rfl
@[simp] theorem leaveStartQueue_hydraulics (p : Pump) (s : State) : (leaveStartQueue p s).hydraulics = s.hydraulics := rfl
@[simp] theorem leaveStartQueue_pumps (p : Pump) (s : State) : (leaveStartQueue p s).pumps = s.pumps := rfl
@[simp] theorem leaveStartQueue_houses (p : Pump) (s : State) : (leaveStartQueue p s).houses = s.houses := rfl
@[simp] theorem leaveStartQueue_survey (p : Pump) (s : State) : (leaveStartQueue p s).survey = s.survey := rfl
@[simp] theorem leaveStartQueue_timetable (p : Pump) (s : State) : (leaveStartQueue p s).timetable = s.timetable := rfl
@[simp] theorem leaveStartQueue_protection (p : Pump) (s : State) : (leaveStartQueue p s).protection = s.protection := rfl
@[simp] theorem leaveStartQueue_noteSets (p : Pump) (s : State) : (leaveStartQueue p s).noteSets = s.noteSets := rfl
@[simp] theorem leaveStartQueue_link (p : Pump) (s : State) : (leaveStartQueue p s).link = s.link := rfl
@[simp] theorem leaveStartQueue_eventQueue (p : Pump) (s : State) : (leaveStartQueue p s).eventQueue = s.eventQueue := rfl
@[simp] theorem leaveStartQueue_work (p : Pump) (s : State) : (leaveStartQueue p s).work = s.work := rfl
@[simp] theorem leaveStartQueue_pending (p : Pump) (s : State) : (leaveStartQueue p s).pending = s.pending := rfl

/-! ### The transmit queue -/

/-- Sending an entry writes the bus alone. -/
theorem send_bus_only (e : TxEntry) (s : State) : send e s = { s with bus := (send e s).bus } := by
  unfold send stepTag
  split <;> rfl

/-- The start of a transaction writes the bus alone. -/
theorem startTransaction_bus_only (s : State) : startTransaction s = { s with bus := (startTransaction s).bus } := by
  unfold startTransaction
  split
  · split
    · rfl
    · exact send_bus_only _ s
  · rfl

/-- A join writes the bus alone, whether or not it starts a transaction. -/
theorem joinTransmit_bus_only (u : BusUnit) (c : TxClass) (o : Option Order) (s : State) :
    joinTransmit u c o s = { s with bus := (joinTransmit u c o s).bus } := by
  unfold joinTransmit
  dsimp only
  split
  · rfl
  · exact startTransaction_bus_only (enqueue u c o s)

@[simp] theorem startTransaction_inReset (s : State) : (startTransaction s).inReset = s.inReset := (congrArg State.inReset (startTransaction_bus_only s) :)
@[simp] theorem startTransaction_attn (s : State) : (startTransaction s).attn = s.attn := (congrArg State.attn (startTransaction_bus_only s) :)
@[simp] theorem startTransaction_busDe (s : State) : (startTransaction s).busDe = s.busDe := (congrArg State.busDe (startTransaction_bus_only s) :)
@[simp] theorem startTransaction_rateCode (s : State) : (startTransaction s).rateCode = s.rateCode := (congrArg State.rateCode (startTransaction_bus_only s) :)
@[simp] theorem startTransaction_restartCause (s : State) : (startTransaction s).restartCause = s.restartCause := (congrArg State.restartCause (startTransaction_bus_only s) :)
@[simp] theorem startTransaction_time (s : State) : (startTransaction s).time = s.time := (congrArg State.time (startTransaction_bus_only s) :)
@[simp] theorem startTransaction_banks (s : State) : (startTransaction s).banks = s.banks := (congrArg State.banks (startTransaction_bus_only s) :)
@[simp] theorem startTransaction_store (s : State) : (startTransaction s).store = s.store := (congrArg State.store (startTransaction_bus_only s) :)
@[simp] theorem startTransaction_levels (s : State) : (startTransaction s).levels = s.levels := (congrArg State.levels (startTransaction_bus_only s) :)
@[simp] theorem startTransaction_hydraulics (s : State) : (startTransaction s).hydraulics = s.hydraulics := (congrArg State.hydraulics (startTransaction_bus_only s) :)
@[simp] theorem startTransaction_pumps (s : State) : (startTransaction s).pumps = s.pumps := (congrArg State.pumps (startTransaction_bus_only s) :)
@[simp] theorem startTransaction_houses (s : State) : (startTransaction s).houses = s.houses := (congrArg State.houses (startTransaction_bus_only s) :)
@[simp] theorem startTransaction_survey (s : State) : (startTransaction s).survey = s.survey := (congrArg State.survey (startTransaction_bus_only s) :)
@[simp] theorem startTransaction_feeder (s : State) : (startTransaction s).feeder = s.feeder := (congrArg State.feeder (startTransaction_bus_only s) :)
@[simp] theorem startTransaction_timetable (s : State) : (startTransaction s).timetable = s.timetable := (congrArg State.timetable (startTransaction_bus_only s) :)
@[simp] theorem startTransaction_protection (s : State) : (startTransaction s).protection = s.protection := (congrArg State.protection (startTransaction_bus_only s) :)
@[simp] theorem startTransaction_noteSets (s : State) : (startTransaction s).noteSets = s.noteSets := (congrArg State.noteSets (startTransaction_bus_only s) :)
@[simp] theorem startTransaction_link (s : State) : (startTransaction s).link = s.link := (congrArg State.link (startTransaction_bus_only s) :)
@[simp] theorem startTransaction_eventQueue (s : State) : (startTransaction s).eventQueue = s.eventQueue := (congrArg State.eventQueue (startTransaction_bus_only s) :)
@[simp] theorem startTransaction_work (s : State) : (startTransaction s).work = s.work := (congrArg State.work (startTransaction_bus_only s) :)
@[simp] theorem startTransaction_pending (s : State) : (startTransaction s).pending = s.pending := (congrArg State.pending (startTransaction_bus_only s) :)

@[simp] theorem joinTransmit_inReset (u : BusUnit) (c : TxClass) (o : Option Order) (s : State) : (joinTransmit u c o s).inReset = s.inReset := (congrArg State.inReset (joinTransmit_bus_only u c o s) :)
@[simp] theorem joinTransmit_attn (u : BusUnit) (c : TxClass) (o : Option Order) (s : State) : (joinTransmit u c o s).attn = s.attn := (congrArg State.attn (joinTransmit_bus_only u c o s) :)
@[simp] theorem joinTransmit_busDe (u : BusUnit) (c : TxClass) (o : Option Order) (s : State) : (joinTransmit u c o s).busDe = s.busDe := (congrArg State.busDe (joinTransmit_bus_only u c o s) :)
@[simp] theorem joinTransmit_rateCode (u : BusUnit) (c : TxClass) (o : Option Order) (s : State) : (joinTransmit u c o s).rateCode = s.rateCode := (congrArg State.rateCode (joinTransmit_bus_only u c o s) :)
@[simp] theorem joinTransmit_restartCause (u : BusUnit) (c : TxClass) (o : Option Order) (s : State) : (joinTransmit u c o s).restartCause = s.restartCause := (congrArg State.restartCause (joinTransmit_bus_only u c o s) :)
@[simp] theorem joinTransmit_time (u : BusUnit) (c : TxClass) (o : Option Order) (s : State) : (joinTransmit u c o s).time = s.time := (congrArg State.time (joinTransmit_bus_only u c o s) :)
@[simp] theorem joinTransmit_banks (u : BusUnit) (c : TxClass) (o : Option Order) (s : State) : (joinTransmit u c o s).banks = s.banks := (congrArg State.banks (joinTransmit_bus_only u c o s) :)
@[simp] theorem joinTransmit_store (u : BusUnit) (c : TxClass) (o : Option Order) (s : State) : (joinTransmit u c o s).store = s.store := (congrArg State.store (joinTransmit_bus_only u c o s) :)
@[simp] theorem joinTransmit_levels (u : BusUnit) (c : TxClass) (o : Option Order) (s : State) : (joinTransmit u c o s).levels = s.levels := (congrArg State.levels (joinTransmit_bus_only u c o s) :)
@[simp] theorem joinTransmit_hydraulics (u : BusUnit) (c : TxClass) (o : Option Order) (s : State) : (joinTransmit u c o s).hydraulics = s.hydraulics := (congrArg State.hydraulics (joinTransmit_bus_only u c o s) :)
@[simp] theorem joinTransmit_pumps (u : BusUnit) (c : TxClass) (o : Option Order) (s : State) : (joinTransmit u c o s).pumps = s.pumps := (congrArg State.pumps (joinTransmit_bus_only u c o s) :)
@[simp] theorem joinTransmit_houses (u : BusUnit) (c : TxClass) (o : Option Order) (s : State) : (joinTransmit u c o s).houses = s.houses := (congrArg State.houses (joinTransmit_bus_only u c o s) :)
@[simp] theorem joinTransmit_survey (u : BusUnit) (c : TxClass) (o : Option Order) (s : State) : (joinTransmit u c o s).survey = s.survey := (congrArg State.survey (joinTransmit_bus_only u c o s) :)
@[simp] theorem joinTransmit_feeder (u : BusUnit) (c : TxClass) (o : Option Order) (s : State) : (joinTransmit u c o s).feeder = s.feeder := (congrArg State.feeder (joinTransmit_bus_only u c o s) :)
@[simp] theorem joinTransmit_timetable (u : BusUnit) (c : TxClass) (o : Option Order) (s : State) : (joinTransmit u c o s).timetable = s.timetable := (congrArg State.timetable (joinTransmit_bus_only u c o s) :)
@[simp] theorem joinTransmit_protection (u : BusUnit) (c : TxClass) (o : Option Order) (s : State) : (joinTransmit u c o s).protection = s.protection := (congrArg State.protection (joinTransmit_bus_only u c o s) :)
@[simp] theorem joinTransmit_noteSets (u : BusUnit) (c : TxClass) (o : Option Order) (s : State) : (joinTransmit u c o s).noteSets = s.noteSets := (congrArg State.noteSets (joinTransmit_bus_only u c o s) :)
@[simp] theorem joinTransmit_link (u : BusUnit) (c : TxClass) (o : Option Order) (s : State) : (joinTransmit u c o s).link = s.link := (congrArg State.link (joinTransmit_bus_only u c o s) :)
@[simp] theorem joinTransmit_eventQueue (u : BusUnit) (c : TxClass) (o : Option Order) (s : State) : (joinTransmit u c o s).eventQueue = s.eventQueue := (congrArg State.eventQueue (joinTransmit_bus_only u c o s) :)
@[simp] theorem joinTransmit_work (u : BusUnit) (c : TxClass) (o : Option Order) (s : State) : (joinTransmit u c o s).work = s.work := (congrArg State.work (joinTransmit_bus_only u c o s) :)
@[simp] theorem joinTransmit_pending (u : BusUnit) (c : TxClass) (o : Option Order) (s : State) : (joinTransmit u c o s).pending = s.pending := (congrArg State.pending (joinTransmit_bus_only u c o s) :)

/-! ### withdrawOrder -/

@[simp] theorem withdrawOrder_inReset (p : Pump) (s : State) : (withdrawOrder p s).inReset = s.inReset := rfl
@[simp] theorem withdrawOrder_attn (p : Pump) (s : State) : (withdrawOrder p s).attn = s.attn := rfl
@[simp] theorem withdrawOrder_busDe (p : Pump) (s : State) : (withdrawOrder p s).busDe = s.busDe := rfl
@[simp] theorem withdrawOrder_rateCode (p : Pump) (s : State) : (withdrawOrder p s).rateCode = s.rateCode := rfl
@[simp] theorem withdrawOrder_restartCause (p : Pump) (s : State) : (withdrawOrder p s).restartCause = s.restartCause := rfl
@[simp] theorem withdrawOrder_time (p : Pump) (s : State) : (withdrawOrder p s).time = s.time := rfl
@[simp] theorem withdrawOrder_banks (p : Pump) (s : State) : (withdrawOrder p s).banks = s.banks := rfl
@[simp] theorem withdrawOrder_store (p : Pump) (s : State) : (withdrawOrder p s).store = s.store := rfl
@[simp] theorem withdrawOrder_levels (p : Pump) (s : State) : (withdrawOrder p s).levels = s.levels := rfl
@[simp] theorem withdrawOrder_hydraulics (p : Pump) (s : State) : (withdrawOrder p s).hydraulics = s.hydraulics := rfl
@[simp] theorem withdrawOrder_pumps (p : Pump) (s : State) : (withdrawOrder p s).pumps = s.pumps := rfl
@[simp] theorem withdrawOrder_houses (p : Pump) (s : State) : (withdrawOrder p s).houses = s.houses := rfl
@[simp] theorem withdrawOrder_survey (p : Pump) (s : State) : (withdrawOrder p s).survey = s.survey := rfl
@[simp] theorem withdrawOrder_feeder (p : Pump) (s : State) : (withdrawOrder p s).feeder = s.feeder := rfl
@[simp] theorem withdrawOrder_timetable (p : Pump) (s : State) : (withdrawOrder p s).timetable = s.timetable := rfl
@[simp] theorem withdrawOrder_protection (p : Pump) (s : State) : (withdrawOrder p s).protection = s.protection := rfl
@[simp] theorem withdrawOrder_noteSets (p : Pump) (s : State) : (withdrawOrder p s).noteSets = s.noteSets := rfl
@[simp] theorem withdrawOrder_link (p : Pump) (s : State) : (withdrawOrder p s).link = s.link := rfl
@[simp] theorem withdrawOrder_eventQueue (p : Pump) (s : State) : (withdrawOrder p s).eventQueue = s.eventQueue := rfl
@[simp] theorem withdrawOrder_work (p : Pump) (s : State) : (withdrawOrder p s).work = s.work := rfl
@[simp] theorem withdrawOrder_pending (p : Pump) (s : State) : (withdrawOrder p s).pending = s.pending := rfl

/-! ### recordPass -/

@[simp] theorem recordPass_inReset (r : PassRecord) (s : State) : (recordPass r s).inReset = s.inReset := rfl
@[simp] theorem recordPass_attn (r : PassRecord) (s : State) : (recordPass r s).attn = s.attn := rfl
@[simp] theorem recordPass_busDe (r : PassRecord) (s : State) : (recordPass r s).busDe = s.busDe := rfl
@[simp] theorem recordPass_rateCode (r : PassRecord) (s : State) : (recordPass r s).rateCode = s.rateCode := rfl
@[simp] theorem recordPass_restartCause (r : PassRecord) (s : State) : (recordPass r s).restartCause = s.restartCause := rfl
@[simp] theorem recordPass_time (r : PassRecord) (s : State) : (recordPass r s).time = s.time := rfl
@[simp] theorem recordPass_banks (r : PassRecord) (s : State) : (recordPass r s).banks = s.banks := rfl
@[simp] theorem recordPass_store (r : PassRecord) (s : State) : (recordPass r s).store = s.store := rfl
@[simp] theorem recordPass_bus (r : PassRecord) (s : State) : (recordPass r s).bus = s.bus := rfl
@[simp] theorem recordPass_levels (r : PassRecord) (s : State) : (recordPass r s).levels = s.levels := rfl
@[simp] theorem recordPass_hydraulics (r : PassRecord) (s : State) : (recordPass r s).hydraulics = s.hydraulics := rfl
@[simp] theorem recordPass_pumps (r : PassRecord) (s : State) : (recordPass r s).pumps = s.pumps := rfl
@[simp] theorem recordPass_houses (r : PassRecord) (s : State) : (recordPass r s).houses = s.houses := rfl
@[simp] theorem recordPass_survey (r : PassRecord) (s : State) : (recordPass r s).survey = s.survey := rfl
@[simp] theorem recordPass_timetable (r : PassRecord) (s : State) : (recordPass r s).timetable = s.timetable := rfl
@[simp] theorem recordPass_protection (r : PassRecord) (s : State) : (recordPass r s).protection = s.protection := rfl
@[simp] theorem recordPass_noteSets (r : PassRecord) (s : State) : (recordPass r s).noteSets = s.noteSets := rfl
@[simp] theorem recordPass_link (r : PassRecord) (s : State) : (recordPass r s).link = s.link := rfl
@[simp] theorem recordPass_eventQueue (r : PassRecord) (s : State) : (recordPass r s).eventQueue = s.eventQueue := rfl
@[simp] theorem recordPass_work (r : PassRecord) (s : State) : (recordPass r s).work = s.work := rfl
@[simp] theorem recordPass_pending (r : PassRecord) (s : State) : (recordPass r s).pending = s.pending := rfl

/-! ### What an update writes -/

@[simp] theorem updPump_pumps (p : Pump) (f : PumpLive → PumpLive) (s : State) :
    (updPump p f s).pumps = s.pumps.set p (f s.pumps[p]) := rfl

@[simp] theorem updHouse_houses (h : House) (f : HouseLive → HouseLive) (s : State) :
    (updHouse h f s).houses = s.houses.set h (f s.houses[h]) := rfl

@[simp] theorem updHydraulics_hydraulics (h : House) (f : Hydraulics → Hydraulics) (s : State) :
    (updHydraulics h f s).hydraulics = s.hydraulics.set h (f s.hydraulics[h]) := rfl

@[simp] theorem updProtection_protection (h : House) (f : Protection → Protection) (s : State) :
    (updProtection h f s).protection = s.protection.set h (f s.protection[h]) := rfl

@[simp] theorem updLevel_levels (t : Tank) (f : LevelRecord → LevelRecord) (s : State) :
    (updLevel t f s).levels = s.levels.set t (f s.levels[t]) := rfl

@[simp] theorem updStation_stations (st : Station) (f : StationLive → StationLive) (s : State) :
    (updStation st f s).bus.stations = s.bus.stations.set st (f s.bus.stations[st]) := rfl

@[simp] theorem updMeter_meter (f : MeterRecord → MeterRecord) (s : State) :
    (updMeter f s).feeder.meter = f s.feeder.meter := rfl

/-! ### raise -/

@[simp] theorem raise_inReset (k : EventKind) (h : Option House) (p : Option Pump) (t : Option Tank) (v w : Nat) (s : State) :
    (raise k h p t v w s).inReset = s.inReset := rfl
@[simp] theorem raise_attn (k : EventKind) (h : Option House) (p : Option Pump) (t : Option Tank) (v w : Nat) (s : State) :
    (raise k h p t v w s).attn = s.attn := rfl
@[simp] theorem raise_busDe (k : EventKind) (h : Option House) (p : Option Pump) (t : Option Tank) (v w : Nat) (s : State) :
    (raise k h p t v w s).busDe = s.busDe := rfl
@[simp] theorem raise_rateCode (k : EventKind) (h : Option House) (p : Option Pump) (t : Option Tank) (v w : Nat) (s : State) :
    (raise k h p t v w s).rateCode = s.rateCode := rfl
@[simp] theorem raise_restartCause (k : EventKind) (h : Option House) (p : Option Pump) (t : Option Tank) (v w : Nat) (s : State) :
    (raise k h p t v w s).restartCause = s.restartCause := rfl
@[simp] theorem raise_time (k : EventKind) (h : Option House) (p : Option Pump) (t : Option Tank) (v w : Nat) (s : State) :
    (raise k h p t v w s).time = s.time := rfl
@[simp] theorem raise_banks (k : EventKind) (h : Option House) (p : Option Pump) (t : Option Tank) (v w : Nat) (s : State) :
    (raise k h p t v w s).banks = s.banks := rfl
@[simp] theorem raise_store (k : EventKind) (h : Option House) (p : Option Pump) (t : Option Tank) (v w : Nat) (s : State) :
    (raise k h p t v w s).store = s.store := rfl
@[simp] theorem raise_bus (k : EventKind) (h : Option House) (p : Option Pump) (t : Option Tank) (v w : Nat) (s : State) :
    (raise k h p t v w s).bus = s.bus := rfl
@[simp] theorem raise_levels (k : EventKind) (h : Option House) (p : Option Pump) (t : Option Tank) (v w : Nat) (s : State) :
    (raise k h p t v w s).levels = s.levels := rfl
@[simp] theorem raise_hydraulics (k : EventKind) (h : Option House) (p : Option Pump) (t : Option Tank) (v w : Nat) (s : State) :
    (raise k h p t v w s).hydraulics = s.hydraulics := rfl
@[simp] theorem raise_pumps (k : EventKind) (h : Option House) (p : Option Pump) (t : Option Tank) (v w : Nat) (s : State) :
    (raise k h p t v w s).pumps = s.pumps := rfl
@[simp] theorem raise_houses (k : EventKind) (h : Option House) (p : Option Pump) (t : Option Tank) (v w : Nat) (s : State) :
    (raise k h p t v w s).houses = s.houses := rfl
@[simp] theorem raise_survey (k : EventKind) (h : Option House) (p : Option Pump) (t : Option Tank) (v w : Nat) (s : State) :
    (raise k h p t v w s).survey = s.survey := rfl
@[simp] theorem raise_feeder (k : EventKind) (h : Option House) (p : Option Pump) (t : Option Tank) (v w : Nat) (s : State) :
    (raise k h p t v w s).feeder = s.feeder := rfl
@[simp] theorem raise_timetable (k : EventKind) (h : Option House) (p : Option Pump) (t : Option Tank) (v w : Nat) (s : State) :
    (raise k h p t v w s).timetable = s.timetable := rfl
@[simp] theorem raise_protection (k : EventKind) (h : Option House) (p : Option Pump) (t : Option Tank) (v w : Nat) (s : State) :
    (raise k h p t v w s).protection = s.protection := rfl
@[simp] theorem raise_noteSets (k : EventKind) (h : Option House) (p : Option Pump) (t : Option Tank) (v w : Nat) (s : State) :
    (raise k h p t v w s).noteSets = s.noteSets := rfl
@[simp] theorem raise_link (k : EventKind) (h : Option House) (p : Option Pump) (t : Option Tank) (v w : Nat) (s : State) :
    (raise k h p t v w s).link = s.link := rfl
@[simp] theorem raise_work (k : EventKind) (h : Option House) (p : Option Pump) (t : Option Tank) (v w : Nat) (s : State) :
    (raise k h p t v w s).work = s.work := rfl
@[simp] theorem raise_pending (k : EventKind) (h : Option House) (p : Option Pump) (t : Option Tank) (v w : Nat) (s : State) :
    (raise k h p t v w s).pending = s.pending := rfl

/-- What raising an event writes (R199). -/
@[simp] theorem raise_eventQueue (k : EventKind) (h : Option House) (p : Option Pump) (t : Option Tank) (v w : Nat)
    (s : State) :
    (raise k h p t v w s).eventQueue = enterEvent (eventNow k h p t v w s) s.eventQueue := rfl

/-- A record enters a queue that has room at the back (R199). -/
theorem enterEvent_room (r : EventRecord) (q : EventQueue) (room : q.records.length < 128) :
    enterEvent r q = { records := q.records ++ [r], overflow := q.overflow, nextSeq := (q.nextSeq + 1) % 65536 } := by
  simp [enterEvent, room]

/-- A record that finds 128 records waiting is discarded, and the overflow flag is set (R199). -/
theorem enterEvent_full (r : EventRecord) (q : EventQueue) (full : 128 ≤ q.records.length) :
    enterEvent r q = { records := q.records, overflow := true, nextSeq := (q.nextSeq + 1) % 65536 } := by
  simp [enterEvent, Nat.not_lt.mpr full]

end Sys2Proof.Machine
end

