-- ==== Sys2Proof/Laws/Follows.lean ====
section
/-! SUPPORT. What the work of an event leaves alone: the standing part of the state, the transaction in flight, and the
records already in the Event Queue. One lemma per operation, from the record updates up to the end of an event. -/

namespace Sys2Proof.Machine

/-- What the work of an event does to no pump: it puts none in REST, and begins no interval of REST, of a kept permit, or
of a min run. What was last reported stands. -/
structure PumpFollows (r r' : PumpLive) : Prop where
  rest : r.state ≠ .rest → r'.state ≠ .rest
  minOff : r.minOffUntil = none → r'.minOffUntil = none
  release : r.permitRelease = none → r'.permitRelease = none
  minRun : r.minRunUntil = none → r'.minRunUntil = none
  reported : r'.lastReported = r.lastReported
  reportedAt : r'.lastReportedAt = r.lastReportedAt

theorem PumpFollows.refl (r : PumpLive) : PumpFollows r r := ⟨id, id, id, id, rfl, rfl⟩

theorem PumpFollows.trans {a b c : PumpLive} (h : PumpFollows a b) (k : PumpFollows b c) : PumpFollows a c :=
  ⟨fun x => k.rest (h.rest x), fun x => k.minOff (h.minOff x), fun x => k.release (h.release x),
    fun x => k.minRun (h.minRun x), k.reported.trans h.reported, k.reportedAt.trans h.reportedAt⟩

/-- `t` comes after `s` by the work of an event. -/
structure Follows (s t : State) : Prop where
  standing : standing t = standing s
  flight : s.bus.flight.isSome = true → t.bus.flight = s.bus.flight
  records : s.eventQueue.records <+: t.eventQueue.records
  bounded : s.eventQueue.records.length ≤ 128 → t.eventQueue.records.length ≤ 128
  pumps : ∀ p : Pump, PumpFollows s.pumps[p] t.pumps[p]

theorem Follows.refl (s : State) : Follows s s :=
  ⟨rfl, fun _ => rfl, List.prefix_refl _, id, fun _ => PumpFollows.refl _⟩

theorem Follows.trans {s t u : State} (a : Follows s t) (b : Follows t u) : Follows s u :=
  ⟨b.standing.trans a.standing,
    fun h => (b.flight (by rw [a.flight h]; exact h)).trans (a.flight h), a.records.trans b.records, fun h => b.bounded (a.bounded h), fun p => (a.pumps p).trans (b.pumps p)⟩

/-- A state that differs only in parts that are not standing follows. -/
theorem Follows.of_parts {s t u : State} (h : Follows s t) (hs : Machine.standing u = Machine.standing t)
    (hf : u.bus.flight = t.bus.flight)
    (hq : u.eventQueue = t.eventQueue) (hp : u.pumps = t.pumps) : Follows s u :=
  h.trans ⟨hs, fun _ => hf, by rw [hq], by rw [hq]; exact id, by rw [hp]; exact fun _ => PumpFollows.refl _⟩

variable {s t : State}

theorem updPump_on (p : Pump) (f : PumpLive → PumpLive) (hf : ∀ r, PumpFollows r (f r)) (h : Follows s t) :
    Follows s (updPump p f t) := by
  refine h.trans ⟨rfl, fun _ => rfl, List.prefix_refl _, id, fun q => ?_⟩
  simp only [updPump_pumps, Fin.getElem_fin, Vector.getElem_set]
  split
  · next e => have := Fin.ext e; subst this; exact hf _
  · exact PumpFollows.refl _

theorem map_set_same {α β : Type} {n : Nat} (g : α → β) (v : Vector α n) (i : Nat) (hi : i < n) (x : α)
    (hx : g x = g v[i]) : (v.set i x hi).map g = v.map g := by
  ext j hj
  simp only [Vector.getElem_map, Vector.getElem_set]
  split <;> simp_all

theorem updHouse_on (k : House) (f : HouseLive → HouseLive) (hf : ∀ r, houseSettings (f r) = houseSettings r)
    (h : Follows s t) : Follows s (updHouse k f t) := by
  refine h.of_parts ?_ rfl rfl rfl
  simp only [standing, updHouse_houses]
  congr 1
  exact map_set_same _ _ _ _ _ (hf _)

theorem updMeter_on (f : MeterRecord → MeterRecord) (hf : ∀ r, unphased (f r) = unphased r)
    (h : Follows s t) : Follows s (updMeter f t) := by
  refine h.of_parts ?_ rfl rfl rfl
  simp [standing, updMeter, hf]

theorem raise_on (k : EventKind) (a : Option House) (b : Option Pump) (c : Option Tank) (v w : Nat)
    (h : Follows s t) : Follows s (raise k a b c v w t) := by
  refine h.trans ⟨rfl, fun _ => rfl, ?_, ?_, fun _ => PumpFollows.refl _⟩
  · simp only [raise_eventQueue, enterEvent]; split <;> simp
  · simp only [raise_eventQueue, enterEvent]; split <;> simp; omega

theorem raisePump_on (k : EventKind) (p : Pump) (v w : Nat) (h : Follows s t) : Follows s (raisePump k p v w t) :=
  raise_on _ _ _ _ _ _ h
theorem raiseHouse_on (k : EventKind) (p : House) (v w : Nat) (h : Follows s t) : Follows s (raiseHouse k p v w t) :=
  raise_on _ _ _ _ _ _ h
theorem raisePart_on (k : EventKind) (v w : Nat) (h : Follows s t) : Follows s (raisePart k v w t) :=
  raise_on _ _ _ _ _ _ h

theorem notice_on (k : House) (h : Follows s t) : Follows s (notice k t) := h.of_parts rfl rfl rfl rfl
theorem triggerPass_on (h : Follows s t) : Follows s (triggerPass t) := h.of_parts rfl rfl rfl rfl
theorem callShedTest_on (h : Follows s t) : Follows s (callShedTest t) := h.of_parts rfl rfl rfl rfl
theorem resum_on (h : Follows s t) : Follows s (resum t) := h.of_parts rfl rfl rfl rfl
theorem resumQuietly_on (h : Follows s t) : Follows s (resumQuietly t) := h.of_parts rfl rfl rfl rfl
theorem leaveStartQueue_on (p : Pump) (h : Follows s t) : Follows s (leaveStartQueue p t) := h.of_parts rfl rfl rfl rfl
theorem withdrawOrder_on (p : Pump) (h : Follows s t) : Follows s (withdrawOrder p t) := h.of_parts rfl rfl rfl rfl
theorem recordPass_on (r : PassRecord) (h : Follows s t) : Follows s (recordPass r t) := h.of_parts rfl rfl rfl rfl

theorem foldl_on {α : Type} (f : State → α → State) (hf : ∀ {s t : State} (x : α), Follows s t → Follows s (f t x))
    (xs : List α) (h : Follows s t) : Follows s (xs.foldl f t) := by
  induction xs generalizing t with
  | nil => exact h
  | cons x xs ih => exact ih (hf x h)

theorem noticeAll_on (hs : List House) (h : Follows s t) : Follows s (noticeAll hs t) :=
  foldl_on _ (fun x h => notice_on x h) hs h

/-! ### The transmit queue -/

theorem stepTag_standing (e : TxEntry) (s : State) : standing (stepTag e s) = standing s := by
  unfold stepTag
  split
  · simp only [standing, updStation]
    congr 1
    exact map_set_same _ _ _ _ _ rfl
  all_goals rfl

theorem startTransaction_standing (s : State) : standing (startTransaction s) = standing s := by
  unfold startTransaction
  split
  · split
    · rfl
    · next e _ =>
      unfold send
      exact (stepTag_standing e s)
  · rfl

theorem startTransaction_flight {s : State} (h : s.bus.flight.isSome) : startTransaction s = s := by
  unfold startTransaction
  rw [if_neg]
  cases hf : s.bus.flight <;> simp_all

theorem startTransaction_on (h : Follows s t) : Follows s (startTransaction t) := by
  refine h.trans ⟨startTransaction_standing t, fun hf => ?_, ?_, ?_, ?_⟩
  · rw [startTransaction_flight hf]
  · rw [startTransaction_eventQueue]
  · rw [startTransaction_eventQueue]; exact id
  · rw [startTransaction_pumps]; exact fun _ => PumpFollows.refl _

theorem joinTransmit_on (u : BusUnit) (c : TxClass) (o : Option Order) (h : Follows s t) :
    Follows s (joinTransmit u c o t) := by
  unfold joinTransmit
  dsimp only
  split
  · exact h.of_parts rfl rfl rfl rfl
  · exact startTransaction_on (h.of_parts rfl rfl rfl rfl)

theorem joinOrder_on (p : Pump) (c : OrderKind) (h : Follows s t) : Follows s (joinOrder p c t) :=
  joinTransmit_on _ _ _ h

theorem requestUrgent_on (u : BusUnit) (h : Follows s t) : Follows s (requestUrgent u t) := by
  unfold requestUrgent
  split
  · exact h.of_parts rfl rfl rfl rfl
  · exact joinTransmit_on _ _ _ h

/-! ### The Pump Table -/

theorem rebook_on {sums : State → State} (hs : ∀ {s u : State}, Follows s u → Follows s (sums u)) (k : House)
    (h : Follows s t) : Follows s (rebook sums k t) := by
  unfold rebook
  refine foldl_on _ (fun x h => ?_) _ h
  unfold rebookPump
  dsimp only
  split
  · exact hs (updPump_on _ _ (fun _ => by constructor <;> simp) h)
  · exact h

theorem pumpChanged_on (p : Pump) (h : Follows s t) : Follows s (pumpChanged p t) :=
  notice_on _ (rebook_on resum_on _ (resum_on h))

theorem releasePermit_on (p : Pump) (h : Follows s t) : Follows s (releasePermit p t) := by
  unfold releasePermit
  dsimp only
  split
  · exact triggerPass_on (updPump_on _ _ (fun _ => by constructor <;> simp) h)
  · exact updPump_on _ _ (fun _ => by constructor <;> simp) h

theorem leaveDuty_on (p : Pump) (h : Follows s t) : Follows s (leaveDuty p t) := updHouse_on _ _ (fun _ => rfl) h
theorem joinDuty_on (p : Pump) (h : Follows s t) : Follows s (joinDuty p t) := updHouse_on _ _ (fun _ => rfl) h
theorem rotateLead_on (p : Pump) (h : Follows s t) : Follows s (rotateLead p t) := updHouse_on _ _ (fun _ => rfl) h

theorem takeOut_on (p : Pump) (st : PumpState) (hst : st ≠ .rest) (h : Follows s t) :
    Follows s (takeOut p st t) :=
  updPump_on _ _ (fun _ => by constructor <;> simp [hst]) (leaveDuty_on _ (releasePermit_on _ (leaveStartQueue_on _ h)))

theorem enterIsolated_on (p : Pump) (h : Follows s t) : Follows s (enterIsolated p t) := updPump_on _ _ (fun _ => by constructor <;> simp) (takeOut_on _ _ (by decide) h)

theorem actIsolate_on (p : Pump) (h : Follows s t) : Follows s (actIsolate p t) := by
  unfold actIsolate
  split
  · exact enterIsolated_on _ h
  · exact h

theorem enterLocal_on (p : Pump) (h : Follows s t) : Follows s (enterLocal p t) :=
  actIsolate_on _ (updPump_on _ _ (fun _ => by constructor <;> simp) (takeOut_on _ _ (by decide) h))

theorem enterFaulted_on (p : Pump) (c : FaultCause) (h : Follows s t) : Follows s (enterFaulted p c t) :=
  actIsolate_on _ (raisePump_on _ _ _ _ (updPump_on _ _ (fun _ => by constructor <;> simp) (takeOut_on _ _ (by decide) h)))

theorem actStopped_on (p : Pump) (h : Follows s t) : Follows s (actStopped p t) := by
  unfold actStopped
  split
  · exact enterFaulted_on _ _ h
  · exact actIsolate_on _ h

theorem undoAdmission_on (p : Pump) (h : Follows s t) : Follows s (undoAdmission p t) :=
  updPump_on _ _ (fun _ => by constructor <;> simp) (releasePermit_on _ h)

theorem beginStop_on (c : StopCause) (p : Pump) (h : Follows s t) : Follows s (beginStop c p t) :=
  raisePump_on _ _ _ _ (pumpChanged_on _ (joinOrder_on _ _ (updPump_on _ _ (fun _ => by constructor <;> simp) (releasePermit_on _ h))))

theorem withdrawStart_on (p : Pump) (h : Follows s t) : Follows s (withdrawStart p t) :=
  undoAdmission_on _ (withdrawOrder_on _ h)

theorem protectOrdered_on (p : Pump) (h : Follows s t) : Follows s (protectOrdered p t) := by
  unfold protectOrdered
  split
  · exact updPump_on _ _ (fun _ => by constructor <;> simp) h
  · exact pumpChanged_on _ (actStopped_on _ (raisePump_on _ _ _ _ (updPump_on _ _ (fun _ => by constructor <;> simp) (withdrawStart_on _ h))))

theorem issueStop_on (c : StopCause) (p : Pump) (h : Follows s t) : Follows s (issueStop c p t) := by
  unfold issueStop
  split
  · exact beginStop_on _ _ h
  · exact beginStop_on _ _ h
  · split
    · exact protectOrdered_on _ h
    · exact h
  · split
    · exact updPump_on _ _ (fun _ => by constructor <;> simp) h
    · exact h
  · split
    · exact updPump_on _ _ (fun _ => by constructor <;> simp) h
    · exact h
  all_goals exact h

theorem actStarted_on (p : Pump) (h : Follows s t) : Follows s (actStarted p t) := by
  unfold actStarted
  dsimp only
  split
  · exact issueStop_on _ _ (updPump_on _ _ (fun _ => by constructor <;> simp) h)
  · exact h

theorem unqueue_on (p : Pump) (h : Follows s t) : Follows s (unqueue p t) := by
  unfold unqueue
  split
  · exact pumpChanged_on _ (actStopped_on _ (updPump_on _ _ (fun _ => by constructor <;> simp) (leaveStartQueue_on _ h)))
  · exact h

theorem adoptSurveyed_on (p : Pump) (r : Reported) (h : Follows s t) : Follows s (adoptSurveyed p r t) := by
  unfold adoptSurveyed
  dsimp only
  split
  · exact actStarted_on _ (raisePump_on _ _ _ _ (pumpChanged_on _
      (updPump_on _ _ (fun _ => by constructor <;> simp [adoptedFields]) h)))
  · exact pumpChanged_on _ (actStopped_on _ (raisePump_on _ _ _ _ (updPump_on _ _ (fun _ => by constructor <;> simp) (releasePermit_on _ h))))
  · exact raisePump_on _ _ _ _ (pumpChanged_on _ (enterFaulted_on _ _ h))
  · exact raisePump_on _ _ _ _ (pumpChanged_on _ (enterLocal_on _ h))

theorem adoptAtSurveyEnd_on (p : Pump) (h : Follows s t) : Follows s (adoptAtSurveyEnd t p) := by
  unfold adoptAtSurveyEnd
  dsimp only
  split
  · split
    · exact h
    · exact adoptSurveyed_on _ _ h
  · exact h

/-! ### The Feeder Budget Unit -/

theorem joinStart_on (p : Pump) (h : Follows s t) : Follows s (joinStart p t) :=
  triggerPass_on (h.of_parts rfl rfl rfl rfl)

theorem queuePump_on (p : Pump) (h : Follows s t) : Follows s (queuePump p t) :=
  pumpChanged_on _ (updPump_on _ _ (fun _ => by constructor <;> simp) (joinStart_on _ h))

theorem dropHouseQueue_on (k : House) (h : Follows s t) : Follows s (dropHouseQueue k t) :=
  foldl_on _ (fun x h => unqueue_on x h) _ h

theorem admit_on (p : Pump) (h : Follows s t) : Follows s (admitPump p t) := by
  unfold admitPump
  dsimp only
  refine raisePump_on _ _ _ _ (joinOrder_on _ _ (notice_on _ (rebook_on resumQuietly_on _ (resumQuietly_on ?_))))
  split
  · exact updPump_on _ _ (fun _ => by constructor <;> simp [admittedFields]) (leaveStartQueue_on _ h)
  · exact rotateLead_on _
      (updPump_on _ _ (fun _ => by constructor <;> simp [admittedFields]) (leaveStartQueue_on _ h))

theorem passWalk_on (es : List StartEntry) (a o : Nat) (h : Follows s t) : Follows s (passWalk es a o t) := by
  induction es generalizing a o t with
  | nil => exact recordPass_on _ h
  | cons e es ih =>
    unfold passWalk
    split
    · exact ih _ _ h
    · split
      · exact ih _ _ (admit_on _ h)
      · exact recordPass_on _ h

theorem admissionPass_on (h : Follows s t) : Follows s (admissionPass t) := by
  unfold admissionPass
  split
  · exact recordPass_on _ h
  · exact passWalk_on _ _ _ h

theorem meterShed_on (h : Follows s t) : Follows s (meterShed t) := by
  unfold meterShed
  split
  · split
    · exact h
    · exact updMeter_on _ (fun _ => rfl) (raisePump_on _ _ _ _ (issueStop_on _ _ h))
  · exact h

theorem shedLoop_on (k : Nat) (h : Follows s t) : Follows s (shedLoop k t) := by
  induction k generalizing t with
  | zero => exact h
  | succ k ih =>
    unfold shedLoop
    split
    · split
      · exact h
      · exact ih (raisePump_on _ _ _ _ (issueStop_on _ _ h))
    · exact h

theorem markEpisode_on (h : Follows s t) : Follows s (markEpisode t) := by
  unfold markEpisode
  split
  · split
    · exact h
    · exact raisePart_on _ _ _ (h.of_parts rfl rfl rfl rfl)
  · split
    · exact raisePart_on _ _ _ (h.of_parts rfl rfl rfl rfl)
    · exact h

theorem shedTest_on (h : Follows s t) : Follows s (shedTest t) := by
  unfold shedTest
  split
  · exact h
  · exact markEpisode_on (shedLoop_on _ (meterShed_on (markEpisode_on h)))

/-! ### The House Dispatcher -/

theorem raiseHousePumps_on (k : House) (w : Nat) (h : Follows s t) : Follows s (raiseHousePumps k w t) := by
  unfold raiseHousePumps
  refine foldl_on _ (fun x h => ?_) _ h
  unfold raiseStep
  split
  · exact queuePump_on _ h
  · exact h

theorem shortfallTest_on (k : House) (w : Nat) (h : Follows s t) : Follows s (shortfallTest k w t) := by
  unfold shortfallTest
  dsimp only
  split
  · split
    · exact h
    · exact raiseHouse_on _ _ _ _ (updHouse_on _ _ (fun _ => rfl) h)
  · exact updHouse_on _ _ (fun _ => rfl) h

theorem withdrawQueued_on (k : House) (w n : Nat) (h : Follows s t) : Follows s (withdrawQueued k w n t) := by
  induction n generalizing t with
  | zero => exact h
  | succ n ih =>
    unfold withdrawQueued
    split
    · split
      · exact h
      · exact ih (unqueue_on _ h)
    · exact h

theorem isolateStop_on (k : House) (h : Follows s t) : Follows s (isolateStop k t) := by
  unfold isolateStop
  split
  · split
    · exact h
    · exact issueStop_on _ _ h
  · exact h

theorem surplusStop_on (k : House) (w : Nat) (c : StopCause) (h : Follows s t) : Follows s (surplusStop k w c t) := by
  unfold surplusStop
  split
  · split
    · exact h
    · exact issueStop_on _ _ h
  · exact h

theorem lowerHouse_on (k : House) (w : Nat) (h : Follows s t) : Follows s (lowerHouse k w t) := by
  unfold lowerHouse
  split
  · exact h
  · split
    · exact foldl_on _ (fun x h => issueStop_on _ x h) _ h
    · exact surplusStop_on _ _ _ (isolateStop_on _ h)

theorem evaluateHouse_on (k : House) (h : Follows s t) : Follows s (evaluateHouse k t) := by
  unfold evaluateHouse
  dsimp only
  refine lowerHouse_on _ _ (withdrawQueued_on _ _ _ ?_)
  split
  · exact updHouse_on _ _ (fun _ => rfl) h
  · exact shortfallTest_on _ _ (raiseHousePumps_on _ _ (updHouse_on _ _ (fun _ => rfl) h))

/-! ### The work of an event -/

theorem endSurvey_on (h : Follows s t) : Follows s (endSurvey t) := by
  unfold endSurvey
  dsimp only
  refine triggerPass_on (noticeAll_on _ (callShedTest_on (resum_on (foldl_on _ (fun x h => rebook_on resum_on x h) _ ?_))))
  refine raisePart_on _ _ _ (Follows.of_parts (t := List.foldl adoptAtSurveyEnd t (pumpsInUse t)) ?_ rfl rfl rfl rfl)
  exact foldl_on _ (fun x h => adoptAtSurveyEnd_on x h) _ h

theorem takeNotice_on (k : House) (h : Follows s t) : Follows s (takeNotice k t) := by
  unfold takeNotice
  dsimp only
  split
  · exact evaluateHouse_on _ (h.of_parts rfl rfl rfl rfl)
  · exact h.of_parts rfl rfl rfl rfl

theorem workStep_on {u : State} (h : Follows s t) (hu : workStep t = some u) : Follows s u := by
  unfold workStep at hu
  split at hu
  · cases hu; exact endSurvey_on (h.of_parts rfl rfl rfl rfl)
  · split at hu
    · cases hu; exact shedTest_on (h.of_parts rfl rfl rfl rfl)
    · split at hu
      · cases hu; exact takeNotice_on _ h
      · split at hu
        · cases hu
        · cases hu; exact admissionPass_on (h.of_parts rfl rfl rfl rfl)

theorem settle_on (k : Nat) (h : Follows s t) : Follows s (settle k t) := by
  induction k generalizing t with
  | zero => exact h.of_parts rfl rfl rfl rfl
  | succ k ih =>
    unfold settle
    split
    · exact h
    · next u hu => exact ih (resum_on (workStep_on h hu))

/-- The work of an event leaves the standing part, the flight and the records already queued alone. -/
theorem settleAll_follows (s : State) : Follows s (settleAll s) := settle_on _ (resum_on (Follows.refl s))

/-! ### The end of an event -/

/-- The bus going on writes neither the pumps nor the Event Queue. -/
theorem busGoesOn_eventQueue (s : State) : (busGoesOn s).eventQueue = s.eventQueue := startTransaction_eventQueue _

theorem busGoesOn_pumps (s : State) : (busGoesOn s).pumps = s.pumps := startTransaction_pumps _

theorem busGoesOn_feeder (s : State) : (busGoesOn s).feeder = s.feeder := startTransaction_feeder _

/-- The end of an event leaves the standing part alone. -/
@[simp] theorem finish_standing (s : State) : standing (finish s) = standing s := by
  unfold finish drivePins
  exact (startTransaction_standing _).trans (settleAll_follows s).standing

/-- The end of an event keeps the records already queued, in their order. -/
theorem finish_records (s : State) : s.eventQueue.records <+: (finish s).eventQueue.records := by
  unfold finish drivePins
  simp only [busGoesOn_eventQueue]
  exact (settleAll_follows s).records

/-- What the end of an event does to no pump. -/
theorem finish_pumps (s : State) (p : Pump) : PumpFollows s.pumps[p] (finish s).pumps[p] := by
  have h := (settleAll_follows s).pumps p
  have e : (finish s).pumps = (settleAll s).pumps := busGoesOn_pumps (settleAll s)
  rw [e]
  exact h

/-- The end of an event keeps the bound of the Event Queue (R199). -/
theorem finish_bounded (s : State) (h : s.eventQueue.records.length ≤ 128) :
    (finish s).eventQueue.records.length ≤ 128 := by
  unfold finish drivePins
  simp only [busGoesOn_eventQueue]
  exact (settleAll_follows s).bounded h

end Sys2Proof.Machine
end

