-- ==== Sys2Proof/Laws/PerInstr.lean ====
section
/-! SUPPORT. A statement made per command: the request frame of a well-formed command can be sent. -/

namespace Sys2Proof.Laws.RequestFramed

open Sys2Proof Sys2Proof.Machine

/-- A well-formed request row stands for a frame whose body a frame can carry (R184). -/
def Statement (i : Instr) : Prop := i.WellFormed → ∀ f, requestFrame i = some f → f.body.length ≤ 250

/-- A row that is no request stands for no frame. -/
theorem of_none {i : Instr} (h : requestFrame i = none) : Statement i := by
  intro _ f hf
  simp [h] at hf

theorem of_body {i : Instr} {kind tag : Byte} {body : List Byte} (h : requestFrame i = some ⟨kind, tag, body⟩)
    (hd : i.WellFormed → bodyDefect body = none) : Statement i := by
  intro hw f hf
  rw [h] at hf
  cases hf
  have := hd hw
  simpa [bodyDefect] using this

theorem powerOn (strap1 strap0 crcMatches : Bool) : Statement (.powerOn strap1 strap0 crcMatches) := of_none rfl

theorem resetAsserted : Statement (.resetAsserted) := of_none rfl

theorem resetLine (strap1 strap0 crcMatches : Bool) : Statement (.resetLine strap1 strap0 crcMatches) := of_none rfl

theorem hostRestart : Statement (.hostRestart) := of_none rfl

theorem supFrameReceived (bytes : List Byte) : Statement (.supFrameReceived bytes) := of_none rfl

theorem supGapExpiry : Statement (.supGapExpiry) := of_none rfl

theorem replySent : Statement (.replySent) := of_none rfl

theorem ident (tag : Byte) (body : List Byte) : Statement (.ident tag body) := of_body rfl id

theorem setTime (tag : Byte) (body : List Byte) : Statement (.setTime tag body) := of_body rfl id

theorem tableWrite (tag : Byte) (body : List Byte) : Statement (.tableWrite tag body) := of_body rfl id

theorem tableRead (tag : Byte) (body : List Byte) : Statement (.tableRead tag body) := of_body rfl id

theorem bankClear (tag : Byte) (body : List Byte) : Statement (.bankClear tag body) := of_body rfl id

theorem bankCheck (tag : Byte) (body : List Byte) : Statement (.bankCheck tag body) := of_body rfl id

theorem bankSwap (tag : Byte) (body : List Byte) : Statement (.bankSwap tag body) := of_body rfl id

theorem planStore (tag : Byte) (body : List Byte) : Statement (.planStore tag body) := of_body rfl id

theorem houseMode (tag : Byte) (body : List Byte) : Statement (.houseMode tag body) := of_body rfl id

theorem houseTarget (tag : Byte) (body : List Byte) : Statement (.houseTarget tag body) := of_body rfl id

theorem houseClear (tag : Byte) (body : List Byte) : Statement (.houseClear tag body) := of_body rfl id

theorem houseSuppress (tag : Byte) (body : List Byte) : Statement (.houseSuppress tag body) := of_body rfl id

theorem pumpIsolate (tag : Byte) (body : List Byte) : Statement (.pumpIsolate tag body) := of_body rfl id

theorem pumpRestore (tag : Byte) (body : List Byte) : Statement (.pumpRestore tag body) := of_body rfl id

theorem pumpClear (tag : Byte) (body : List Byte) : Statement (.pumpClear tag body) := of_body rfl id

theorem stateRead (tag : Byte) (body : List Byte) : Statement (.stateRead tag body) := of_body rfl id

theorem eventRead (tag : Byte) (body : List Byte) : Statement (.eventRead tag body) := of_body rfl id

theorem restart (tag : Byte) (body : List Byte) : Statement (.restart tag body) := of_body rfl id

theorem unknownKind (kind tag : Byte) (body : List Byte) : Statement (.unknownKind kind tag body) :=
  of_body rfl fun h => by
    simp only [Instr.WellFormed, Instr.defect] at h
    split at h
    · cases h
    · exact h

theorem minuteCrossing : Statement (.minuteCrossing) := of_none rfl

theorem midnightCrossing : Statement (.midnightCrossing) := of_none rfl

theorem busRequestSent : Statement (.busRequestSent) := of_none rfl

theorem report (bytes : List Byte) : Statement (.report bytes) := of_none rfl

theorem orderReply (bytes : List Byte) : Statement (.orderReply bytes) := of_none rfl

theorem meterReply (bytes : List Byte) : Statement (.meterReply bytes) := of_none rfl

theorem replyTimeout : Statement (.replyTimeout) := of_none rfl

theorem busGapExpiry : Statement (.busGapExpiry) := of_none rfl

theorem pollDue (unit : BusUnit) : Statement (.pollDue unit) := of_none rfl

theorem levelStale (tank : Tank) : Statement (.levelStale tank) := of_none rfl

theorem conditionFilterExpiry (house : House) (condition : Condition) : Statement (.conditionFilterExpiry house condition) := of_none rfl

theorem startWindowEnd (pump : Pump) : Statement (.startWindowEnd pump) := of_none rfl

theorem permitReleaseExpiry (pump : Pump) : Statement (.permitReleaseExpiry pump) := of_none rfl

theorem minRunExpiry (pump : Pump) : Statement (.minRunExpiry pump) := of_none rfl

theorem minOffExpiry (pump : Pump) : Statement (.minOffExpiry pump) := of_none rfl

theorem startHistoryExpiry (pump : Pump) : Statement (.startHistoryExpiry pump) := of_none rfl

theorem mainSettled (house : House) (feederFirst : Bool) : Statement (.mainSettled house feederFirst) := of_none rfl

theorem meterStale : Statement (.meterStale) := of_none rfl

theorem meterPhaseExpiry : Statement (.meterPhaseExpiry) := of_none rfl

theorem ttEnded (entry : Entry) : Statement (.ttEnded entry) := of_none rfl

theorem alarmFilterExpiry (house : House) (code : Code) : Statement (.alarmFilterExpiry house code) := of_none rfl

theorem recoveryExpiry (house : House) : Statement (.recoveryExpiry house) := of_none rfl

theorem forgiveExpiry (house : House) : Statement (.forgiveExpiry house) := of_none rfl

theorem storeWriteComplete (crcMatches : Bool) : Statement (.storeWriteComplete crcMatches) := of_none rfl

theorem supByteReceived (byte : Byte) (stopBit : Bool) : Statement (.supByteReceived byte stopBit) := of_none rfl

theorem busByteReceived (byte : Byte) : Statement (.busByteReceived byte) := of_none rfl

end Sys2Proof.Laws.RequestFramed
end

