-- ==== Sys2Proof/Laws/Settled.lean ====
section
/-! SUPPORT. The end of an event leaves the part settled, and does nothing to a part that is settled. -/

namespace Sys2Proof.Machine

/-! ### Work -/

/-- Nothing is handed on, whether or not a transaction has ended in this event. -/
def WorkDone (s : State) : Prop := { s.work with busEnded := false } = blankWork

theorem workStep_none {s : State} (h : workStep s = none) : WorkDone s := by
  unfold workStep at h
  split at h
  · cases h
  · next h1 =>
    split at h
    · cases h
    · next h2 =>
      split at h
      · cases h
      · next h3 =>
        split at h
        · next h4 =>
          rcases hw : s.work with ⟨n, p, sh, se, be⟩
          simp only [hw] at h1 h2 h4
          have hn : n = Vector.replicate 8 false := by
            unfold nextNotice at h3
            rw [List.find?_eq_none] at h3
            ext i hi
            have := h3 (⟨i, hi⟩ : House) (by simp [allHouses])
            simp only [hw, Fin.getElem_fin] at this
            simpa using this
          simp_all [WorkDone, blankWork]
        · cases h

theorem workStep_blank {s : State} (h : s.work = blankWork) : workStep s = none := by
  have hn : nextNotice s = none := by
    unfold nextNotice
    rw [List.find?_eq_none]
    intro x _
    simp [h, blankWork]
  unfold workStep
  simp [h, hn, blankWork]

theorem settle_work (k : Nat) (s : State) : WorkDone (settle k s) := by
  induction k generalizing s with
  | zero => rfl
  | succ k ih =>
    unfold settle
    split
    · next h => exact workStep_none h
    · exact ih _

/-! ### Sums -/

theorem resum_sums (s : State) : SumsHold (resum s) := ⟨rfl, rfl⟩

theorem settle_sums (k : Nat) {s : State} (h : SumsHold s) : SumsHold (settle k s) := by
  induction k generalizing s with
  | zero => exact h
  | succ k ih =>
    unfold settle
    split
    · exact h
    · exact ih (resum_sums _)

theorem settleAll_sums (s : State) : SumsHold (settleAll s) := settle_sums _ (resum_sums s)

theorem settleAll_work (s : State) : WorkDone (settleAll s) := settle_work _ _

/-! ### The bus -/

theorem oldestOf_none {s : State} {c : TxClass} (h : oldestOf s c = none) : ∀ e ∈ s.bus.queue, e.cls ≠ c := by
  unfold oldestOf at h
  have key : ∀ (l : List TxEntry) (b : Option TxEntry),
      l.foldl (fun best e => if e.cls == c then
        match best with
        | none => some e
        | some d => if arrivalAge s d < arrivalAge s e then some e else some d
      else best) b = none → b = none ∧ ∀ e ∈ l, e.cls ≠ c := by
    intro l
    induction l with
    | nil => intro b hb; exact ⟨hb, by simp⟩
    | cons e l ih =>
      intro b hb
      rw [List.foldl_cons] at hb
      obtain ⟨h1, h2⟩ := ih _ hb
      by_cases hc : e.cls = c
      · exfalso
        rw [if_pos (by simpa using hc)] at h1
        cases b with
        | none => cases h1
        | some d => dsimp only at h1; split at h1 <;> cases h1
      · rw [if_neg (by simpa using hc)] at h1
        refine ⟨h1, fun x hx => ?_⟩
        rcases List.mem_cons.mp hx with rfl | hx
        · exact hc
        · exact h2 x hx
  exact (key _ _ h).2

/-- An entry goes next as long as one waits (R146, R157). -/
theorem nextEntry_none {s : State} (h : nextEntry s = none) : s.bus.queue = [] := by
  unfold nextEntry at h
  have h1 : oldestOf s .order = none := by
    cases ho : oldestOf s .order <;> simp_all
  have h2 : oldestOf s .urgent = none := by
    cases ho : oldestOf s .urgent <;> simp_all
  have h3 : oldestOf s .routine = none := by
    cases ho : oldestOf s .routine <;> simp_all
  rw [List.eq_nil_iff_forall_not_mem]
  intro e he
  have a := oldestOf_none h1 e he
  have b := oldestOf_none h2 e he
  have c := oldestOf_none h3 e he
  cases hc : e.cls <;> simp_all

theorem nextEntry_nil {s : State} (h : s.bus.queue = []) : nextEntry s = none := by
  simp [nextEntry, oldestOf, h]

theorem startTransaction_busGoes (s : State) : BusGoes (startTransaction s) := by
  unfold startTransaction
  split
  · split
    · next h => intro _ _; exact nextEntry_none h
    · intro _ hf; cases hf
  · next h =>
    intro hp hf
    simp [hp, hf] at h

/-! ### The end of an event -/

theorem drivePins_pins (s : State) : PinsDriven (drivePins s) := ⟨rfl, rfl⟩

theorem drivePins_of {s : State} (h : PinsDriven s) : drivePins s = s := by
  obtain ⟨a, b⟩ := h
  unfold drivePins
  rw [← a, ← b]

/-- The end of an event leaves the part settled. -/
theorem finish_settled (s : State) : Settled (finish s) := by
  refine ⟨?_, ?_, ?_, drivePins_pins _⟩
  · exact (startTransaction_work _).trans (settleAll_work s)
  · have h := settleAll_sums s
    unfold SumsHold sumBookings sumForShed at h ⊢
    unfold finish drivePins
    simpa only [busGoesOn_feeder, busGoesOn_pumps] using h
  · exact startTransaction_busGoes _

theorem resum_of {s : State} (h : SumsHold s) : resum s = s := by
  obtain ⟨a, b⟩ := h
  unfold resum
  dsimp only
  rw [← a, ← b]
  simp only [Nat.lt_irrefl, if_false, bne_self_eq_false, Bool.or_false]

theorem settle_of {s : State} (h : s.work = blankWork) (k : Nat) : settle k s = s := by
  cases k with
  | zero => unfold settle; rw [← h]
  | succ k => unfold settle; rw [workStep_blank h]

theorem settleAll_of {s : State} (h : SumsHold s) (hw : s.work = blankWork) : settleAll s = s := by
  unfold settleAll
  rw [resum_of h, settle_of hw]

theorem startTransaction_of {s : State} (h : BusGoes s) : startTransaction s = s := by
  unfold startTransaction
  split
  · next hc =>
    simp only [Bool.and_eq_true, Option.isNone_iff_eq_none] at hc
    rw [nextEntry_nil (h hc.1 hc.2)]
  · rfl

theorem busGoesOn_of {s : State} (h : BusGoes s) (hw : s.work = blankWork) : busGoesOn s = s := by
  have e : { s with work := { s.work with busEnded := false } } = s := by
    have : { s.work with busEnded := false } = s.work := by rw [hw]; rfl
    rw [this]
  unfold busGoesOn
  rw [e, startTransaction_of h]

/-- The end of an event does nothing to a part that is settled. -/
theorem finish_of_settled {s : State} (h : Settled s) : finish s = s := by
  obtain ⟨hw, hs, hb, hp⟩ := h
  unfold finish
  rw [settleAll_of hs hw, busGoesOn_of hb hw, drivePins_of hp]

/-- An event out of reset whose effect leaves the part settled has that effect alone. -/
theorem live_of_settled {f : State → State} {s : State} (hr : s.inReset = false) (h : Settled (f s)) :
    live f s = .next (f s) := by
  simp [live, hr, finish_of_settled h]

/-- Settled reads the parts below and no others. -/
theorem settled_congr {s t : State} (h : Settled s) (hw : t.work = s.work) (hf : t.feeder = s.feeder)
    (hp : t.pumps = s.pumps) (hb : t.bus.queue = s.bus.queue) (hfl : t.bus.flight.isSome = s.bus.flight.isSome)
    (hsent : (t.bus.flight.any fun f => f.sentAt.isNone) = s.bus.flight.any fun f => f.sentAt.isNone)
    (ha : planned t = planned s) (hr : t.inReset = s.inReset) (hat : t.attn = s.attn) (hde : t.busDe = s.busDe)
    (hq : t.eventQueue.records.isEmpty = s.eventQueue.records.isEmpty) : Settled t := by
  obtain ⟨h1, ⟨h2, h3⟩, h4, h5, h6⟩ := h
  refine ⟨hw.trans h1, ⟨?_, ?_⟩, ?_, ?_, ?_⟩
  · simpa [hf, sumBookings, hp] using h2
  · simpa [hf, sumForShed, hp] using h3
  · intro a b
    rw [hb]
    refine h4 (ha ▸ a) ?_
    rw [b] at hfl
    cases hh : s.bus.flight <;> simp_all
  · rw [hat, hr, hq, h5]
  · rw [hde, hr, hsent, h6]

/-- A change of the link alone leaves the part settled. -/
theorem settled_link {s : State} (h : Settled s) (l : SupervisoryLink) : Settled { s with link := l } :=
  settled_congr h rfl rfl rfl rfl rfl rfl rfl rfl rfl rfl rfl

end Sys2Proof.Machine
end

