-- ==== Sys2Proof/Laws/Requests.lean ====
section
/-! SUPPORT. How a request that finds the link at rest is taken (R186): the lemmas by which statements about requests
reduce to `carryOut`. -/

namespace Sys2Proof.Machine

/-- A request that finds the link at rest is taken at once (R186). -/
theorem ready_take {s : State} (hs : Ready s) (f : Frame) : live (acceptFrame f) s = .next (finish (takeRequest f s)) := by
  obtain ⟨h, hr, hb, hp⟩ := hs
  have : acceptFrame f s = takeRequest f s := by
    unfold acceptFrame
    rw [if_neg (by rw [hb]; simp)]
    have : s.link.buffer ++ [f] = [f] := by rw [hb]; rfl
    simp only [takeNext, this, hp]
    congr 1
    rw [← hb, ← hp]
  simp [live, hr, this]

/-- A request whose carrying out and reply leave a settled state. -/
theorem ready_exact {s : State} (hs : Ready s) (f : Frame) (r : State × List Byte) (t : State)
    (h : carryOut f.kind.toNat f.body (counted s) = r)
    (ht : { r.1 with link := { r.1.link with reply := some { kind := replyKindOf f.kind, tag := f.tag, body := r.2, restarts := isRestart f } } } = t)
    (hset : Settled t) : live (acceptFrame f) s = .next t := by
  rw [ready_take hs]
  have e : takeRequest f s = t := by
    unfold takeRequest
    have : updCounters (fun c => { c with framesTaken := satSucc 65535 c.framesTaken }) s = counted s := rfl
    rw [this, h]; exact ht
  rw [e, finish_of_settled hset]

theorem settled_answered {s : State} (h : Settled s) (k t : Byte) (b : List Byte) : Settled (answered k t b s) :=
  settled_link h _

/-- A request that is refused, or taken with no effect but its reply. -/
theorem ready_plain {s : State} (hs : Ready s) (f : Frame) (b : List Byte) (k : Byte) (hk : replyKindOf f.kind = k) (hn : isRestart f = false)
    (h : carryOut f.kind.toNat f.body (counted s) = (counted s, b)) : live (acceptFrame f) s = .next (answered k f.tag b s) := by
  refine ready_exact hs f _ _ h ?_ (settled_answered hs.1 _ _ _)
  simp [answered, replying, hk, hn]

/-- A request row is its frame reaching the receive buffer (log 2). -/
theorem exec_request {c : Instr} {f : Frame} (hc : requestFrame c = some f) (s : State) :
    exec c s = live (acceptFrame f) s := by
  cases c <;> simp only [requestFrame, reduceCtorEq, Option.some.injEq] at hc <;> subst hc
  · exact exec_ident ..
  · exact exec_setTime ..
  · exact exec_tableWrite ..
  · exact exec_tableRead ..
  · exact exec_bankClear ..
  · exact exec_bankCheck ..
  · exact exec_bankSwap ..
  · exact exec_planStore ..
  · exact exec_houseMode ..
  · exact exec_houseTarget ..
  · exact exec_houseClear ..
  · exact exec_houseSuppress ..
  · exact exec_pumpIsolate ..
  · exact exec_pumpRestore ..
  · exact exec_pumpClear ..
  · exact exec_stateRead ..
  · exact exec_eventRead ..
  · exact exec_restart ..
  · exact exec_unknownKind ..

end Sys2Proof.Machine
end

