-- ==== Sys2Proof/Laws/Steady.lean ====
section
/-! SUPPORT. What the work of an event can do to one pump that is not READY, QUEUED or ORDERED and has no Start Queue
entry, outside the end of the survey: a re-booking, a stop, and a mark that a PROTECT stop waits. A property of the pump's
record that these keep holds at the end of the event. -/

namespace Sys2Proof.Machine

/-- A property of a pump's record that the work of an event keeps. -/
structure Steady (K : PumpLive → Prop) : Prop where
  calm : ∀ r, K r → r.state ≠ .ready ∧ r.state ≠ .queued ∧ r.state ≠ .ordered
  booked : ∀ r b, K r → (r.state = .running ∨ r.state = .stopping) → K { r with booking := b }
  stopped : ∀ r c, K r → (r.state = .running ∨ r.state = .starting) →
    K { r with permit := none, permitRelease := none, state := .stopping, windowEnd := none, stopCause := some c
               isolatePending := r.isolatePending || c == .isolate }
  marked : ∀ r, K r → r.state = .unconfirmed → K { r with protectPending := true }
  raised : ∀ r, K r → r.state = .stopping → K { r with stopCause := some .protect }

/-- The property holds of a pump that has no Start Queue entry, and no survey ends. -/
structure Steadily (K : PumpLive → Prop) (p : Pump) (s : State) : Prop where
  holds : K s.pumps[p]
  absent : ∀ e ∈ s.feeder.queue, e.pump ≠ p
  surveyed : s.work.surveyEnd = false

variable {K : PumpLive → Prop} {p : Pump} {s : State}

theorem Steadily.of_parts {t : State} (h : Steadily K p s) (hp : t.pumps = s.pumps)
    (hq : ∀ e ∈ t.feeder.queue, e ∈ s.feeder.queue) (hw : t.work.surveyEnd = s.work.surveyEnd) : Steadily K p t :=
  ⟨by simpa only [hp] using h.holds, fun e he => h.absent e (hq e he), hw.trans h.surveyed⟩

theorem updPump_get (q : Pump) (f : PumpLive → PumpLive) (s : State) (p : Pump) :
    (updPump q f s).pumps[p] = if q = p then f s.pumps[p] else s.pumps[p] := by
  simp only [updPump_pumps, Fin.getElem_fin, Vector.getElem_set]
  by_cases h : q = p
  · subst h; simp
  · have : q.val ≠ p.val := fun e => h (Fin.ext e)
    simp [h, this]

theorem updPump_self (p : Pump) (f : PumpLive → PumpLive) (s : State) :
    (updPump p f s).pumps[p] = f s.pumps[p] := by rw [updPump_get, if_pos rfl]

theorem updPump_steady (q : Pump) (f : PumpLive → PumpLive) (hf : q = p → K s.pumps[p] → K (f s.pumps[p]))
    (h : Steadily K p s) : Steadily K p (updPump q f s) := by
  refine ⟨?_, h.absent, h.surveyed⟩
  rw [updPump_get]
  split
  · next e => exact hf e h.holds
  · exact h.holds

theorem foldl_steady {α : Type} (f : State → α → State)
    (hf : ∀ (s : State) (x : α), Steadily K p s → Steadily K p (f s x)) (xs : List α)
    (h : Steadily K p s) : Steadily K p (xs.foldl f s) := by
  induction xs generalizing s with
  | nil => exact h
  | cons x xs ih => exact ih (hf _ x h)

theorem resum_steady (h : Steadily K p s) : Steadily K p (resum s) := h.of_parts rfl (fun _ => id) rfl
theorem resumQuietly_steady (h : Steadily K p s) : Steadily K p (resumQuietly s) := h.of_parts rfl (fun _ => id) rfl

theorem rebook_steady {sums : State → State} (hk : Steady K)
    (hs : ∀ {u : State}, Steadily K p u → Steadily K p (sums u)) (k : House) (h : Steadily K p s) :
    Steadily K p (rebook sums k s) := by
  unfold rebook
  refine foldl_steady _ (fun s q h => ?_) _ h
  unfold rebookPump
  dsimp only
  split
  · next hc =>
    refine hs (updPump_steady _ _ (fun e hK => ?_) h)
    subst e
    exact hk.booked _ _ hK (by simpa using hc)
  · exact h

theorem notice_steady (k : House) (h : Steadily K p s) : Steadily K p (notice k s) := h.of_parts rfl (fun _ => id) rfl
theorem triggerPass_steady (h : Steadily K p s) : Steadily K p (triggerPass s) := h.of_parts rfl (fun _ => id) rfl
theorem raise_steady (k : EventKind) (a : Option House) (b : Option Pump) (c : Option Tank) (v w : Nat)
    (h : Steadily K p s) : Steadily K p (raise k a b c v w s) := h.of_parts rfl (fun _ => id) rfl
theorem raisePump_steady (k : EventKind) (q : Pump) (v w : Nat)
    (h : Steadily K p s) : Steadily K p (raisePump k q v w s) := h.of_parts rfl (fun _ => id) rfl

theorem pumpChanged_steady (hk : Steady K) (q : Pump) (h : Steadily K p s) : Steadily K p (pumpChanged q s) :=
  notice_steady _ (rebook_steady hk resum_steady _ (resum_steady h))

theorem leaveStartQueue_steady (q : Pump) (h : Steadily K p s) : Steadily K p (leaveStartQueue q s) :=
  h.of_parts rfl (fun _ he => (List.mem_filter.mp he).1) rfl

/-- The state of a steady pump is none of READY, QUEUED and ORDERED. -/
theorem Steadily.ne {q : Pump} (hk : Steady K) (h : Steadily K p s)
    (hq : s.pumps[q].state = .ready ∨ s.pumps[q].state = .queued ∨ s.pumps[q].state = .ordered) : q ≠ p := by
  rintro rfl
  have := hk.calm _ h.holds
  simp_all

theorem releasePermit_steady_ne {q : Pump} (hq : q ≠ p) (h : Steadily K p s) :
    Steadily K p (releasePermit q s) := by
  unfold releasePermit
  dsimp only
  split
  · exact triggerPass_steady (updPump_steady _ _ (fun e => absurd e hq) h)
  · exact updPump_steady _ _ (fun e => absurd e hq) h

theorem leaveDuty_steady (q : Pump) (h : Steadily K p s) : Steadily K p (leaveDuty q s) :=
  h.of_parts rfl (fun _ => id) rfl

theorem takeOut_steady_ne {q : Pump} (hq : q ≠ p) (st : PumpState) (h : Steadily K p s) :
    Steadily K p (takeOut q st s) :=
  updPump_steady _ _ (fun e => absurd e hq)
    (leaveDuty_steady _ (releasePermit_steady_ne hq (leaveStartQueue_steady _ h)))

theorem enterIsolated_steady_ne {q : Pump} (hq : q ≠ p) (h : Steadily K p s) : Steadily K p (enterIsolated q s) :=
  updPump_steady _ _ (fun e => absurd e hq) (takeOut_steady_ne hq _ h)

theorem actIsolate_steady_ne {q : Pump} (hq : q ≠ p) (h : Steadily K p s) : Steadily K p (actIsolate q s) := by
  unfold actIsolate
  split
  · exact enterIsolated_steady_ne hq h
  · exact h

theorem enterFaulted_steady_ne {q : Pump} (hq : q ≠ p) (c : FaultCause) (h : Steadily K p s) :
    Steadily K p (enterFaulted q c s) :=
  actIsolate_steady_ne hq (raisePump_steady _ _ _ _ (updPump_steady _ _ (fun e => absurd e hq)
    (takeOut_steady_ne hq _ h)))

theorem actStopped_steady_ne {q : Pump} (hq : q ≠ p) (h : Steadily K p s) : Steadily K p (actStopped q s) := by
  unfold actStopped
  split
  · exact enterFaulted_steady_ne hq _ h
  · exact actIsolate_steady_ne hq h

theorem joinTransmit_steady (u : BusUnit) (c : TxClass) (o : Option Order) (h : Steadily K p s) :
    Steadily K p (joinTransmit u c o s) :=
  h.of_parts (joinTransmit_pumps u c o s) (fun _ => by rw [joinTransmit_feeder]; exact id)
    (by rw [joinTransmit_work])

/-- The record of a pump whose stop begins, before its house is re-booked (R45). -/
theorem beginStop_steady (hk : Steady K) (c : StopCause) (q : Pump)
    (hq : s.pumps[q].state = .running ∨ s.pumps[q].state = .starting) (h : Steadily K p s) :
    Steadily K p (beginStop c q s) := by
  unfold beginStop
  refine raisePump_steady _ _ _ _ (pumpChanged_steady hk _ (joinTransmit_steady _ _ _ ?_))
  by_cases e : q = p
  · subst e
    have key := hk.stopped _ c h.holds hq
    refine ⟨?_, ?_, ?_⟩
    · rw [updPump_self]
      have hr : (releasePermit q s).pumps[q] = { s.pumps[q] with permit := none, permitRelease := none } := by
        unfold releasePermit
        dsimp only
        split
        · exact updPump_self q (fun r => { r with permit := none, permitRelease := none }) s
        · exact updPump_self q (fun r => { r with permit := none, permitRelease := none }) s
      rw [hr]
      exact key
    · intro x hx
      refine h.absent x ?_
      simp only [releasePermit] at hx
      split at hx <;> exact hx
    · have : (releasePermit q s).work.surveyEnd = s.work.surveyEnd := by
        unfold releasePermit; dsimp only; split <;> rfl
      exact this.trans h.surveyed
  · exact updPump_steady _ _ (fun e' => absurd e' e) (releasePermit_steady_ne e h)

theorem withdrawStart_steady_ne {q : Pump} (hq : q ≠ p) (h : Steadily K p s) : Steadily K p (withdrawStart q s) := by
  unfold withdrawStart undoAdmission
  refine updPump_steady _ _ (fun e => absurd e hq) (releasePermit_steady_ne hq ?_)
  exact h.of_parts rfl (fun _ => id) rfl

theorem protectOrdered_steady_ne {q : Pump} (hk : Steady K) (hq : q ≠ p) (h : Steadily K p s) :
    Steadily K p (protectOrdered q s) := by
  unfold protectOrdered
  split
  · exact updPump_steady _ _ (fun e => absurd e hq) h
  · exact pumpChanged_steady hk _ (actStopped_steady_ne hq (raisePump_steady _ _ _ _
      (updPump_steady _ _ (fun e => absurd e hq) (withdrawStart_steady_ne hq h))))

theorem issueStop_steady (hk : Steady K) (c : StopCause) (q : Pump) (h : Steadily K p s) :
    Steadily K p (issueStop c q s) := by
  unfold issueStop
  split
  · next e => exact beginStop_steady hk _ _ (.inl e) h
  · next e => exact beginStop_steady hk _ _ (.inr e) h
  · next e =>
    split
    · exact protectOrdered_steady_ne hk (h.ne hk (.inr (.inr e))) h
    · exact h
  · next e =>
    split
    · refine updPump_steady _ _ (fun e' hK => ?_) h
      subst e'
      exact hk.marked _ hK e
    · exact h
  · next e =>
    split
    · refine updPump_steady _ _ (fun e' hK => ?_) h
      subst e'
      exact hk.raised _ hK e
    · exact h
  all_goals exact h

theorem unqueue_steady (hk : Steady K) (q : Pump) (h : Steadily K p s) : Steadily K p (unqueue q s) := by
  unfold unqueue
  split
  · next e =>
    have hq : q ≠ p := h.ne hk (.inr (.inl (by simpa using e)))
    exact pumpChanged_steady hk _ (actStopped_steady_ne hq (updPump_steady _ _ (fun e => absurd e hq)
      (leaveStartQueue_steady _ h)))
  · exact h

/-! ### The Feeder Budget Unit -/

theorem insertStart_mem (s : State) (n : StartEntry) (es : List StartEntry) (e : StartEntry)
    (h : e ∈ insertStart s n es) : e = n ∨ e ∈ es := by
  induction es with
  | nil => simpa [insertStart] using h
  | cons d es ih =>
    unfold insertStart at h
    split at h
    · simpa using h
    · rcases List.mem_cons.mp h with rfl | h
      · simp
      · rcases ih h with h | h
        · exact .inl h
        · exact .inr (List.mem_cons_of_mem _ h)

theorem queuePump_steady (hk : Steady K) {q : Pump} (hq : q ≠ p) (h : Steadily K p s) :
    Steadily K p (queuePump q s) := by
  unfold queuePump
  refine pumpChanged_steady hk _ (updPump_steady _ _ (fun e => absurd e hq) ?_)
  refine ⟨h.holds, fun e he => ?_, h.surveyed⟩
  rcases insertStart_mem _ _ _ _ he with rfl | he
  · exact hq
  · unfold startsBeforeJoin at he
    split at he
    · unfold renumberStarts at he
      obtain ⟨d, hd, rfl⟩ := List.mem_map.mp he
      exact h.absent d hd
    · exact h.absent e he

theorem admit_steady (hk : Steady K) {q : Pump} (hq : q ≠ p) (h : Steadily K p s) : Steadily K p (admitPump q s) := by
  unfold admitPump
  dsimp only
  refine raisePump_steady _ _ _ _ (joinTransmit_steady _ _ _ (notice_steady _ ?_))
  refine rebook_steady hk resumQuietly_steady _ (resumQuietly_steady ?_)
  have h2 := updPump_steady (K := K) q
    (admittedFields (now s) (freePermit s) (bookingCount s (houseOf q) + 1)
      (chargeS s q (bookingCount s (houseOf q) + 1))) (fun e => absurd e hq) (leaveStartQueue_steady q h)
  split
  · exact h2
  · exact h2.of_parts rfl (fun _ => id) rfl

theorem recordPass_steady (r : PassRecord) (h : Steadily K p s) : Steadily K p (recordPass r s) :=
  h.of_parts rfl (fun _ => id) rfl

theorem passWalk_steady (hk : Steady K) (es : List StartEntry) (a o : Nat) (hes : ∀ e ∈ es, e.pump ≠ p)
    (h : Steadily K p s) : Steadily K p (passWalk es a o s) := by
  induction es generalizing a o s with
  | nil => exact recordPass_steady _ h
  | cons e es ih =>
    have hes' : ∀ x ∈ es, x.pump ≠ p := fun x hx => hes x (List.mem_cons_of_mem _ hx)
    unfold passWalk
    split
    · exact ih _ _ hes' h
    · split
      · exact ih _ _ hes' (admit_steady hk (hes e List.mem_cons_self) h)
      · exact recordPass_steady _ h

theorem admissionPass_steady (hk : Steady K) (h : Steadily K p s) : Steadily K p (admissionPass s) := by
  unfold admissionPass
  split
  · exact recordPass_steady _ h
  · exact passWalk_steady hk _ _ _ h.absent h

theorem meterShed_steady (hk : Steady K) (h : Steadily K p s) : Steadily K p (meterShed s) := by
  unfold meterShed
  split
  · split
    · exact h
    · exact (raisePump_steady _ _ _ _ (issueStop_steady hk _ _ h)).of_parts rfl (fun _ => id) rfl
  · exact h

theorem shedLoop_steady (hk : Steady K) (n : Nat) (h : Steadily K p s) : Steadily K p (shedLoop n s) := by
  induction n generalizing s with
  | zero => exact h
  | succ n ih =>
    unfold shedLoop
    split
    · split
      · exact h
      · exact ih (raisePump_steady _ _ _ _ (issueStop_steady hk _ _ h))
    · exact h

theorem markEpisode_steady (h : Steadily K p s) : Steadily K p (markEpisode s) := by
  unfold markEpisode
  split
  · split
    · exact h
    · exact h.of_parts rfl (fun _ => id) rfl
  · split
    · exact h.of_parts rfl (fun _ => id) rfl
    · exact h

theorem shedTest_steady (hk : Steady K) (h : Steadily K p s) : Steadily K p (shedTest s) := by
  unfold shedTest
  split
  · exact h
  · exact markEpisode_steady (shedLoop_steady hk _ (meterShed_steady hk (markEpisode_steady h)))

/-! ### The House Dispatcher -/

theorem updHouse_steady (k : House) (f : HouseLive → HouseLive) (h : Steadily K p s) : Steadily K p (updHouse k f s) :=
  h.of_parts rfl (fun _ => id) rfl

theorem raiseHousePumps_steady (hk : Steady K) (k : House) (w : Nat) (h : Steadily K p s) :
    Steadily K p (raiseHousePumps k w s) := by
  unfold raiseHousePumps
  refine foldl_steady _ (fun s q h => ?_) _ h
  unfold raiseStep
  split
  · next hc =>
    simp only [Bool.and_eq_true, eligible] at hc
    exact queuePump_steady hk (h.ne hk (.inl (by simpa using hc.2.1))) h
  · exact h

theorem shortfallTest_steady (k : House) (w : Nat) (h : Steadily K p s) : Steadily K p (shortfallTest k w s) := by
  unfold shortfallTest
  dsimp only
  split
  · split
    · exact h
    · exact h.of_parts rfl (fun _ => id) rfl
  · exact h.of_parts rfl (fun _ => id) rfl

theorem withdrawQueued_steady (hk : Steady K) (k : House) (w n : Nat) (h : Steadily K p s) :
    Steadily K p (withdrawQueued k w n s) := by
  induction n generalizing s with
  | zero => exact h
  | succ n ih =>
    unfold withdrawQueued
    split
    · split
      · exact h
      · exact ih (unqueue_steady hk _ h)
    · exact h

theorem isolateStop_steady (hk : Steady K) (k : House) (h : Steadily K p s) : Steadily K p (isolateStop k s) := by
  unfold isolateStop
  split
  · split
    · exact h
    · exact issueStop_steady hk _ _ h
  · exact h

theorem surplusStop_steady (hk : Steady K) (k : House) (w : Nat) (c : StopCause) (h : Steadily K p s) :
    Steadily K p (surplusStop k w c s) := by
  unfold surplusStop
  split
  · split
    · exact h
    · exact issueStop_steady hk _ _ h
  · exact h

theorem lowerHouse_steady (hk : Steady K) (k : House) (w : Nat) (h : Steadily K p s) :
    Steadily K p (lowerHouse k w s) := by
  unfold lowerHouse
  split
  · exact h
  · split
    · exact foldl_steady _ (fun _ q h => issueStop_steady hk _ q h) _ h
    · exact surplusStop_steady hk _ _ _ (isolateStop_steady hk _ h)

theorem evaluateHouse_steady (hk : Steady K) (k : House) (h : Steadily K p s) : Steadily K p (evaluateHouse k s) := by
  unfold evaluateHouse
  dsimp only
  refine lowerHouse_steady hk _ _ (withdrawQueued_steady hk _ _ _ ?_)
  split
  · exact updHouse_steady _ _ h
  · exact shortfallTest_steady _ _ (raiseHousePumps_steady hk _ _ (updHouse_steady _ _ h))

/-! ### The work of an event -/

theorem workStep_steady (hk : Steady K) {u : State} (h : Steadily K p s) (hu : workStep s = some u) :
    Steadily K p u := by
  unfold workStep at hu
  rw [if_neg (by simp [h.surveyed])] at hu
  split at hu
  · cases hu; exact shedTest_steady hk (h.of_parts rfl (fun _ => id) rfl)
  · split at hu
    · cases hu
      unfold takeNotice
      dsimp only
      split
      · exact evaluateHouse_steady hk _ (h.of_parts rfl (fun _ => id) rfl)
      · exact h.of_parts rfl (fun _ => id) rfl
    · split at hu
      · cases hu
      · cases hu; exact admissionPass_steady hk (h.of_parts rfl (fun _ => id) rfl)

theorem settle_steady (hk : Steady K) (n : Nat) (h : Steadily K p s) : Steadily K p (settle n s) := by
  induction n generalizing s with
  | zero => exact h.of_parts rfl (fun _ => id) h.surveyed.symm
  | succ n ih =>
    unfold settle
    split
    · exact h
    · next u hu => exact ih (resum_steady (workStep_steady hk h hu))

theorem settleAll_steady (hk : Steady K) (h : Steadily K p s) : Steadily K p (settleAll s) :=
  settle_steady hk _ (resum_steady h)

/-- A property that the work of an event keeps holds of a pump at the end of an event, if it held after the event's own
changes. -/
theorem finish_steady (hk : Steady K) (h : Steadily K p s) : Steadily K p (finish s) := by
  have h' := settleAll_steady hk h
  have e : (finish s).pumps = (settleAll s).pumps := busGoesOn_pumps (settleAll s)
  refine ⟨by rw [e]; exact h'.holds, ?_, ?_⟩
  · have : (finish s).feeder = (settleAll s).feeder := busGoesOn_feeder (settleAll s)
    rw [this]
    exact h'.absent
  · exact congrArg Work.surveyEnd (finish_settled s).1

/-- A pump that is UNUSED, in REST, LOCAL, FAULTED or ISOLATED keeps its record. -/
theorem parked_steady (r0 : PumpLive)
    (h : r0.state = .unused ∨ r0.state = .rest ∨ r0.state = .localControl ∨ r0.state = .faulted ∨
      r0.state = .isolated) : Steady (fun r => r = r0) := by
  constructor
  · rintro r rfl; rcases h with h | h | h | h | h <;> simp [h]
  · rintro r b rfl h'; rcases h with h | h | h | h | h <;> simp [h] at h'
  · rintro r b rfl h'; rcases h with h | h | h | h | h <;> simp [h] at h'
  · rintro r rfl h'; rcases h with h | h | h | h | h <;> simp [h] at h'
  · rintro r rfl h'; rcases h with h | h | h | h | h <;> simp [h] at h'

end Sys2Proof.Machine
end

