-- ==== Sys2Proof/Tests/Slice0.lean ====
section
/-! SUPPORT. Tests of single commands, with what they expect taken from the spec's examples and tables (the section is
named at each), the smoke test of WellFormed, and for every statement with hypotheses a witness that meets them. -/

namespace Sys2Proof.Tests

set_option Elab.async false

open Sys2Proof Sys2Proof.Machine

/-! ### The network of section 1.7 -/

/-- A tank of the network. -/
def tankOf (st : Station) (channel : Fin 2) (base height overflow : Nat) (stop start : Vector Nat 4)
    (lowAlarm : Nat) : TankRecord :=
  { inUse := true, station := st, channel, base, height, overflow, stop, start, lowAlarm, cutoff := 80 }

/-- A house of the network. -/
def houseRecord (st : Station) (suction : Option Tank) (elevation : Nat) (delivery : Tank)
    (pumpCount priority friction mainSettle : Nat) : HouseRecord :=
  { inUse := true, station := st, suction, sourceElevation := elevation, delivery, pumpCount, priority, friction
    mainSettle, levelFilter := 10, recoveryTime := 300, recoveryRetries := 2, fallback := 1, initialMode := .auto }

/-- A pump of the network. -/
def pumpRecord (curve : List CurvePoint) (startFactor : Nat) : PumpRecord :=
  { inUse := true, curve, startFactor, startWindow := 15, minRun := 900, minOff := 600, startsPerHour := 6 }

/-- The curve of pumps 8, 9 and 10 (chapter 5, the booking table of pump 8). -/
def curve8 : List CurvePoint := [⟨3000, 412⟩, ⟨4000, 455⟩, ⟨4500, 478⟩, ⟨5000, 490⟩, ⟨5600, 496⟩]

/-- Days 0 to 4. -/
def workDays : DaySet := #v[true, true, true, true, true, false, false]

/-- The four-house network of section 1.7, with the tariff of section 6.2, the timetable entry of section 6.5 and the
alarm actions of section 7.10. -/
def net : Plan :=
  { header := { clearHeader with label := 1001, defaultCap := 2400, permitCount := 2, suctionMargin := 40 }
    houses :=
      #v[houseRecord 0 none 9600 0 2 1 40 30, houseRecord 1 (some 0) 0 1 2 3 50 30,
        houseRecord 2 (some 1) 0 3 3 5 60 45, houseRecord 3 (some 1) 0 2 1 6 30 30,
        clearHouse, clearHouse, clearHouse, clearHouse]
    tanks :=
      ((((Vector.replicate 12 clearTank).set 0 (tankOf 1 0 10000 450 420 #v[400, 390, 0, 0] #v[350, 300, 0, 0] 100)).set
        1 (tankOf 2 0 12000 450 420 #v[400, 390, 0, 0] #v[350, 300, 0, 0] 100)).set
        2 (tankOf 3 0 14000 500 460 #v[440, 0, 0, 0] #v[380, 0, 0, 0] 150)).set
        3 (tankOf 2 1 15800 500 460 #v[440, 430, 420, 0] #v[380, 330, 280, 0] 150)
    pumps := Vector.ofFn fun p : Pump =>
      if p = 8 ∨ p = 9 ∨ p = 10 then pumpRecord curve8 32
      else if p = 0 ∨ p = 1 ∨ p = 4 ∨ p = 5 ∨ p = 12 then pumpRecord [⟨100, 300⟩, ⟨6000, 480⟩] 20
      else clearPump
    stations := Vector.ofFn fun st : Station => if st.val < 4 then ⟨true, 10⟩ else clearStation
    alarmMap := ((((Vector.replicate 256 clearAlarm).set 17 ⟨.lockout, 5⟩).set 40 ⟨.trip, 0⟩).set 61 ⟨.inhibit, 30⟩).set
      62 ⟨.note, 3⟩
    tariff :=
      ((((Vector.replicate 12 clearWindow).set
        0 { inUse := true, startMinute := 420, days := workDays, cap := 1800, periodLabel := 1 }).set
        1 { inUse := true, startMinute := 660, days := workDays, cap := 3000, periodLabel := 2 }).set
        2 { inUse := true, startMinute := 1320, days := workDays, cap := 3200, periodLabel := 3 })
    timetable := (Vector.replicate 24 clearEntry).set 5
      { inUse := true, house := 2, kind := .floor, count := 2, startMinute := 300, duration := 90, days := workDays
        guardKind := .below, guardLevel := 400, limited := true, runs := 1, retired := false } }

/-! ### States -/

/-- A state with its sums and pins put right. -/
def tidy (s : State) : State :=
  drivePins { s with feeder := { s.feeder with committed := sumBookings s, committedForShed := sumForShed s } }

/-- A READY pump. -/
def readyPump : PumpLive := { blankPump with state := .ready }

/-- A RUNNING pump admitted at an uptime. -/
def runningPump (start booking : Nat) : PumpLive :=
  { blankPump with
    state := .running, booking, startTime := some start, admittedStart := true, admittedM := some 1
    reachedRunning := true, history := [start] }

/-- The network at uptime 10000 and no set time: every pump READY, every house in AUTO with nothing wanted, every station
ONLINE, the bus IDLE and the Event Queue empty. -/
def calm : State :=
  tidy { State.reset with
    time := { uptime := 10000, net := none }
    banks :=
      { a := { plan := net, state := .checked, lastCheck := .passed, table := some (bookingTable net) }
        b := emptyBank, active := some .a }
    bus := { blankBus with stations := Vector.replicate 12 { blankStation with state := .online } }
    levels := Vector.replicate 12
      ⟨some 390, .fresh, some 9990, some 10290, false⟩
    hydraulics := Vector.replicate 8 { blankHydraulics with degraded := false }
    pumps := Vector.ofFn fun p : Pump => if net.pumps[p].inUse then readyPump else blankPump
    houses := Vector.ofFn fun h : House =>
      if net.houses[h].inUse then
        { blankHouse with mode := .auto, limit := .level, dutyList := net.pumpsInUse h }
      else blankHouse
    feeder := { blankFeeder with cap := 2400 }
    eventQueue := { records := [], overflow := false, nextSeq := 300 } }

/-- `calm` with one pump changed. -/
def withPump (p : Pump) (r : PumpLive) (s : State) : State := tidy { s with pumps := s.pumps.set p r }

/-- A transaction whose request was sent at uptime 10000. -/
def flightOf (unit : BusUnit) (request : Request) : Flight :=
  { unit, request, timeout := 200, frame := [], sentAt := some 10000, partialReply := [], discarded := false }

/-- A state with a transaction in flight whose request has been sent. -/
def waiting (unit : BusUnit) (request : Request) (s : State) : State :=
  { s with bus := { s.bus with flight := some (flightOf unit request) } }

/-- A state at another uptime. -/
def atTime (uptime : Nat) (s : State) : State := { s with time := { s.time with uptime } }

/-- A state with the network time set. -/
def atNet (second : Nat) (day : Day) (s : State) : State := { s with time := { s.time with net := some { second, day } } }

/-- A state with one house's record changed. -/
def withHouse (h : House) (r : HouseLive) (s : State) : State := { s with houses := s.houses.set h r }

/-- A state with one house's protection record changed. -/
def withProtection (h : House) (r : Protection) (s : State) : State := { s with protection := s.protection.set h r }

/-- The state after a command; the state itself if the command stops. -/
def after (c : Instr) (s : State) : State :=
  match exec c s with
  | .next t => t
  | .fault _ => s
  | .refused _ => s

/-- The events of a state, by kind and values. -/
def told (s : State) : List (EventKind × Nat × Nat) := s.eventQueue.records.map fun r => (r.kind, r.value1, r.value2)

/-- The body of the reply in progress. -/
def said (s : State) : Option (List Byte) := s.link.reply.map fun r => r.body

/-- Whether an outcome is a next state. -/
def goesOn (o : Host.Outcome State Fault Refusal) : Bool :=
  match o with
  | .next _ => true
  | .fault _ => false
  | .refused _ => false

theorem next_of {o : Host.Outcome State Fault Refusal} (h : goesOn o = true) : ∃ t, o = .next t := by
  cases o with
  | next t => exact ⟨t, rfl⟩
  | fault r => cases h
  | refused r => cases h

/-- `Running` as a test. -/
def runs (s : State) : Bool :=
  decide (s.work = blankWork) && decide (s.feeder.committed = sumBookings s) &&
    decide (s.feeder.committedForShed = sumForShed s) &&
    (!(planned s && s.bus.flight.isNone) || s.bus.queue.isEmpty) &&
    decide (s.attn = (!s.inReset && !s.eventQueue.records.isEmpty)) &&
    decide (s.busDe = (!s.inReset && s.bus.flight.any fun f => f.sentAt.isNone)) && !s.inReset

theorem running_of {s : State} (h : runs s = true) : Running s := by
  simp only [runs, Bool.and_eq_true, decide_eq_true_eq, Bool.or_eq_true, Bool.not_eq_true', Bool.and_eq_false_iff] at h
  obtain ⟨⟨⟨⟨⟨⟨h1, h2⟩, h3⟩, h4⟩, h5⟩, h6⟩, h7⟩ := h
  refine ⟨⟨h1, ⟨h2, h3⟩, fun hp hf => ?_, h5, h6⟩, h7⟩
  rcases h4 with (h4 | h4) | h4
  · simp [h4] at hp
  · simp [hf] at h4
  · simpa using h4

theorem ready_of {s : State} (h : runs s = true) (hl : s.link.buffer = [] ∧ s.link.reply = none) : Ready s :=
  ⟨(running_of h).1, (running_of h).2, hl⟩

theorem all_running {l : List State} (h : l.all runs = true) : ∀ s ∈ l, Running s :=
  fun s hs => running_of (List.all_eq_true.mp h s hs)

theorem all_ready {l : List State} (h : l.all runs = true)
    (hl : ∀ s ∈ l, s.link.buffer = [] ∧ s.link.reply = none) : ∀ s ∈ l, Ready s :=
  fun s hs => ready_of (List.all_eq_true.mp h s hs) (hl s hs)

theorem all_next {l : List (Host.Outcome State Fault Refusal)} (h : l.all goesOn = true) : ∀ o ∈ l, ∃ t, o = .next t :=
  fun o ho => next_of (List.all_eq_true.mp h o ho)

theorem waiting_waits (unit : BusUnit) (request : Request) (s : State) :
    Waiting (flightOf unit request) (waiting unit request s) := ⟨rfl, rfl, rfl, rfl⟩

/-- `QueueHoldsTheQueued`, as a test. -/
def keepsQueue (s : State) : Bool :=
  decide (∀ e ∈ s.feeder.queue, s.pumps[e.pump].state = .queued ∧ e.house = houseOf e.pump) &&
    decide (∀ p : Pump, s.pumps[p].state = .queued → ∃ e ∈ s.feeder.queue, e.pump = p) &&
    decide (s.feeder.queue.map fun e => e.pump).Nodup

theorem queue_of {s : State} (h : keepsQueue s = true) : QueueHoldsTheQueued s := by
  simp only [keepsQueue, Bool.and_eq_true, decide_eq_true_eq] at h
  exact ⟨h.1.1, h.1.2, h.2⟩

theorem all_queue {l : List State} (h : l.all keepsQueue = true) : ∀ s ∈ l, QueueHoldsTheQueued s :=
  fun s hs => queue_of (List.all_eq_true.mp h s hs)

theorem calm_runs : Running calm := running_of (by decide +kernel)

theorem calm_ready : Ready calm := ready_of (by decide +kernel) (by decide +kernel)

theorem calm_queue : QueueHoldsTheQueued calm := queue_of (by decide +kernel)

theorem reset_ready : Ready State.reset := ready_of (by decide +kernel) (by decide +kernel)

/-! ### WellFormed -/

theorem test_bodyTooLong : (Instr.ident 0 (List.replicate 251 0)).defect = some .bodyTooLong := by decide +kernel

theorem test_kindIsDefined : (Instr.unknownKind 18 0 []).defect = some .kindIsDefined := by decide +kernel

theorem test_noBytes : (Instr.report []).defect = some .noBytes := by decide +kernel

theorem test_wellFormed : (Instr.unknownKind 19 0 (List.replicate 250 0)).defect = none := by decide +kernel

/-! ### Decode: the table gives no row bits (log 43) -/

theorem test_decode_none : decodeTableWord 8 1 = none := by decide

/-! ### The machine as a whole -/

theorem witness_StepTakesFront :
    ({ calm with pending := [.ident 1 [], .replySent] } : State).pending = [.ident 1 [], .replySent] := by decide +kernel

/-- Clauses of IdleStepIsTheClock: in reset, with an event due, and with none due. -/
theorem witness_IdleStepIsTheClock :
    ({ State.reset with inReset := true } : State).pending = [] ∧
      (State.reset.pending = [] ∧ State.reset.inReset = false ∧ dueEvents State.reset = []) ∧
      let s := { calm with hydraulics := calm.hydraulics.set 2 { blankHydraulics with overflow := ⟨false, some ⟨9990, 10⟩⟩ } }
      s.pending = [] ∧ s.inReset = false ∧ dueEvents s = [.conditionFilterExpiry 2 .overflow] := by decide +kernel

theorem witness_EveryStepSettles : Settled calm ∧ ∃ t, step calm = .next t :=
  ⟨calm_runs.1, next_of (by decide +kernel)⟩

/-- The reply of RESTART in progress. -/
def restarting : State := { calm with link := { calm.link with reply := some ⟨0x92, 7, [0], true⟩ } }

theorem witness_AttentionFollowsTheQueue :
    Settled calm ∧
      (∀ o ∈ [step calm, exec (.powerOn true false true) calm, exec (.resetLine true false true) calm,
        exec .hostRestart restarting], ∃ t, o = .next t) ∧
      restarting.inReset = false ∧ restartReplyInProgress restarting = true :=
  ⟨calm_runs.1, all_next (by decide +kernel), by decide +kernel⟩

theorem witness_BusDriverFollowsTheRequest : Settled calm ∧ ∃ t, step calm = .next t :=
  ⟨calm_runs.1, next_of (by decide +kernel)⟩

/-- An Event Queue with 128 records, numbered from 300 (section 10.9). -/
def fullQueue : EventQueue :=
  { records := (List.range 128).map fun i => ⟨300 + i, 9000, none, .run, some 2, some 8, none, 1, 467⟩
    overflow := false, nextSeq := 428 }

theorem witness_EventQueueStaysBounded :
    ({ calm with eventQueue := { fullQueue with nextSeq := 65535 } } : State).eventQueue.records.length ≤ 128 ∧
      ({ calm with eventQueue := { fullQueue with nextSeq := 65535 } } : State).eventQueue.nextSeq < 65536 ∧
      goesOn (step { calm with eventQueue := { fullQueue with nextSeq := 65535 } }) = true := by decide +kernel

/-- The end of an ordinary reply. -/
theorem witness_OnlyRestartAndCrossingCommandsMoveTheClock :
    let s := { calm with link := { calm.link with reply := some ⟨0x81, 1, [0], false⟩ } }
    (∃ t, exec .replySent s = .next t) ∧ restartReplyInProgress s = false ∧
      (∀ a b d, Instr.replySent ≠ .powerOn a b d) ∧ (∀ a b d, Instr.replySent ≠ .resetLine a b d) ∧
      Instr.replySent ≠ .hostRestart ∧ Instr.replySent ≠ .minuteCrossing ∧ Instr.replySent ≠ .midnightCrossing :=
  ⟨next_of (by decide +kernel), by decide +kernel⟩

theorem witness_ActiveBankIsNotWritten :
    (∃ t, exec (.bankClear 1 [0]) calm = .next t ∧ t.banks.active = some .a) ∧ calm.banks.active = some .a ∧
      (∀ a b d, Instr.bankClear 1 [0] ≠ .powerOn a b d) ∧ ∀ a b d, Instr.bankClear 1 [0] ≠ .resetLine a b d :=
  ⟨⟨after (.bankClear 1 [0]) calm, by simp only [after, exec_bankClear, live_running calm_runs.2], by decide +kernel⟩,
    by decide +kernel⟩

/-! ### Restarts -/

/-- An image that breaks a relation. -/
def brokenImage : State :=
  { State.reset with store :=
    { image := some { net with header := { net.header with meterShedLevel := 0 } }, valid := false, writing := none } }

/-- `State.reset` with the network in the store. -/
def stored : State := { State.reset with store := { image := some net, valid := true, writing := none } }

/-- `State.reset` with a plan in the store that has no station in use. -/
def bareStore : State := { State.reset with store := { image := some clearPlan, valid := true, writing := none } }

theorem witness_ResetHoldsThePart :
    ({ calm with inReset := true } : State).inReset = true ∧ (∀ a b d, Instr.replySent ≠ .powerOn a b d) ∧
      (∀ a b d, Instr.replySent ≠ .resetLine a b d) ∧ Instr.replySent ≠ .resetAsserted := by decide +kernel

/-- No image, an image that does not match, an image that breaks a relation. -/
theorem witness_ColdRestartWithoutAPlan :
    (∀ pl, State.reset.store.image = some pl → true = true → firstFailure pl ≠ none) ∧
      (∀ pl, stored.store.image = some pl → false = true → firstFailure pl ≠ none) ∧
      ∀ pl, brokenImage.store.image = some pl → true = true → firstFailure pl ≠ none := by
  refine ⟨by simp [State.reset], by simp, fun pl h _ => ?_⟩
  cases h
  decide +kernel

/-- A plan with stations in use, and one with none. -/
theorem witness_ColdRestartWithAPlan :
    (stored.store.image = some net ∧ firstFailure net = none ∧ ∃ st : Station, net.stations[st].inUse = true) ∧
      bareStore.store.image = some clearPlan ∧ firstFailure clearPlan = none ∧
      ¬ ∃ st : Station, clearPlan.stations[st].inUse = true := by decide +kernel

/-- Planned with stations and with none, and UNPLANNED; and no RESTART reply. -/
theorem witness_HostRestartKeepsThePlan :
    (restarting.inReset = false ∧ restartReplyInProgress restarting = true ∧ planned restarting = true ∧
      ∃ st : Station, (planOf restarting).stations[st].inUse = true) ∧
      (let s := { restarting with banks := { restarting.banks with b := emptyBank, active := some .b } }
       restartReplyInProgress s = true ∧ planned s = true ∧ firstFailure (planOf s) = none) ∧
      (let s := { State.reset with link := restarting.link }
       s.inReset = false ∧ restartReplyInProgress s = true ∧ planned s = false) ∧
      calm.inReset = false ∧ restartReplyInProgress calm = false := by decide +kernel

/-- Section 4.8: after RESET_LINE eight pumps are UNCONFIRMED and stations 1 to 4 awaited; nothing but RESTARTED is told. -/
theorem test_resetLine :
    let t := after (.resetLine true false true) stored
    (allPumps.filter fun p => t.pumps[p].state == .unconfirmed) = [0, 1, 4, 5, 8, 9, 10, 12] ∧
      t.survey.awaited = [0, 1, 2, 3] ∧ told t = [(.restarted, 1, 2)] ∧ t.pumps[(8 : Pump)].booking = 484 := by
  decide +kernel

/-- R180: a store that holds nothing leaves the part UNPLANNED, with STORE_INVALID. -/
theorem test_powerOn :
    told (after (.powerOn false true true) calm) = [(.restarted, 0, 1), (.storeInvalid, 0, 0)] ∧
      told (after (.powerOn true true true) brokenImage) = [(.restarted, 0, 3), (.storeInvalid, 1, 0)] := by
  decide +kernel

/-- R193: while the reset input is asserted the attention output is deasserted and nothing is taken. -/
theorem test_resetAsserted :
    (after .resetAsserted State.reset).attn = false ∧
      said (after (.ident 1 []) (after .resetAsserted State.reset)) = none := by decide +kernel

/-- R196: the part restarts as the RESTART reply ends, with the active selection kept. -/
theorem test_hostRestart :
    told (after .replySent restarting) = [(.restarted, 2, 0)] ∧
      (after .replySent restarting).banks.active = some .a := by decide +kernel

/-- R81, R82: with no station in use the survey ends at the restart. -/
theorem test_noStation :
    told (after (.powerOn true false true) bareStore) = [(.restarted, 0, 2), (.surveyDone, 0, 0)] ∧
      (after (.powerOn true false true) bareStore).survey.running = false := by decide +kernel

/-! ### The Supervisory Link -/

/-- The CRC of the digits 1 to 9 is 0x29B1 for this polynomial and initial value (general knowledge of the CRC). -/
theorem test_crc : crc16 [0x31, 0x32, 0x33, 0x34, 0x35, 0x36, 0x37, 0x38, 0x39] = 0x29B1 := by decide +kernel

/-- An empty body and the longest one. -/
theorem witness_FrameIsItsRequest :
    (calm.inReset = false ∧ calm.link.receiver = .hunt ∧ requestFrame (.ident 7 []) = some ⟨1, 7, []⟩ ∧
      (Instr.ident 7 []).WellFormed) ∧
      requestFrame (.unknownKind 255 7 (List.replicate 250 0)) = some ⟨255, 7, List.replicate 250 0⟩ ∧
      (Instr.unknownKind 255 7 (List.replicate 250 0)).WellFormed := by decide +kernel

/-- A state whose receiver is in FRAME with some bytes. -/
def inFrame (bs : List Byte) : State := { calm with link := { calm.link with receiver := .frame bs } }

/-- A reply in progress, with some frames waiting. -/
def replyingWith (buffer : List Frame) : State :=
  { calm with link := { calm.link with buffer, reply := some ⟨0x81, 1, [0], false⟩ } }

/-- A run of 63 zeros. -/
def zeros : List Byte := List.replicate 63 0

/-- The longest frame, of zeros. -/
def longBad : List Byte := (250 :: zeros) ++ zeros ++ zeros ++ zeros ++ [0, 0]

theorem longBad_bad : crcMatches longBad = false := by
  have h0 : (250 :: zeros : List Byte).foldl crcByte 0xFFFF#16 = 0xD3E3#16 := by decide +kernel
  have h1 : zeros.foldl crcByte 0xD3E3#16 = 0xC042#16 := by decide +kernel
  have h2 : zeros.foldl crcByte 0xC042#16 = 0x23EA#16 := by decide +kernel
  have h3 : zeros.foldl crcByte 0x23EA#16 = 0xF593#16 := by decide +kernel
  have hc : crc16 ((250 :: zeros) ++ zeros ++ zeros ++ zeros) = 0xF593#16 := by
    simp only [crc16, List.foldl_append, h0, h1, h2, h3]
  have ht : longBad.take (longBad.length - 2) = (250 :: zeros) ++ zeros ++ zeros ++ zeros := by decide +kernel
  have hd : longBad.drop (longBad.length - 2) = [0, 0] := by decide +kernel
  rw [crcMatches, ht, hd, crcBytes, hc]
  decide +kernel

/-- The receiver in HUNT, in FRAME with no byte, with one byte and with its last byte but two; a bad frame with no body and
one with the longest; a good one with room for one more and with none. -/
theorem witness_ReceiverTakesBytesAndFrames :
    (∀ s ∈ [calm, inFrame [], inFrame [250], inFrame [0, 1, 7], replyingWith [⟨1, 2, []⟩],
      replyingWith [⟨1, 2, []⟩, ⟨1, 3, []⟩]], Running s) ∧
      (longBad.length = 5 + fieldAt longBad 0 1 ∧ fieldAt longBad 0 1 ≤ 250 ∧ crcMatches longBad = false) ∧
      calm.link.receiver = .hunt ∧ (inFrame []).link.receiver = .frame [] ∧
      ((inFrame [250]).link.receiver = .frame [250] ∧ [250] ≠ ([] : List Byte) ∧
        [(250 : Byte)].length + 1 ≠ 5 + fieldAt [250] 0 1) ∧
      [(0 : Byte), 1, 7].length + 1 ≠ 5 + fieldAt [0, 1, 7] 0 1 ∧
      (([0, 1, 7, 0, 0] : List Byte).length = 5 + fieldAt [0, 1, 7, 0, 0] 0 1 ∧ crcMatches [0, 1, 7, 0, 0] = false) ∧
      ((replyingWith [⟨1, 2, []⟩]).link.reply.isSome = true ∧ (replyingWith [⟨1, 2, []⟩]).link.receiver = .hunt ∧
        (replyingWith [⟨1, 2, []⟩]).link.buffer.length < 2 ∧ (List.replicate 250 (0 : Byte)).length ≤ 250) ∧
      2 ≤ (replyingWith [⟨1, 2, []⟩, ⟨1, 3, []⟩]).link.buffer.length :=
  ⟨all_running (by decide +kernel), ⟨by decide +kernel, by decide +kernel, longBad_bad⟩, by decide +kernel⟩

/-- An empty buffer, and a full one. -/
theorem witness_ReplySentTakesTheNextRequest :
    (∀ s ∈ [replyingWith [], replyingWith [⟨1, 2, []⟩, ⟨17, 3, []⟩]],
      Running s ∧ s.link.reply = some ⟨0x81, 1, [0], false⟩) ∧
      (replyingWith []).link.buffer = [] ∧ requestFrame (.ident 2 []) = some ⟨1, 2, []⟩ ∧
      (replyingWith [⟨1, 2, []⟩, ⟨17, 3, []⟩]).link.buffer = ⟨1, 2, []⟩ :: [⟨17, 3, []⟩] :=
  ⟨fun s hs => ⟨all_running (by decide +kernel) s hs, by revert s; decide +kernel⟩, by decide +kernel⟩

/-- R185: the longest body is 250 bytes; a length above it is discarded. -/
theorem test_supByteReceived :
    (after (.supByteReceived 250 true) (inFrame [])).link.receiver = .frame [250] ∧
      (after (.supByteReceived 251 true) (inFrame [])).link.receiver = .hunt ∧
      (after (.supByteReceived 251 true) (inFrame [])).link.counters.lengthDiscards = 1 := by decide +kernel

/-- R185: a silence inside a frame discards it. -/
theorem test_supGapExpiry :
    (after .supGapExpiry (inFrame [5, 3])).link.receiver = .hunt ∧
      (after .supGapExpiry (inFrame [5, 3])).link.counters.gapDiscards = 1 := by decide +kernel

/-- R184, R186: an IDENT frame is taken, and its reply is in progress. -/
theorem test_supFrameReceived :
    let t := after (.supFrameReceived ([0xA5, 0, 1, 7] ++ crcBytes [0, 1, 7])) State.reset
    (t.link.reply.map fun r => (r.kind, r.tag)) = some (0x81, 7) ∧ t.link.counters.framesTaken = 1 := by decide +kernel

/-- Section 10.9, moment e: the reply to tag 10 ends, and EVENT_READ takes records 300 to 307. -/
theorem test_replySent :
    let t := after .replySent
      { replyingWith [⟨17, 11, []⟩, ⟨13, 12, [9]⟩] with eventQueue := { fullQueue with overflow := true, nextSeq := 429 } }
    t.link.buffer = [⟨13, 12, [9]⟩] ∧ t.eventQueue.records.length = 120 ∧ t.eventQueue.overflow = false ∧
      ((said t).map fun b => b.take 6) = some [0, 1, 8, 120, 0x01, 0x2C] := by decide +kernel

/-! ### Requests -/

/-- Kinds 0, 19 and 255. -/
theorem witness_SimpleRequestsAreAnswered :
    Ready calm ∧ ∀ k : Byte, k = 0 ∨ k = 19 ∨ k = 255 → k.toNat = 0 ∨ 18 < k.toNat :=
  ⟨calm_ready, by decide +kernel⟩

theorem witness_EventReadRemovesTheOldest : ∀ s ∈ [tidy { calm with eventQueue := fullQueue }, calm], Ready s :=
  all_ready (by decide +kernel) (by decide +kernel)

/-- The items of a subject. -/
def itemsOf (s : State) (subject index : Nat) : List (List Byte) :=
  match readSubject s subject index with
  | .ok items => items
  | .error _ => []

theorem items_of {s : State} {subject index : Nat} (h : itemsOf s subject index ≠ []) :
    readSubject s subject index = .ok (itemsOf s subject index) := by
  unfold itemsOf at h ⊢
  split at h
  · next e => rw [e]
  · exact absurd rfl h

/-- A subject beyond the last; an UNPLANNED part; an index not in use of each subject; a page and one past the last. -/
theorem witness_StateReadReturnsAPage :
    (Ready calm ∧ 5 < (6 : Byte).toNat) ∧ (Ready State.reset ∧ planned State.reset = false) ∧
      (planned calm = true ∧ (∀ h : House, h.val = (4 : Byte).toNat → houseInUse calm h = false) ∧
        32 ≤ (32 : Byte).toNat ∧ (∀ t : Tank, t.val = (12 : Byte).toNat → (planOf calm).tanks[t].inUse = false) ∧
        (0 : Byte) ≠ 15 ∧
        ∀ st : Station, stationAddress st = (0 : Byte).toNat → (planOf calm).stations[st].inUse = false) ∧
      readSubject (counted calm) 1 2 = .ok (itemsOf (counted calm) 1 2) ∧
      (pagesOf (itemsOf (counted calm) 1 2))[(0 : Byte).toNat]?.isSome = true ∧
      (pagesOf (itemsOf (counted calm) 1 2)).length ≤ (255 : Byte).toNat :=
  ⟨⟨calm_ready, by decide +kernel⟩, ⟨reset_ready, by decide +kernel⟩, by decide +kernel, items_of (by decide +kernel),
    by decide +kernel, by decide +kernel⟩

/-- A tank, a house and a station in use, and pumps that are UNUSED and not; an UNPLANNED part. -/
theorem witness_StateReadReturnsTheRecords :
    planned calm = true ∧ (planOf calm).tanks[(3 : Tank)].inUse = true ∧ houseInUse calm 2 = true ∧
      calm.pumps[(8 : Pump)].state ≠ .unused ∧ calm.pumps[(2 : Pump)].state = .unused ∧
      (planOf calm).stations[(2 : Station)].inUse = true ∧ planned State.reset = false := by decide +kernel

/-- R195: kind 820, and what an UNPLANNED part returns. -/
theorem test_ident :
    ((said (after (.ident 9 []) State.reset)).map fun b => (b.take 3, b.drop 4)) =
      some ([0, 3, 52], [0, 0, 0, 0, 0, 0, 255, 255, 255, 255, 2, 255, 255, 255, 255, 0, 0]) := by decide +kernel

/-- R189: UNKNOWN_KIND and BAD_LENGTH. -/
theorem test_unknownKind :
    ((after (.unknownKind 99 5 [1]) calm).link.reply.map fun r => (r.kind, r.tag, r.body)) = some (227, 5, [2]) ∧
      said (after (.ident 5 [1]) calm) = some [1] := by decide +kernel

/-- R196: RESTART is answered, and the part goes on until the reply ends. -/
theorem test_restart :
    said (after (.restart 5 []) calm) = some [0] ∧ restartReplyInProgress (after (.restart 5 []) calm) = true ∧
      (after (.restart 5 []) calm).eventQueue = calm.eventQueue := by decide +kernel

/-- R198, R200: the last record leaves and the attention output is deasserted. -/
theorem test_eventRead :
    (said (after (.eventRead 5 []) State.reset)).map (fun b => (b.take 4, b.length)) = some ([0, 0, 2, 0], 36) ∧
      (after (.eventRead 5 []) State.reset).attn = false := by decide +kernel

/-- R191: a subject beyond QUEUE, and a house of an UNPLANNED part. -/
theorem test_stateRead :
    said (after (.stateRead 5 [6, 0, 0]) calm) = some [4, 255, 255] ∧
      said (after (.stateRead 5 [1, 0, 0]) State.reset) = some [12] ∧
      ((said (after (.stateRead 5 [1, 2, 0]) calm)).map fun b => b.take 4) = some [0, 1, 2, 0] := by decide +kernel

/-! ### Plan Banks and Plan Store -/

/-- A state with a plan in bank B. -/
def bankB (b : Bank) (s : State) : State := { s with banks := { s.banks with b } }

/-- Bank B with a plan as written, and as checked. -/
def edited (pl : Plan) : Bank := { plan := pl, state := .edited, lastCheck := .absent, table := none }

@[inherit_doc edited]
def checked (pl : Plan) : Bank :=
  { plan := pl, state := .checked, lastCheck := .passed, table := some (bookingTable pl) }

/-- A write of bank B in progress. -/
def writing (s : State) : State := { s with store := { image := none, valid := false, writing := some ⟨.b, net, 0⟩ } }

/-- A header, and a tariff window at the top of its ranges. -/
theorem witness_RecordsAreTheirBytes :
    InFieldRange (.header net.header) ∧
      InFieldRange (.window { inUse := true, startMinute := 1439, days := workDays, cap := 65535, periodLabel := 3 }) ∧
      recordSize .station [1, 60] = some [(1 : Byte), 60].length ∧ decodeRecord .station [1, 60] = some (.station ⟨true, 60⟩) :=
  ⟨by simp only [InFieldRange]; decide +kernel, by simp only [InFieldRange]; decide +kernel, by decide +kernel,
    by decide +kernel⟩

/-- Each test of TABLE_WRITE failing at the edge of its range: kind 8, a body one byte short, bank 2, station 0 and 13, the
active bank, the bank being stored, and a poll interval of 61 behind a good record; and the last station record taken,
with the longest poll interval. -/
theorem witness_TableWriteIsTestedAndWrites :
    (∀ s ∈ [calm, writing calm], Ready s) ∧
      (∀ r ∈ [TableRecord.station ⟨true, 60⟩], kindOfRecord r = .station ∧ InFieldRange r) ∧
      ([TableRecord.station ⟨true, 60⟩] ≠ [] ∧ firstIndex .station ≤ 12 ∧
        12 + [TableRecord.station ⟨true, 60⟩].length ≤ lastIndex .station + 1 ∧
        [TableRecord.station ⟨true, 60⟩].length < 256) ∧
      decodeTableKind (8 : Byte).toNat = none ∧ decodeTableKind (4 : Byte).toNat = some .station ∧
      splitRecords .station (1 : Byte).toNat [1] = none ∧ splitRecords .station (1 : Byte).toNat [1, 60] = some [[1, 60]] ∧
      1 < (2 : Byte).toNat ∧ decodeBank (1 : Byte).toNat = some .b ∧ (0 : Byte).toNat < firstIndex .station ∧
      lastIndex .station < (13 : Byte).toNat + (1 : Byte).toNat - 1 ∧
      (firstIndex .station ≤ (12 : Byte).toNat ∧ (12 : Byte).toNat + (1 : Byte).toNat - 1 ≤ lastIndex .station) ∧
      calm.banks.active = some .a ∧ calm.banks.active ≠ some .b ∧
      beingStored (writing calm) .b = true ∧ beingStored calm .b = false ∧
      splitRecords .station (2 : Byte).toNat [1, 60, 1, 61] = some [[1, 60], [1, 61]] ∧
      decodeRecord .station [1, 61] = none ∧ (decodeRecord .station [1, 60]).isSome = true := by
  refine ⟨all_ready (by decide +kernel) (by decide +kernel), fun r hr => ?_, by decide +kernel⟩
  rw [List.mem_singleton.mp hr]
  exact ⟨rfl, by simp only [InFieldRange]; decide⟩

theorem witness_TableReadCarriesARun :
    Ready calm ∧ 1 < (2 : Byte).toNat ∧ 7 < (8 : Byte).toNat ∧ decodeBank (0 : Byte).toNat = some .a ∧
      decodeTableKind (5 : Byte).toNat = some .alarmMap ∧
      lastIndex .alarmMap < (255 : Byte).toNat + (2 : Byte).toNat - 1 ∧
      1 ≤ (255 : Byte).toNat ∧ firstIndex .alarmMap ≤ (1 : Byte).toNat ∧
      (1 : Byte).toNat + (255 : Byte).toNat - 1 ≤ lastIndex .alarmMap := ⟨calm_ready, by decide +kernel⟩

/-- Bank 2; the active bank; the bank being stored; and a bank that is neither. -/
theorem witness_BankClearEmptiesTheBank :
    (∀ s ∈ [calm, writing calm], Ready s) ∧ 1 < (2 : Byte).toNat ∧ encodeBank .a = (0 : Byte).toNat ∧
      calm.banks.active = some .a ∧
      ((writing calm).banks.active ≠ some .b ∧ ((writing calm).store.writing.map fun w => w.bank) = some .b) ∧
      encodeBank .b = (1 : Byte).toNat ∧ calm.banks.active ≠ some .b ∧
      (calm.store.writing.map fun w => w.bank) ≠ some .b :=
  ⟨all_ready (by decide +kernel) (by decide +kernel), by decide +kernel⟩

/-- The network with house 3 delivering tank 3 (section 1.7). -/
def sharedDelivery : Plan := { net with houses := net.houses.set 3 (houseRecord 3 (some 1) 0 3 1 6 30 30) }

/-- The network with house 0 drawing from tank 3 (section 1.7). -/
def looped : Plan := { net with houses := net.houses.set 0 (houseRecord 0 (some 3) 9600 0 2 1 40 30) }

theorem witness_BankCheckPassesOrReports :
    (∀ s ∈ [bankB (edited net) calm, bankB (edited sharedDelivery) calm], Ready s) ∧
      (1 < (2 : Byte).toNat ∧ encodeBank .b = (1 : Byte).toNat ∧ (bankB (edited net) calm).banks.active ≠ some .b ∧
        firstFailure (bankOf (bankB (edited net) calm) .b).plan = none) ∧
      (encodeBank .a = (0 : Byte).toNat ∧ calm.banks.active = some .a) ∧
      firstFailure (bankOf (bankB (edited sharedDelivery) calm) .b).plan = some ⟨.deliveryShared, .house, 3⟩ :=
  ⟨all_ready (by decide +kernel) (by decide +kernel), by decide +kernel⟩

theorem witness_CascadeWalkFindsEveryLoop :
    net.houses[(3 : House)].inUse = true ∧ walkReturns net 3 8 3 = false ∧ looped.houses[(0 : House)].inUse = true ∧
      walkReturns looped 0 8 0 = true := by decide +kernel

theorem witness_StoreWritesTheActiveBank :
    (∀ s ∈ [State.reset, writing calm, calm], Ready s) ∧ State.reset.banks.active = none ∧
      (writing calm).banks.active = some .a ∧ (writing calm).store.writing = some ⟨.b, net, 0⟩ ∧
      calm.store.writing = none :=
  ⟨all_ready (by decide +kernel) (by decide +kernel), by decide +kernel⟩

/-- The network without house 3 and its pump, and with one permit. -/
def smaller : Plan :=
  { net with
    header := { net.header with permitCount := 1 }, houses := net.houses.set 3 clearHouse
    pumps := net.pumps.set 12 clearPump }

/-- Two pumps that hold permits: with pump 12 in motion, `smaller` fails at the permits and, with one permit fewer, at
house 3. -/
def permits (both : Bool) : State :=
  withPump 12 { readyPump with state := .ordered, permit := some 0, booking := 700 }
    (withPump 8 { readyPump with state := .ordered, permit := if both then some 1 else none, booking := 1495 }
      (bankB (checked smaller) calm))

theorem witness_BankSwapTestsInOrder :
    (∀ s ∈ [calm, permits true, permits false], Ready s) ∧
      1 < (2 : Byte).toNat ∧ encodeBank .a = (0 : Byte).toNat ∧ encodeBank .b = (1 : Byte).toNat ∧
      calm.banks.active = some .a ∧ calm.banks.active ≠ some .b ∧ (bankOf calm .b).state ≠ .checked ∧
      ((bankOf (permits true) .b).state = .checked ∧
        (bankOf (permits true) .b).plan.header.permitCount < permitCountHeld (permits true)) ∧
      permitCountHeld (permits false) ≤ (bankOf (permits false) .b).plan.header.permitCount ∧
      ((planOf (permits false)).houses[(3 : House)].inUse = true ∧
        (bankOf (permits false) .b).plan.houses[(3 : House)].inUse = false ∧
        (12 : Pump).val / 4 = (3 : House).val ∧ (permits false).pumps[(12 : Pump)].state ≠ .ready ∧
        (permits false).pumps[(12 : Pump)].state ≠ .rest ∧ (permits false).pumps[(12 : Pump)].state ≠ .unused) ∧
      ∀ g : House, g < 3 →
        (bankOf (permits false) .b).plan.houses[g].inUse = true ∧
          (bankOf (permits false) .b).plan.houses[g].station = (planOf (permits false)).houses[g].station ∧
          (planOf (permits false)).houses[g].pumpCount ≤ (bankOf (permits false) .b).plan.houses[g].pumpCount :=
  ⟨all_ready (by decide +kernel) (by decide +kernel), by decide +kernel⟩

/-- A plan with stations in use, and one with none. -/
theorem witness_FirstSwapStartsThePlan :
    (∀ s ∈ [bankB (checked net) State.reset, bankB (checked clearPlan) State.reset], Ready s) ∧
      (∀ s ∈ [bankB (checked net) State.reset, bankB (checked clearPlan) State.reset],
        s.banks.active = none ∧ (bankOf s .b).state = .checked ∧ permitCountHeld s = 0) ∧
      (∃ st : Station, (bankOf (bankB (checked net) State.reset) .b).plan.stations[st].inUse = true) ∧
      firstFailure (bankOf (bankB (checked clearPlan) State.reset) .b).plan = none :=
  ⟨all_ready (by decide +kernel) (by decide +kernel), by decide +kernel⟩

/-- The network without house 3, its pump and its station. -/
def shrunk : Plan :=
  { net with
    houses := net.houses.set 3 clearHouse, pumps := net.pumps.set 12 clearPump, stations := net.stations.set 3 clearStation }

/-- A swap by which house 3 comes into use, with its pump and its station. -/
def growing : State :=
  bankB (checked net)
    { calm with
      banks := { calm.banks with a := checked shrunk }, pumps := calm.pumps.set 12 blankPump
      houses := calm.houses.set 3 blankHouse }

/-- Swaps from the network: to itself at a set time, with an interlock, an active window and a mark; to the network without
house 3; and back. -/
def swapping : List State :=
  [{ withProtection 2 { blankProtection with interlock := true } (bankB (checked net) (atNet 18000 1 calm)) with
      timetable := { windowInForce := none, windows := [⟨5, 2, 10500⟩], fired := Vector.replicate 24 true } },
   bankB (checked shrunk) calm, growing]

/-- A house that stays in use, with its tanks, and one that is not in use. -/
theorem witness_SwapCarriesTheStateOver :
    (∀ s ∈ swapping, Ready s) ∧
      (∀ s ∈ swapping, s.banks.active = some .a ∧ swapTest s .b = none) ∧ BankId.a ≠ .b ∧
      (∀ s ∈ swapping,
        let pl := (bankOf s .b).plan
        pl.houses[(4 : House)].inUse = false ∧ pl.houses[(2 : House)].inUse = true ∧
          pl.tanks[pl.houses[(2 : House)].delivery].inUse = true ∧ pl.houses[(2 : House)].suction = some 1 ∧
          pl.tanks[(1 : Tank)].inUse = true) :=
  ⟨all_ready (by decide +kernel) (by decide +kernel), by decide +kernel⟩

/-- Pumps in every state of which a swap keeps something, with pump 4 alone in the Start Queue. -/
def mixed : State :=
  tidy { bankB (checked net) calm with
    pumps :=
      (((((((calm.pumps.set 0 { readyPump with state := .rest, minOffUntil := some 10100 }).set
        4 { readyPump with state := .queued, history := List.replicate 6 9000 }).set
        5 { readyPump with state := .ordered, admittedM := some 1, startTime := some 9990, booking := 900 }).set
        8 { readyPump with state := .starting, admittedM := some 2, startTime := some 9990, booking := 900 }).set
        9 (runningPump 9950 475)).set
        10 { runningPump 9000 475 with state := .stopping, stopCause := some .demand }).set
        12 { readyPump with state := .unconfirmed, booking := 300 })
    feeder := { calm.feeder with queue := [⟨4, 1, 65534, 9000⟩], nextSeq := 65535 } }

/-- A swap to the metered network with a meter that has read 1499 or 1500 kW against a shed level of 1500. -/
def meterSwap (phase : ShedPhase) (reading : Nat) : State :=
  bankB (checked { net with header := { net.header with meterHoldLevel := 1200, meterShedLevel := 1500, meterFilter := 10 } })
    { calm with feeder := { calm.feeder with meter :=
      { blankMeter with state := .valid, reading := some reading, phase, phaseUntil := some 10005 } } }

/-- Swaps with pumps under way, with a transaction to the station that goes out of use, during a survey, with a meter, and
by which a house comes into use. -/
def carrying : List State :=
  [mixed, waiting (.station 3) .poll (bankB (checked shrunk) calm),
   { bankB (checked net) calm with survey := { running := true, awaited := [1, 3], answered := 2 } }, growing,
   meterSwap .filtering 1499, meterSwap .idle 1500, meterSwap .settling 1500]

/-- Pump 12 and station 4 leave and come; pumps 0, 1, 4, 5, 8, 9, 10 and 12 stay in the eight states; house 2 keeps its
duty list. -/
theorem witness_SwapCarriesThePumps :
    (∀ s ∈ carrying, Ready s) ∧ (∀ s ∈ carrying, QueueHoldsTheQueued s) ∧
      (∀ s ∈ carrying, s.banks.active = some .a ∧ swapTest s .b = none) ∧ BankId.a ≠ .b ∧
      (net.stations[(3 : Station)].inUse = true ∧ shrunk.stations[(3 : Station)].inUse = false ∧
        ∀ p : Pump, ¬ (shrunk.pumps[p].inUse = true ∧ net.pumps[p].inUse = false)) ∧
      (net.pumps[(12 : Pump)].inUse = true ∧ shrunk.pumps[(12 : Pump)].inUse = false) ∧
      (∀ k ∈ [(ShedPhase.filtering, 1499), (.idle, 1500), (.settling, 1500)],
        (meterSwap k.1 k.2).feeder.meter.phase = k.1 ∧ (meterSwap k.1 k.2).feeder.meter.state = .valid ∧
          (meterSwap k.1 k.2).feeder.meter.reading = some k.2 ∧
          (bankOf (meterSwap k.1 k.2) .b).plan.header.meterShedLevel = 1500 ∧
          (bankOf (meterSwap k.1 k.2) .b).plan.header.meterFilter = 10) ∧
      ([(0 : Pump), 1, 4, 5, 8, 9, 10, 12].map fun p => mixed.pumps[p].state) =
        [.rest, .ready, .queued, .ordered, .starting, .running, .stopping, .unconfirmed] ∧
      (net.pumps[(4 : Pump)].startsPerHour ≤ mixed.pumps[(4 : Pump)].history.length ∧
        (after (.bankSwap 7 [1]) mixed).pumps[(5 : Pump)].state = .ordered) ∧
      (∀ p : Pump, (mixed.pumps[p].isolatePending = false ∧ mixed.pumps[p].faultPending = none) ∧
        ((after (.bankSwap 7 [1]) mixed).pumps[p].state = .ordered → mixed.pumps[p].state = .ordered)) ∧
      (after (.bankSwap 7 [1]) mixed).survey.running = mixed.survey.running ∧ net.houses[(2 : House)].inUse = true :=
  ⟨all_ready (by decide +kernel) (by decide +kernel), all_queue (by decide +kernel), by decide +kernel⟩

/-- Section 9.8: house 3 is given delivery tank 2 in the edit bank. -/
theorem test_tableWrite :
    let t := after (.tableWrite 5 ([1, 1, 3, 1] ++ encodeHouse (houseRecord 3 (some 1) 0 2 1 6 30 30)))
      (bankB (edited sharedDelivery) calm)
    said t = some [0, 1, 1, 3, 1] ∧ (bankOf t .b).plan.houses[(3 : House)].delivery = 2 ∧
      (bankOf t .b).state = .edited := by decide +kernel

/-- R190: a station record is its use flag and its poll interval. -/
theorem test_tableRead : said (after (.tableRead 5 [0, 4, 4, 2]) calm) = some [0, 2, 1, 10, 0, 10] := by decide +kernel

/-- R171: the active bank is not cleared; the other is, with no event. -/
theorem test_bankClear :
    said (after (.bankClear 5 [0]) calm) = some [5] ∧
      said (after (.bankClear 5 [1]) (bankB (edited net) calm)) = some [0, 1] ∧
      (bankOf (after (.bankClear 5 [1]) (bankB (edited net) calm)) .b).state = .empty := by decide +kernel

/-- Section 9.8: code 6 DELIVERY_SHARED of house 3, and then a pass with 4 houses and 8 pumps. -/
theorem test_bankCheck :
    said (after (.bankCheck 5 [1]) (bankB (edited sharedDelivery) calm)) = some [8, 6, 1, 0, 3] ∧
      said (after (.bankCheck 5 [1]) (bankB (edited net) calm)) = some [0, 1, 4, 8] := by decide +kernel

/-- Section 1.7: CASCADE_LOOP is reported of house 0. -/
theorem test_cascadeLoop : firstFailure looped = some ⟨.cascadeLoop, .house, 0⟩ := by decide +kernel

/-- Section 9.8, uptime 4000: the copy is taken, and the image is INVALID while it is written. -/
theorem test_planStore :
    said (after (.planStore 5 []) calm) = some [0, 0, 0, 3, 233] ∧ (after (.planStore 5 []) calm).store.valid = false ∧
      said (after (.planStore 6 []) (writing calm)) = some [6] := by decide +kernel

/-- Section 9.8, uptime 4002: STORE_DONE of label 1001. -/
theorem test_storeWriteComplete :
    told (after (.storeWriteComplete true) (writing calm)) = [(.storeDone, 0, 1001)] ∧
      told (after (.storeWriteComplete false) (writing calm)) = [(.storeFailed, 0, 1001)] := by decide +kernel

/-- R175, R177: a bank that is not CHECKED is refused; the first swap of an UNPLANNED part begins the survey. -/
theorem test_bankSwap :
    said (after (.bankSwap 5 [1]) calm) = some [7] ∧
      said (after (.bankSwap 5 [1]) (bankB (checked net) State.reset)) = some [0, 1, 0, 0, 3, 233] ∧
      (after (.bankSwap 5 [1]) (bankB (checked net) State.reset)).survey.running = true := by decide +kernel

/-! ### House and pump requests -/

/-- Pump 8 QUEUED alone, with the cap at its need. -/
def queued8 : State :=
  tidy { calm with
    pumps := calm.pumps.set 8 { blankPump with state := .queued }
    feeder := { calm.feeder with cap := 1495, queue := [⟨8, 2, 65534, 9000⟩], nextSeq := 65535 } }

/-- House 2 in MANUAL. -/
def manual : State := withHouse 2 { calm.houses[(2 : House)] with mode := .manual } calm

/-- House 2's main settled at an uptime. -/
def settlingAt (u : Nat) (s : State) : State := withHouse 2 { s.houses[(2 : House)] with mainSettledAt := some u } s

/-- An ACTIVE entry of code 17, whose action is LOCKOUT. -/
def active17 : AlarmEntry := { code := 17, pump := none, firstSeen := 9000, activeAt := none }

/-- House 2 in a protection state, with or without the LOCKOUT entry and suppression. -/
def protected2 (state : ProtState) (alarms : List AlarmEntry) (suppression : Bool) : State :=
  withProtection 2 { blankProtection with state, alarms, suppression, attempts := 3, causeCode := some 17 } calm

/-- A length of one byte too many for IDENT and one too few for SET_TIME; house 4 and pump 2, which are not in use, and
indices 8 and 32, which name nothing; each test of the fields, and an UNPLANNED part. -/
theorem witness_RequestsAreRefused :
    (∀ s ∈ [State.reset, calm], Ready s) ∧
      (requestFrame (.ident 1 [0]) = some ⟨1, 1, [0]⟩ ∧ bodyLength 1 = some 0 ∧ [(0 : Byte)].length ≠ 0 ∧
        requestFrame (.setTime 1 [0, 0, 0, 0]) = some ⟨2, 1, [0, 0, 0, 0]⟩ ∧ bodyLength 2 = some 5 ∧
        [(0 : Byte), 0, 0, 0].length ≠ 5) ∧
      (requestFrame (.houseMode 5 [0, 0]) = some ⟨9, 5, [0, 0]⟩ ∧ 9 ≤ (9 : Byte).toNat ∧
        (9 : Byte).toNat ≤ 15 ∧ bodyLength 9 = some [(0 : Byte), 0].length ∧ planned State.reset = false) ∧
      (requestFrame (.houseSuppress 5 [8, 0]) = some ⟨12, 5, [8, 0]⟩ ∧
        bodyLength 12 = some [(8 : Byte), 0].length ∧ planned calm = true ∧
        (∀ h : House, h.val = ([(8 : Byte), 0].headD 0#8).toNat → houseInUse calm h = false) ∧
        ∀ h : House, h.val = ([(4 : Byte), 0].headD 0#8).toNat → houseInUse calm h = false) ∧
      (requestFrame (.pumpIsolate 5 [2]) = some ⟨13, 5, [2]⟩ ∧ bodyLength 13 = some [(2 : Byte)].length ∧
        (∀ p : Pump, p.val = ([(2 : Byte)].headD 0#8).toNat → pumpInUse calm p = false) ∧
        requestFrame (.pumpClear 5 [32]) = some ⟨15, 5, [32]⟩ ∧ bodyLength 15 = some [(32 : Byte)].length ∧
        ∀ p : Pump, p.val = ([(32 : Byte)].headD 0#8).toNat → pumpInUse calm p = false) ∧
      houseInUse calm 2 = true ∧ pumpInUse calm 8 = true ∧ 2 < (3 : Byte).toNat ∧ 1 < (2 : Byte).toNat ∧
      calm.houses[(2 : House)].mode ≠ .manual ∧ calm.pumps[(8 : Pump)].state ≠ .faulted :=
  ⟨all_ready (by decide +kernel) (by decide +kernel), by decide +kernel⟩

/-- The LOCKOUT entry a request finds. -/
def lockoutOf (s : State) (h : House) : Option AlarmEntry :=
  s.protection[h].alarms.find? fun e => e.activeAt.isNone && actionOf s e.code == .lockout

/-- AUTO and MANUAL; CLEAR; LOCKED_OUT without an entry, with suppression, and with an entry; suppression lifted with an
entry, and not. -/
theorem witness_HouseRequestsAreTaken :
    (∀ s ∈ [calm, manual, protected2 .lockedOut [] false, protected2 .lockedOut [active17] true,
      protected2 .lockedOut [active17] false, protected2 .clear [active17] true], Ready s) ∧
      (planned calm = true ∧ houseInUse calm 2 = true ∧ calm.protection[(2 : House)].state ≠ .lockedOut) ∧
      (planned manual = true ∧ houseInUse manual 2 = true ∧ manual.houses[(2 : House)].mode = .manual) ∧
      ((protected2 .lockedOut [] false).protection[(2 : House)].state = .lockedOut ∧
        lockoutOf (protected2 .lockedOut [] false) 2 = none) ∧
      (protected2 .lockedOut [active17] true).protection[(2 : House)].suppression = true ∧
      ((protected2 .lockedOut [active17] false).protection[(2 : House)].suppression = false ∧
        lockoutOf (protected2 .lockedOut [active17] false) 2 = some active17) ∧
      (protected2 .clear [active17] true).protection[(2 : House)].suppression = true ∧
      (protected2 .clear [active17] true).protection[(2 : House)].state = .clear ∧
      lockoutOf (protected2 .clear [active17] true) 2 = some active17 :=
  ⟨all_ready (by decide +kernel) (by decide +kernel), by decide +kernel⟩

/-- Pump 8 in a state, stopped at an uptime if at all; a fault cause goes with FAULTED. -/
def pump8 (state : PumpState) (lastStop : Option Nat) : State :=
  withPump 8
    { blankPump with
      state, lastStop, fault := if state = .faulted then some .stationTrip else none
      booking := if countsInM state then 467 else 0 }
    (if state = .faulted ∨ state = .isolated then withHouse 2 { calm.houses[(2 : House)] with dutyList := [9, 10] } calm
     else calm)

/-- Pump 8 in each state that a request may find it in, with its last stop where min off still waits and where it no
longer does. -/
def asked8 : List State :=
  [calm, queued8, pump8 .running none, pump8 .isolated (some 9400), pump8 .isolated (some 9401),
   pump8 .faulted (some 9400), pump8 .faulted (some 9401)]

/-- READY, QUEUED, RUNNING, ISOLATED and FAULTED; with min off 600 a stop at 9401 still waits at 10000. -/
theorem witness_PumpRequestsAreTaken :
    (∀ s ∈ asked8, Ready s) ∧ (∀ s ∈ asked8, QueueHoldsTheQueued s) ∧
      (∀ s ∈ asked8, planned s = true ∧ pumpInUse s 8 = true ∧ s.pumps[(8 : Pump)].isolatePending = false ∧
        s.pumps[(8 : Pump)].faultPending = none) ∧
      (asked8.map fun s => s.pumps[(8 : Pump)].state) =
        [.ready, .queued, .running, .isolated, .isolated, .faulted, .faulted] ∧
      (pump8 .faulted (some 9401)).pumps[(8 : Pump)].fault = some .stationTrip ∧
      (∀ s ∈ asked8.drop 3, (8 : Pump) ∉ s.houses[houseOf 8].dutyList) ∧
      (planOf calm).pumps[(8 : Pump)].minOff = 600 :=
  ⟨all_ready (by decide +kernel) (by decide +kernel), all_queue (by decide +kernel), by decide +kernel⟩

/-- R77: the modes are coded AUTO 0, MANUAL 1, DISABLED 2. -/
theorem test_houseMode :
    said (after (.houseMode 5 [2, 2]) calm) = some [0, 2, 0] ∧
      (after (.houseMode 5 [2, 2]) calm).houses[(2 : House)].limit = .disabled := by decide +kernel

/-- R78: the manual target is clamped to the pump count of house 2. -/
theorem test_houseTarget :
    said (after (.houseTarget 5 [2, 9]) manual) = some [0, 3] ∧
      (after (.houseTarget 5 [2, 9]) manual).houses[(2 : House)].want = 3 := by decide +kernel

/-- Section 7.10, uptime 11500: HOUSE_CLEAR with code 17 still ACTIVE begins a recovery, to 11800. -/
theorem test_houseClear :
    let t := after (.houseClear 5 [2]) (atTime 11500 (protected2 .lockedOut [active17] false))
    t.protection[(2 : House)].state = .recovery ∧ t.protection[(2 : House)].attempts = 1 ∧
      t.protection[(2 : House)].recoveryUntil = some 11800 ∧ (told t).head? = some (.recoveryStart, 1, 17) := by
  decide +kernel

/-- R140: the reply returns the flag and the protection state. -/
theorem test_houseSuppress :
    said (after (.houseSuppress 5 [2, 1]) calm) = some [0, 1, 0] ∧
      said (after (.houseSuppress 5 [2, 2]) calm) = some [4, 255, 255] := by decide +kernel

/-- Section 10.9, moment f: a READY pump 9 becomes ISOLATED. -/
theorem test_pumpIsolate :
    said (after (.pumpIsolate 12 [9]) calm) = some [0, 11, 0] ∧
      (after (.pumpIsolate 12 [9]) calm).houses[(2 : House)].dutyList = [8, 10] := by decide +kernel

/-- R55: a restored pump whose min off runs waits in REST at the back of the duty list. -/
theorem test_pumpRestore :
    let t := after (.pumpRestore 5 [8]) (pump8 .isolated (some 9401))
    t.pumps[(8 : Pump)].state = .rest ∧ t.pumps[(8 : Pump)].minOffUntil = some 10001 ∧
      t.houses[(2 : House)].dutyList = [9, 10, 8] := by decide +kernel

/-- R55: NOT_FAULTED, and PUMP_CLEARED of a STATION_TRIP. -/
theorem test_pumpClear :
    said (after (.pumpClear 5 [8]) calm) = some [11] ∧
      (after (.pumpClear 5 [8]) (pump8 .faulted none)).pumps[(8 : Pump)].state = .ready := by decide +kernel

/-! ### Time -/

/-- The network under way at a network time. -/
def clocked (second : Nat) (day : Day) : State := atNet second day calm

/-- The network at the uptime of a crossing that has not been taken (log 47). -/
def crossing (second : Nat) (day : Day) : State :=
  { calm with time := { uptime := 10000, net := some { second, day }, crossingWaits := true } }

/-- Entry 5 in force until an uptime. -/
def inWindow (u : Nat) : State := { calm with timetable := { calm.timetable with windows := [⟨5, 2, u⟩] } }

/-- The last second and day, and the first beyond them. -/
theorem witness_SetTimeClassesTheJump :
    (∀ s ∈ [clocked 17400 1, State.reset], Ready s) ∧ (86399 < 86400 ∧ 86400 < 4294967296) ∧ (6 < 7 ∧ 7 < 256) ∧
      (6 : Nat) = (6 : Day).val ∧ 86399 ≤ 86399 ∧ planned (clocked 17400 1) = true ∧ planned State.reset = false ∧
      ∀ s ∈ [clocked 17400 1, State.reset], ∀ e : Entry, (planOf s).timetable[e].duration ≤ 1439 :=
  ⟨all_ready (by decide +kernel) (by decide +kernel), by decide +kernel⟩

/-- 06:59:59 of day 2, where window 0 starts next, and the same with the crossing waiting; 05:00:59, where nothing does;
the last second of day 6, planned and UNPLANNED; and a window that has run out. -/
theorem witness_CrossingsAdvanceTheClock :
    (∀ s ∈ [clocked 25199 2, crossing 25199 2, clocked 18059 2, clocked 86399 6, atNet 86399 6 State.reset,
      inWindow 10000], Running s) ∧
      ((clocked 25199 2).time.net = some ⟨25199, 2⟩ ∧ 25199 ≠ 86399 ∧ 25199 + 1 = 60 * 420 ∧
        planned (clocked 25199 2) = true ∧ windowStarts (planOf (clocked 25199 2)) 2 420 = true) ∧
      ((crossing 25199 2).time.crossingWaits = true ∧ (crossing 25199 2).time.net = some ⟨25199, 2⟩) ∧
      (18059 + 1 = 60 * 301 ∧
        (∀ e : Entry, firingFate net calm.levels 10001 (clocked 18059 2).timetable.fired 2 301 e = .untouched) ∧
        windowStarts (planOf (clocked 18059 2)) 2 301 = false) ∧
      ((clocked 86399 6).time.net = some ⟨86399, 6⟩ ∧ planned (atNet 86399 6 State.reset) = false) ∧
      ((clocked 25199 2).pending = [] ∧ dueEvents (clocked 25199 2) = [] ∧ (25199 + 1) % 60 = 0) ∧
      windowOf (inWindow 10000) 5 = some ⟨5, 2, 10000⟩ ∧ 10000 ≤ (inWindow 10000).time.uptime :=
  ⟨all_running (by decide +kernel), by decide +kernel⟩

/-- Section 6.5: a forward jump from 04:50 to 05:20 at 50000 joins entry 5 until 54200. R116: at 05:00 it fires, is skipped
above its guard level, and is skipped with no usable level. R121: at 06:30:59 it is missed by 90 minutes. R120: at 05:20 a
re-establishment joins it, and one that finds it active passes it. -/
theorem test_entryFates :
    let none_ := Vector.replicate 24 false
    let at401 := calm.levels.set 3 ⟨some 401, .fresh, some 9990, some 10290, false⟩
    let stale := calm.levels.set 3 ⟨some 390, .stale, some 9990, none, false⟩
    jumpedFate net calm.levels 50000 none_ 17400 ⟨19200, 1⟩ 5 = .starts true 54200 1 ∧
      firingFate net calm.levels 50000 none_ 1 300 5 = .starts true 55400 0 ∧
      firingFate net at401 50000 none_ 1 300 5 = .skipped true 0 ∧
      firingFate net stale 50000 none_ 1 300 5 = .skipped true 1 ∧
      jumpedFate net calm.levels 50000 none_ 17400 ⟨23459, 1⟩ 5 = .missed 90 ∧
      joiningFate net calm.levels 50000 none_ [] ⟨19200, 1⟩ 5 = .starts true 54200 1 ∧
      joiningFate net calm.levels 50000 none_ [⟨5, 2, 50100⟩] ⟨19200, 1⟩ 5 = .passed := by decide +kernel

/-- Section 6.5: a forward jump from 04:50 to 05:20 joins entry 5 until 54200 and spends its last run. -/
theorem test_setTime :
    let t := after (.setTime 5 [0, 0, 75, 0, 1]) (atTime 50000 (clocked 17400 1))
    t.timetable.windows = [⟨5, 2, 54200⟩] ∧ (planOf t).timetable[(5 : Entry)].retired = true ∧
      t.timetable.fired[(5 : Entry)] = true ∧
      (t.eventQueue.records.take 3).map (fun r => r.kind) = [.timeSet, .ttFired, .ttRetired] := by decide +kernel

/-- R111: a second of day of 86400 is refused. -/
theorem test_setTime_invalid : said (after (.setTime 5 [0, 1, 0x51, 0x80, 1]) calm) = some [13] := by decide +kernel

/-- Section 6.2: at 07:00 of day 2 window 0 and its cap of 1800 come into force. -/
theorem test_minuteCrossing :
    let t := after .minuteCrossing (clocked 25199 2)
    t.feeder.cap = 1800 ∧ t.timetable.windowInForce = some 0 ∧ t.time = { uptime := 10001, net := some ⟨25200, 2⟩ } ∧
      t.eventQueue.records.map (fun r => r.kind) = [.tariffWindow] := by decide +kernel

/-- Section 6.2: at the midnight that begins day 5 no window applies, and the default cap stands. -/
theorem test_midnightCrossing :
    let t := after .midnightCrossing
      { clocked 86399 4 with
        feeder := { calm.feeder with cap := 3200 }
        timetable := { calm.timetable with windowInForce := some 2, fired := Vector.replicate 24 true } }
    t.feeder.cap = 2400 ∧ t.timetable.windowInForce = none ∧ t.time.net = some ⟨0, 5⟩ ∧
      t.timetable.fired = Vector.replicate 24 false := by decide +kernel

/-- R118: the window leaves the set as its duration runs out. -/
theorem test_ttEnded :
    (after (.ttEnded 5) (inWindow 10000)).timetable.windows = [] ∧
      told (after (.ttEnded 5) (inWindow 10000)) = [(.ttEnded, 5, 0)] ∧
      (after (.ttEnded 5) (inWindow 10001)).timetable.windows = [⟨5, 2, 10001⟩] := by decide +kernel

/-- R116: at the second of entry 5's start its old window runs out. Where the end is taken first, TT_ENDED is raised and the
firing adds a new window; where the firing is first, active-until moves forward and the end does not occur. -/
theorem test_endAndFiring :
    let s := { clocked 17999 2 with timetable := { calm.timetable with windows := [⟨5, 2, 10001⟩] } }
    let kinds := fun t => ((told t).map fun e => e.1).take 3
    let endFirst := after .minuteCrossing (after (.ttEnded 5) (passSecond s))
    let firingFirst := after (.ttEnded 5) (after .minuteCrossing (passSecond s))
    (passSecond s).time = { uptime := 10001, net := some ⟨17999, 2⟩, crossingWaits := true } ∧
      kinds endFirst = [.ttEnded, .ttFired, .ttRetired] ∧ endFirst.timetable.windows = [⟨5, 2, 15401⟩] ∧
      kinds firingFirst = [.ttFired, .ttRetired] ∧ firingFirst.timetable.windows = [⟨5, 2, 15401⟩] := by decide +kernel

/-! ### The station bus -/

/-- A state while a poll of station 3 is being sent, and while some bytes of its reply have come. -/
def sending : State :=
  tidy { calm with bus := { calm.bus with flight := some { flightOf (.station 2) .poll with sentAt := none } } }

@[inherit_doc sending]
def hearing (bs : List Byte) : State :=
  { calm with bus := { calm.bus with flight := some { flightOf (.station 2) .poll with partialReply := bs } } }

/-- A REPORT of station 3: tank 3 at 375, pumps 8 to 10 stopped, no alarm. -/
def report375 : List Byte := [0, 1, 1, 0, 1, 119, 3, 1, 1, 1, 0]

/-- A whole frame as its front and its last byte, of the length its length byte gives. -/
def whole (bs : List Byte) : Bool :=
  decide (bs.dropLast ++ [bs.getLastD 0] = bs) && decide (bs.length = 5 + fieldAt bs 2 1)

/-- An IDLE bus; a request being sent; a reply of which the next byte is its third, and one of which it is the last but
one; and whole reply frames for each test (CRC, address, kind, form) and right ones, for each of the three requests. -/
theorem witness_RepliesAreTakenByteByByte :
    (∀ s ∈ [calm, sending, hearing [131], hearing [131, 2, 1, 0], waiting (.station 2) .poll calm,
      waiting (.station 2) (.order ⟨8, .start⟩ 9) calm, waiting .meter .meterPoll calm], Running s) ∧
      calm.bus.flight = none ∧ sending.bus.flight = some { flightOf (.station 2) .poll with sentAt := none } ∧
      ([131] ++ [(2 : Byte)]).length < 3 ∧
      (hearing [131, 2, 1, 0]).bus.flight = some { flightOf (.station 2) .poll with partialReply := [131, 2, 1, 0] } ∧
      ([131, 2, 1, 0] ++ [(7 : Byte)]).length < 5 + fieldAt ([131, 2, 1, 0] ++ [7]) 2 1 ∧
      (waiting (.station 2) .poll calm).bus.flight = some (flightOf (.station 2) .poll) ∧
      (whole [131, 2, 0, 0, 0] = true ∧ crcMatches [131, 2, 0, 0, 0] = false) ∧
      (whole (busFrame 130 2 report375) = true ∧ crcMatches (busFrame 130 2 report375) = true ∧
        fieldAt (busFrame 130 2 report375) 0 1 ≠ unitAddress (.station 2) + 128) ∧
      (whole (busFrame 131 4 [9, 0, 0]) = true ∧ crcMatches (busFrame 131 4 [9, 0, 0]) = true ∧
        fieldAt (busFrame 131 4 [9, 0, 0]) 0 1 = unitAddress (.station 2) + 128 ∧
        fieldAt (busFrame 131 4 [9, 0, 0]) 1 1 = replyKind (.order ⟨8, .start⟩ 9) ∧
        fieldAt (busFrame 131 4 [9, 0, 0]) 1 1 ≠ replyKind .poll) ∧
      (whole (busFrame 131 2 report375) = true ∧ fieldAt (busFrame 131 2 report375) 1 1 = replyKind .poll ∧
        (parseReport report375).isSome = true ∧ parseReport [0] = none) ∧
      (parseOrderReply [9, 0, 0] = some (9, .accepted) ∧ parseOrderReply [8, 0, 0] = some (8, .accepted) ∧
        parseOrderReply [9, 1, 5] = none) ∧
      whole (busFrame 143 6 [0, 0, 1, 244, 0]) = true ∧
      fieldAt (busFrame 143 6 [0, 0, 1, 244, 0]) 0 1 = unitAddress .meter + 128 ∧
      fieldAt (busFrame 143 6 [0, 0, 1, 244, 0]) 1 1 = replyKind .meterPoll ∧
      parseMeterReply [0, 0, 1, 244, 0] = some (some 500) ∧ parseMeterReply [0, 0, 1, 244, 2] = none :=
  ⟨all_running (by decide +kernel), by decide +kernel⟩

/-- The station that serves house 2, and a station that serves none. -/
theorem witness_ReportIsDelivered :
    (∀ s ∈ [waiting (.station 2) .poll calm, waiting (.station 4) .poll calm], Running s) ∧
      Waiting (flightOf (.station 2) .poll) (waiting (.station 2) .poll calm) ∧
      Waiting (flightOf (.station 4) .poll) (waiting (.station 4) .poll calm) ∧
      (parseReport report375).isSome = true ∧
      (planOf (waiting (.station 2) .poll calm)).servedHouse 2 = some 2 ∧ houseOf 8 = 2 ∧
      positionOf 10 < (planOf (waiting (.station 2) .poll calm)).houses[(2 : House)].pumpCount ∧
      ((parseReport report375).bind fun r => r.pumps[positionOf 10]?) = some .stop ∧
      (planOf (waiting (.station 4) .poll calm)).servedHouse 4 = none :=
  ⟨all_running (by decide +kernel), waiting_waits _ _ _, waiting_waits _ _ _, by decide +kernel⟩

/-- Pump 8 in ORDERED or STOPPING, with its order in flight to station 3. -/
def ordered8 (state : PumpState) (command : OrderKind) (r : PumpLive) : State :=
  waiting (.station 2) (.order ⟨8, command⟩ 9) (withPump 8 { r with state, booking := 1495 } calm)

/-- Pump 8 as admitted at 9999, and as stopped by demand. -/
def started : PumpLive :=
  { blankPump with permit := some 0, admittedM := some 1, startTime := some 9999, admittedStart := true, history := [9999] }

@[inherit_doc started]
def stopped : PumpLive := { runningPump 9000 467 with stopCause := some .demand }

/-- A state with station 3 SILENT. -/
def hushed (s : State) : State :=
  { s with bus := { s.bus with stations := s.bus.stations.set 2 { s.bus.stations[(2 : Station)] with state := .silent } } }

/-- A state under the network with a min off of 0 for pump 8. -/
def noMinOff (s : State) : State :=
  let pumps := net.pumps.set 8 { net.pumps[(8 : Pump)] with minOff := 0 }
  { s with banks := { s.banks with a := checked { net with pumps } } }

/-- Pump 8 with its start order in flight, without and with isolate-pending, and with its stop order and each of the
pendings; a start and a stop at a SILENT station; and a stop with a min off of 0. -/
def ordering8 : List State :=
  [ordered8 .ordered .start started, ordered8 .ordered .start { started with isolatePending := true },
   ordered8 .stopping .stop stopped, ordered8 .stopping .stop { stopped with isolatePending := true },
   ordered8 .stopping .stop { stopped with faultPending := some .stationTrip },
   hushed (ordered8 .ordered .start started), hushed (ordered8 .stopping .stop stopped),
   noMinOff (ordered8 .stopping .stop stopped)]

theorem ordering8_runs : ∀ s ∈ ordering8, Running s := all_running (by decide +kernel)

theorem ordering8_queue : ∀ s ∈ ordering8, QueueHoldsTheQueued s := all_queue (by decide +kernel)

/-- The flights and the states of pump 8 in `ordering8`. -/
def Flights8 : Prop :=
  (∀ s ∈ ordering8.take 2 ++ [hushed (ordered8 .ordered .start started)],
    Waiting (flightOf (.station 2) (.order ⟨8, .start⟩ 9)) s ∧ s.pumps[(8 : Pump)].state = .ordered) ∧
    ∀ s ∈ (ordering8.drop 2).take 3 ++ ordering8.drop 6,
      Waiting (flightOf (.station 2) (.order ⟨8, .stop⟩ 9)) s ∧ s.pumps[(8 : Pump)].state = .stopping

theorem ordering8_flights : Flights8 := by
  unfold Flights8 Waiting
  decide +kernel

/-- A start, and a stop with each of the pendings, at an ONLINE and a SILENT station, with and without a min off. -/
theorem witness_OrderIsAccepted :
    (∀ s ∈ ordering8, Running s) ∧ (∀ s ∈ ordering8, QueueHoldsTheQueued s) ∧ Flights8 ∧
      (ordering8.map fun s =>
      (s.pumps[(8 : Pump)].isolatePending, s.pumps[(8 : Pump)].faultPending.isSome, (planOf s).pumps[(8 : Pump)].minOff)) =
        [(false, false, 600), (true, false, 600), (false, false, 600), (true, false, 600), (false, true, 600),
         (false, false, 600), (false, false, 600), (false, false, 0)] :=
  ⟨ordering8_runs, ordering8_queue, ordering8_flights, by decide +kernel⟩

/-- The same states, and the states of their station. -/
theorem witness_OrderIsRefused :
    (∀ s ∈ ordering8, Running s) ∧ (∀ s ∈ ordering8, QueueHoldsTheQueued s) ∧ Flights8 ∧
      (∀ s ∈ ordering8.take 2, { s.pumps[(8 : Pump)] with faultPending := none }.state = .ordered) ∧
      (∀ s ∈ (ordering8.drop 2).take 3, { s.pumps[(8 : Pump)] with faultPending := none }.state = .stopping) ∧
      (ordering8.map fun s => s.bus.stations[(2 : Station)].state) =
        [.online, .online, .online, .online, .online, .silent, .silent, .online] :=
  ⟨ordering8_runs, ordering8_queue, ordering8_flights, by decide +kernel⟩

/-- A REPORT of station 3 with pump 8 in a reported state, and no alarm item. -/
def reportOf (rep : Reported) : List Byte :=
  [0, 1, 1, 0, 1, 119, 3, BitVec.ofNat 8 (reportedCode rep), 1, 1, 0]

/-- A poll of station 3 in flight, with pump 8 in each of its states. -/
def reporting8 : List State :=
  ([PumpState.ready, .rest, .ordered, .starting, .running, .stopping, .unconfirmed, .localControl, .faulted,
    .isolated].map fun x =>
      waiting (.station 2) .poll
        (withPump 8 { stopped with state := x, fault := if x = .faulted then some .stationTrip else none } calm)) ++
    [waiting (.station 2) .poll queued8]

/-- Pump 8 in each of its states, with its pending flags clear, and each reported state of it. -/
theorem witness_ReportsAreReconciled :
    (∀ s ∈ reporting8, Running s) ∧ (∀ s ∈ reporting8, QueueHoldsTheQueued s) ∧
      (∀ s ∈ reporting8, s.bus.flight = some (flightOf (.station 2) .poll) ∧ s.survey.running = false ∧
        (planOf s).servedHouse 2 = some (houseOf 8) ∧ positionOf 8 < (planOf s).houses[houseOf 8].pumpCount ∧
        s.pumps[(8 : Pump)].isolatePending = false ∧ s.pumps[(8 : Pump)].protectPending = false ∧
        s.pumps[(8 : Pump)].faultPending = none ∧ 0 < (planOf s).pumps[(8 : Pump)].minOff) ∧
      (reporting8.map fun s => s.pumps[(8 : Pump)].state) =
        [.ready, .rest, .ordered, .starting, .running, .stopping, .unconfirmed, .localControl, .faulted, .isolated,
         .queued] ∧
      (∀ rep ∈ [Reported.run, .stop, .trip, .localControl], ∃ x, parseReport (reportOf rep) = some x ∧ x.alarms = [] ∧
        x.pumps[positionOf 8]? = some rep) ∧
      stopped.startTime = some 9000 ∧ stopped.stopCause = some .demand ∧ stopped.admittedStart = true ∧
      ({ stopped with admittedStart := false } : PumpLive).admittedStart = false := by
  refine ⟨all_running (by decide +kernel), all_queue (by decide +kernel), by decide +kernel, by decide +kernel,
    fun rep _ => ?_, by decide +kernel⟩
  cases rep <;> exact ⟨_, rfl, rfl, rfl⟩

/-- R50: a RUNNING pump that is reported STOP is at REST, with UNEXPECTED_STOP, its start 1000 s ago. -/
theorem test_unexpectedStop :
    let s := waiting (.station 2) .poll (withPump 8 (runningPump 9000 467) calm)
    let t := after (.report (busFrame 131 2 (reportOf .stop))) s
    t.pumps[(8 : Pump)].state = .rest ∧ t.pumps[(8 : Pump)].minOffUntil = some 10600 ∧
      (told t).head? = some (.unexpectedStop, 6, 1000) := by decide +kernel

/-- R146: an entry that joins on an IDLE bus starts its transaction as it joins, whatever joins behind it. -/
theorem test_join :
    let t := joinOrder 12 .stop (joinTransmit (.station 0) .urgent none calm)
    (t.bus.flight.map fun f => f.unit) = some (.station 0) ∧ (t.bus.queue.map fun e => e.unit) = [.station 3] := by
  decide +kernel

/-- The network with hold level 1200, shed level 1500 and no filter or one of 10 s. -/
def metered (filter : Nat) : Plan :=
  { net with header := { net.header with meterHoldLevel := 1200, meterShedLevel := 1500, meterFilter := filter } }

/-- The metered network with a meter record. -/
def withMeter (filter : Nat) (m : MeterRecord) : State :=
  { calm with
    banks := { calm.banks with a := checked (metered filter) }, feeder := { calm.feeder with meter := m } }

/-- A good reading of 1200 or of 1500, against each hold and each shed phase. -/
theorem witness_MeterReplyIsDelivered :
    ∀ filter ∈ [0, 10], ∀ hold : Bool, ∀ phase ∈ [ShedPhase.idle, .filtering, .due, .settling],
      let s := waiting .meter .meterPoll
        (withMeter filter { blankMeter with hold, phase, phaseUntil := some 10005, reading := some 1199 })
      Running s ∧ Waiting (flightOf .meter .meterPoll) s ∧ s.feeder.meter.hold = hold ∧ s.feeder.meter.phase = phase ∧
        (planOf s).header.meterHoldLevel ≤ min 1200 65535 ∧ ¬ (planOf s).header.meterShedLevel ≤ min 1499 65535 ∧
        (planOf s).header.meterShedLevel ≤ min 4294967295 65535 ∧ (planOf s).header.meterFilter = filter := by
  intro filter hf hold phase hp
  simp only [List.mem_cons, List.not_mem_nil, or_false] at hf hp
  obtain rfl | rfl := hf <;> obtain rfl | rfl | rfl | rfl := hp <;> cases hold <;>
    exact ⟨running_of (by decide +kernel), waiting_waits _ _ _, by decide +kernel⟩

/-- A station's silence count, with a poll in flight to it. -/
def silences (silence : Nat) (request : Request) (s : State) : State :=
  waiting (.station 2) request
    { s with bus := { s.bus with stations := s.bus.stations.set 2 { s.bus.stations[(2 : Station)] with silence } } }

/-- The survey of section 4.8 as the last poll of station 4 fails. -/
def surveying : State :=
  waiting (.station 3) .poll
    (tidy { calm with
      bus := { calm.bus with stations := calm.bus.stations.set 3 { blankStation with silence := 2 } }
      pumps := Vector.ofFn fun p : Pump =>
        if net.pumps[p].inUse then
          { blankPump with
            state := .unconfirmed, booking := 400
            lastReported :=
              if p = 0 ∨ p = 8 ∨ p = 9 then some .run else if p = 10 then some .localControl
              else if p = 12 then none else some .stop
            lastReportedAt := if p = 12 then none else some 9990 }
        else blankPump
      survey := { running := true, awaited := [3], answered := 3 } })

/-- Pump 8 with an order in flight, and its station's silence count. -/
def silent8 (silence : Nat) (state : PumpState) (command : OrderKind) (r : PumpLive) : State :=
  silences silence (.order ⟨8, command⟩ 9) (withPump 8 { r with state, booking := 1495 } calm)

/-- Transactions about to fail. -/
def failing : List State :=
  [waiting .meter .meterPoll calm, surveying, silences 1 .poll calm, silences 2 .poll (pump8 .running none),
   silent8 1 .ordered .start started, silent8 2 .ordered .start started, silent8 1 .stopping .stop stopped,
   silent8 2 .stopping .stop stopped,
   { surveying with survey := { running := true, awaited := [1, 3], answered := 2 } },
   { silent8 2 .stopping .stop stopped with survey := { running := true, awaited := [2, 3], answered := 2 } }]

/-- The meter unit; a poll that fails below the silence limit and at it, with pump 8 RUNNING; a start and a stop, each
below the limit and at it; and failures of the last station that a survey awaits and of one of two. -/
theorem witness_FailedTransactionsAreCounted :
    (∀ s ∈ failing, Running s) ∧ (∀ s ∈ failing, QueueHoldsTheQueued s) ∧
      Waiting (flightOf .meter .meterPoll) (waiting .meter .meterPoll calm) ∧
      (∀ n request s, Waiting (flightOf (.station 2) request) (silences n request s)) ∧
      Waiting (flightOf (.station 3) .poll) surveying ∧
      (surveying.survey.awaited.contains 3 = true ∧ surveying.bus.stations[(3 : Station)].silence = 2) ∧
      ((failing.drop 8).map fun s => (s.survey.running, s.survey.awaited)) = [(true, [1, 3]), (true, [2, 3])] ∧
      (failing.map fun s => decide ((planOf s).header.silenceLimit ≤
        min 255 (s.bus.stations[(2 : Station)].silence + 1))) =
        [false, false, false, true, false, true, false, true, false, true] ∧
      (∀ s ∈ failing, s.bus.stations[(2 : Station)].state ≠ .silent) ∧
      (((failing.drop 3).take 5).map fun s => (s.survey.running, s.pumps[(8 : Pump)].state)) =
        [(false, .running), (false, .ordered), (false, .ordered), (false, .stopping), (false, .stopping)] ∧
      (planOf calm).servedHouse 2 = some (houseOf 8) :=
  ⟨all_running (by decide +kernel), all_queue (by decide +kernel), waiting_waits _ _ _, fun _ _ _ => waiting_waits _ _ _,
    ⟨rfl, rfl, rfl, rfl⟩, by decide +kernel⟩

/-- Station 1's poll due at an uptime, with entries in the transmit queue. -/
def due (u : Nat) (queue : List TxEntry) (s : State) : State :=
  { s with bus := { s.bus with
    queue, stations := s.bus.stations.set 0 { s.bus.stations[(0 : Station)] with pollDue := some u } } }

/-- Not yet due; due with a poll queued already; due with the bus busy; due with it IDLE. -/
theorem witness_PollDueAsksForAPoll :
    (∀ s ∈ [due 10001 [] calm, due 10000 [⟨.station 0, .urgent, none, 65535⟩] sending, due 10000 [] sending,
      due 10000 [] calm], Running s) ∧
      (pollDueOf (due 10001 [] calm) (.station 0) = some 10001 ∧ (due 10001 [] calm).time.uptime < 10001) ∧
      (∃ e ∈ (due 10000 [⟨.station 0, .urgent, none, 65535⟩] sending).bus.queue, e.unit = .station 0 ∧ e.order = none) ∧
      (pollDueOf (due 10000 [] sending) (.station 0) = some 10000 ∧
        (due 10000 [] sending).bus.queue = [] ∧ (due 10000 [] sending).bus.flight.isSome = true ∧
        (due 10000 [] sending).bus.flight.all fun f => f.unit != .station 0) ∧
      (due 10000 [] calm).bus.flight = none ∧ planned (due 10000 [] calm) = true :=
  ⟨all_running (by decide +kernel), by decide +kernel⟩

/-- R156, R157: a poll due on an IDLE bus is sent at once, with BUS_DE asserted; R201: it falls as the request ends. -/
theorem test_pollDue :
    let t := after (.pollDue (.station 0)) (due 10000 [] calm)
    (t.bus.flight.map fun f => f.frame) = some ([1, 1, 0] ++ crcBytes [1, 1, 0]) ∧ t.busDe = true ∧
      (after .busRequestSent t).busDe = false := by decide +kernel

/-- Section 2.7: tank 3 at 375 sets position 1 of house 2; pump 8, of charge 1495, is ordered to start. -/
theorem test_report :
    let t := after (.report (busFrame 131 2 report375)) (waiting (.station 2) .poll calm)
    t.hydraulics[(2 : House)].wanted.toList = [true, false, false, false] ∧ t.houses[(2 : House)].want = 1 ∧
      t.pumps[(8 : Pump)].state = .ordered ∧ t.feeder.committed = 1495 ∧ told t = [(.admitted, 1495, 0)] := by
  decide +kernel

/-- R148: the reply byte by byte; its last byte ends the transaction. -/
theorem test_busByteReceived :
    (hearing []).bus.flight.isSome = true ∧
      ((after (.busByteReceived 131) (hearing [])).bus.flight.map fun f => f.partialReply) = some [131] ∧
      (after (.busByteReceived ((busFrame 131 2 report375).getLastD 0)) (hearing (busFrame 131 2 report375).dropLast)).levels[
        (3 : Tank)].value = some 375 := by decide +kernel

/-- R148: a silence of more than 50 ms discards what has come. -/
theorem test_busGapExpiry :
    ((after .busGapExpiry (hearing [131, 2])).bus.flight.map fun f => f.partialReply) = some [] := by decide +kernel

/-- Section 4.8, uptime 2601: the stop of pump 8 is accepted; its main settles at 2646. -/
theorem test_orderReply :
    let t := after (.orderReply (busFrame 131 4 [9, 0, 0])) (atTime 2601 (ordered8 .stopping .stop stopped))
    t.pumps[(8 : Pump)].state = .rest ∧ t.pumps[(8 : Pump)].minOffUntil = some 3201 ∧
      t.houses[(2 : House)].mainSettledAt = some 2646 ∧ told t = [(.stopped, 0, 0)] := by decide +kernel

/-- R42: a start refused for LOCAL. -/
theorem test_orderReply_refused :
    let t := after (.orderReply (busFrame 131 4 [9, 1, 1])) (ordered8 .ordered .start started)
    t.pumps[(8 : Pump)].state = .localControl ∧ t.houses[(2 : House)].dutyList = [9, 10] ∧
      told t = [(.startRefused, 1, 9)] := by decide +kernel

/-- R105: a reading at the hold level begins a hold. -/
theorem test_meterReply :
    let t := after (.meterReply (busFrame 143 6 [0, 0, 4, 176, 0])) (waiting .meter .meterPoll (withMeter 10 blankMeter))
    t.feeder.meter.hold = true ∧ t.feeder.meter.phase = .idle ∧ told t = [(.meterHold, 1200, 1200)] := by decide +kernel

/-- Section 4.8: station 4 is SILENT, seven pumps are resolved as the stations reported them, and SURVEY_DONE carries 3 and 1. -/
theorem test_replyTimeout :
    let t := after .replyTimeout surveying
    (told t).head?.map (fun e => e.1) = some .stationSilent ∧
      ((told t).filter fun e => e.1 == .resolved) =
        [(.resolved, 0, 6), (.resolved, 1, 2), (.resolved, 1, 2), (.resolved, 1, 2), (.resolved, 0, 6),
          (.resolved, 0, 6), (.resolved, 3, 9)] ∧
      (told t).find? (fun e => e.1 == .surveyDone) = some (.surveyDone, 3, 1) ∧
      t.pumps[(12 : Pump)].state = .unconfirmed ∧
      t.pumps[(8 : Pump)].booking = 475 ∧ t.houses[(2 : House)].dutyList = [8, 9] := by decide +kernel

/-! ### Levels, conditions and positions -/

/-- A tank's level record. -/
def withLevel (k : Tank) (r : LevelRecord) (s : State) : State := { s with levels := s.levels.set k r }

/-- What a house's conditions and positions are. -/
def withWater (h : House) (y : Hydraulics) (s : State) : State := { s with hydraulics := s.hydraulics.set h y }

/-- A level of tank 1 or 3 that turns stale at an uptime. -/
def turning (k : Tank) (u : Nat) : State := withLevel k ⟨some 100, .held, some 9700, some u, false⟩ calm

/-- A pending condition whose filter of 10 s ends at an uptime. -/
def pendingFrom (u : Nat) : ConditionRecord := { active := false, pending := some ⟨u, 10⟩ }

/-- A level a second before its time and at it, of a delivery and of a suction tank; a condition likewise. -/
theorem witness_LevelTimersExpire :
    (∀ s ∈ [turning 3 10001, turning 3 10000, turning 1 10000], Running s) ∧
      ((turning 3 10001).levels[(3 : Tank)].quality = .held ∧
        (turning 3 10001).levels[(3 : Tank)].staleAt = some 10001 ∧ (turning 3 10001).time.uptime < 10001) ∧
      ((turning 3 10000).levels[(3 : Tank)].staleAt = some 10000 ∧
        10000 ≤ (turning 3 10000).time.uptime ∧ (planOf (turning 3 10000)).houses[(2 : House)].delivery = 3) ∧
      ((planOf (turning 1 10000)).houses[(2 : House)].suction = some 1 ∧
        (turning 1 10000).hydraulics[(2 : House)].suctionLow = ⟨false, none⟩) ∧
      (∀ c : Condition, ∀ u ∈ [9990, 9991],
        Running (withWater 2 (putCondition c (pendingFrom u) blankHydraulics) calm) ∧
          (conditionOf (withWater 2 (putCondition c (pendingFrom u) blankHydraulics) calm).hydraulics[(2 : House)] c).pending =
            some ⟨u, 10⟩) ∧
      9990 + 10 ≤ calm.time.uptime ∧ calm.time.uptime < 9991 + 10 := by
  refine ⟨all_running (by decide +kernel), by decide +kernel, by decide +kernel, by decide +kernel, fun c u hu => ?_,
    by decide +kernel⟩
  simp only [List.mem_cons, List.not_mem_nil, or_false] at hu
  obtain rfl | rfl := hu <;> cases c <;> exact ⟨running_of (by decide +kernel), by decide +kernel⟩

/-- House 2 and its suction tank, its delivery tank with a level and without one, and a tank of neither; its bands. -/
theorem witness_ConditionsFollowTheLevel :
    houseInUse calm 2 = true ∧ (planOf calm).houses[(2 : House)].suction = some 1 ∧
      (planOf calm).houses[(2 : House)].delivery = 3 ∧ (planOf calm).houses[(2 : House)].suction ≠ some 0 ∧
      (planOf calm).houses[(2 : House)].delivery ≠ 0 ∧ usableLevel calm.levels[(3 : Tank)] = some 390 ∧
      usableLevel (withLevel 3 blankLevel calm).levels[(3 : Tank)] = none ∧
      (∀ i j : Fin 4, i < j → j.val < (planOf calm).houses[(2 : House)].pumpCount →
        (planOf calm).tanks[(3 : Tank)].start[j] ≤ (planOf calm).tanks[(3 : Tank)].start[i] ∧
          (planOf calm).tanks[(3 : Tank)].stop[j] ≤ (planOf calm).tanks[(3 : Tank)].stop[i]) ∧
      ∀ i j : Fin 4, i < j → calm.hydraulics[(2 : House)].wanted[j] = true →
        calm.hydraulics[(2 : House)].wanted[i] = true := by decide +kernel

/-- Positions of house 2, of which the first `n` are wanted. -/
def wanting (n : Nat) (s : State) : State :=
  withWater 2 { blankHydraulics with wanted := Vector.ofFn fun i : Fin 4 => decide (i.val < n), degraded := false } s

/-- The wanted positions of house 2 after a level of tank 3. -/
def positionsAt (level n : Nat) : List Bool :=
  (levelUpdate 3 (withLevel 3 ⟨some level, .fresh, none, none, false⟩ (wanting n calm))).hydraulics[(2 : House)].wanted.toList

/-- Section 2.7: the positions of house 2 as tank 3 falls and rises. -/
theorem test_positions :
    positionsAt 445 0 = [false, false, false, false] ∧ positionsAt 390 0 = [false, false, false, false] ∧
      positionsAt 375 0 = [true, false, false, false] ∧ positionsAt 320 1 = [true, true, false, false] ∧
      positionsAt 275 2 = [true, true, true, false] ∧ positionsAt 400 3 = [true, true, true, false] ∧
      positionsAt 425 3 = [true, true, false, false] ∧ positionsAt 435 2 = [true, false, false, false] ∧
      positionsAt 441 1 = [false, false, false, false] := by decide +kernel

/-- Section 2.7, uptime 440: tank 1 is STALE, and SUCTION_LOW, active already, does not change. -/
theorem test_levelStale :
    let s := withWater 2 { blankHydraulics with suctionLow := ⟨true, none⟩ } (turning 1 10000)
    (after (.levelStale 1) s).levels[(1 : Tank)].quality = .stale ∧
      (after (.levelStale 1) s).hydraulics[(2 : House)].suctionLow = ⟨true, none⟩ ∧
      (told (after (.levelStale 1) s)).head? = some (.levelStale, 100, 300) := by decide +kernel

/-- Section 2.7, uptime 1550: the filter of OVERFLOW ends. -/
theorem test_conditionFilterExpiry :
    let s := withLevel 3 ⟨some 462, .fresh, some 9990, some 10290, false⟩
      (withWater 2 { blankHydraulics with overflow := pendingFrom 9990, degraded := false } calm)
    (after (.conditionFilterExpiry 2 .overflow) s).hydraulics[(2 : House)].overflow = ⟨true, none⟩ ∧
      told (after (.conditionFilterExpiry 2 .overflow) s) = [(.conditionOn, 1, 462)] ∧
      (after (.conditionFilterExpiry 2 .overflow) s).houses[(2 : House)].limit = .overflow := by decide +kernel

/-! ### The House Dispatcher -/

/-- One state for each of the tests of R63, in their order, and for MANUAL and AUTO. -/
theorem witness_EvaluationStoresTheWant :
    surveying.survey.running = true ∧ calm.survey.running = false ∧
      { calm.bus with stations := calm.bus.stations.set 2 { blankStation with state := .silent } }.stations[
        (planOf calm).houses[(2 : House)].station].state = .silent ∧
      calm.bus.stations[(planOf calm).houses[(2 : House)].station].state ≠ .silent ∧
      (withProtection 2 { blankProtection with interlock := true } calm).protection[(2 : House)].interlock = true ∧
      calm.protection[(2 : House)].interlock = false ∧
      (protected2 .recovery [] false).protection[(2 : House)].state ≠ .clear ∧
      calm.protection[(2 : House)].state = .clear ∧
      (withHouse 2 { blankHouse with mode := .disabled } calm).houses[(2 : House)].mode = .disabled ∧
      calm.houses[(2 : House)].mode ≠ .disabled ∧
      (withWater 2 { blankHydraulics with suctionLow := ⟨true, none⟩ } calm).hydraulics[(2 : House)].suctionLow.active = true ∧
      calm.hydraulics[(2 : House)].suctionLow.active = false ∧
      (withWater 2 { blankHydraulics with overflow := ⟨true, none⟩ } calm).hydraulics[(2 : House)].overflow.active = true ∧
      calm.hydraulics[(2 : House)].overflow.active = false ∧ manual.houses[(2 : House)].mode = .manual ∧
      calm.houses[(2 : House)].mode = .auto ∧
      calm.levels[(planOf calm).houses[(2 : House)].delivery].value.isSome = true ∧
      calm.levels[(planOf calm).houses[(2 : House)].delivery].quality = .fresh ∧
      ((withLevel 3 ⟨some 100, .stale, none, none, false⟩ calm).levels[(3 : Tank)].value.isSome = true ∧
        (withLevel 3 ⟨some 100, .stale, none, none, false⟩ calm).levels[(3 : Tank)].quality = .stale) := by decide +kernel

/-- House 2 with its pumps 8 and 9 RUNNING, of which 8 started first. -/
def running89 : State := withPump 9 (runningPump 8500 475) (withPump 8 (runningPump 8000 475) calm)

/-- House 2 about to queue two pumps, inhibited by code 61, and short of eligible pumps; about to withdraw one; in a survey;
interlocked with an ORDERED pump; with its main settling; with isolate-pending pumps; with one pump too many; at rest. -/
def evaluating : List State :=
  [wanting 2 calm, wanting 2 (withProtection 2 { blankProtection with alarms := [{ active17 with code := 61 }] } calm),
   wanting 3 (withPump 8 { readyPump with history := [6500, 6600, 6700, 6800, 6900, 7000] } calm), queued8, surveying,
   withPump 10 { started with state := .ordered, booking := 1495 }
     (withProtection 2 { blankProtection with interlock := true } running89),
   settlingAt 10030 running89,
   withPump 9 { runningPump 8500 475 with isolatePending := true }
     (withPump 8 { runningPump 8000 475 with isolatePending := true } calm),
   wanting 1 running89, calm]

/-- What each of `evaluating` is to show, and a notice that is taken. -/
theorem witness_EvaluationActsOnThePumps :
    (∀ s ∈ evaluating, QueueHoldsTheQueued s) ∧
      (∀ s ∈ evaluating, s.houses[(2 : House)].dutyList.Nodup ∧ (∀ p ∈ s.houses[(2 : House)].dutyList, houseOf p = 2) ∧
        ∀ p : Pump, houseOf p = 2 → s.pumps[p].state = .queued →
          s.pumps[p].isolatePending = false ∧ s.pumps[p].faultPending = none) ∧
      (∀ s ∈ evaluating, (s.feeder.queue.map fun e => startAge s e).Nodup ∧
        (s.bus.flight = none → s.bus.queue = [])) ∧
      (evaluating.map fun s => (onCount s 2, (evaluateHouse 2 s).houses[(2 : House)].want)) =
        [(0, 2), (0, 2), (0, 3), (1, 0), (3, 0), (3, 0), (2, 0), (2, 0), (2, 1), (0, 0)] ∧
      (evaluating.map fun s => (inhibited s 2, s.survey.running, s.protection[(2 : House)].interlock, mainFree s 2)) =
        [(false, false, false, true), (true, false, false, true), (false, false, false, true),
         (false, false, false, true), (false, true, false, true), (false, false, true, false),
         (false, false, false, false), (false, false, false, true), (false, false, false, true),
         (false, false, false, true)] ∧
      startTimeOf running89 8 < startTimeOf running89 9 ∧ running89.pumps[(8 : Pump)].minRunUntil = none ∧
      (let s := { calm with work := { blankWork with notices := blankWork.notices.set 2 true } }
       s.work.surveyEnd = false ∧ s.work.shedTest = false ∧ s.work.notices[(2 : House)] = true ∧
         ∀ g : House, g < 2 → s.work.notices[g] = false) := ⟨all_queue (by decide +kernel), by decide +kernel⟩

/-- R76: one DEMAND stop, of the pump that started first. -/
theorem test_demandStop :
    let t := evaluateHouse 2 (wanting 1 running89)
    t.pumps[(8 : Pump)].stopCause = some .demand ∧ t.pumps[(9 : Pump)].state = .running ∧
      told t = [(.stopIssued, 0, 0)] := by decide +kernel

/-- A survey with pump 5 reported TRIP and pump 9 RUNNING. -/
def surveyed : State :=
  withPump 9 (runningPump 8500 475)
    (withPump 5 { surveying.pumps[(5 : Pump)] with lastReported := some .trip } surveying)

/-- Pumps that the end of the survey adopts from each reported state, and two that it does not; and a REPORT of the last
station that a survey awaits. -/
theorem witness_SurveyEnds :
    (∀ p ∈ [(8 : Pump), 4, 5, 10], pumpInUse surveyed p = true ∧ surveyed.pumps[p].state = .unconfirmed ∧
      surveyed.bus.stations[stationOf surveyed (houseOf p)].state ≠ .silent ∧
      surveyed.pumps[p].isolatePending = false ∧ surveyed.pumps[p].protectPending = false ∧
      surveyed.pumps[p].faultPending = none) ∧
      ([(8 : Pump), 4, 5, 10].map fun p => surveyed.pumps[p].lastReported) =
        [some .run, some .stop, some .trip, some .localControl] ∧
      surveyed.pumps[(8 : Pump)].lastReportedAt = some 9990 ∧ surveyed.pumps[(12 : Pump)].lastReported = none ∧
      surveyed.pumps[(9 : Pump)].state = .running ∧ houseInUse surveyed 2 = true ∧
      surveyed.eventQueue.records.length ≤ 63 ∧ Running surveying ∧
      Waiting (flightOf (.station 3) .poll) surveying ∧ (parseReport report375).isSome = true ∧
      surveying.survey.running = true ∧ surveying.survey.awaited.contains 3 = true := by
  refine ⟨by decide +kernel, by decide +kernel, rfl, rfl, rfl, by decide +kernel, by decide +kernel,
    running_of (by decide +kernel), ⟨rfl, rfl, rfl, rfl⟩, by decide +kernel⟩

/-- The network with entries 5 (FLOOR) and 6 (CEILING) of house 2 at some counts. -/
def floored (floor ceiling : Nat) : Plan :=
  { net with timetable := Vector.ofFn fun e : Entry =>
      { clearEntry with
        inUse := e = 5 ∨ e = 6, house := 2, kind := if e = 5 then .floor else .ceiling
        count := if e = 5 then floor else ceiling } }

/-- The want and limit of house 2 in a case of the table of section 4.8: its positions, its FLOOR and CEILING windows (0
for none), LOW_ALARM, degraded and its duty list. -/
def wantOf (n floor ceiling : Nat) (lowAlarm degraded : Bool) (duty : List Pump) : Nat × Limit :=
  let s := { calm with
    banks := { calm.banks with a := checked (floored floor ceiling) }
    timetable := { calm.timetable with windows :=
      (if floor = 0 then [] else [⟨5, 2, 20000⟩]) ++ if ceiling = 0 then [] else [⟨6, 2, 20000⟩] } }
  let y := { (wanting n s).hydraulics[(2 : House)] with lowAlarm := ⟨lowAlarm, none⟩, degraded }
  let wet := withLevel 3 ⟨some 390, if degraded then .stale else .fresh, some 9990, none, false⟩ (withWater 2 y s)
  let t := evaluateHouse 2 (withHouse 2 { calm.houses[(2 : House)] with dutyList := duty } wet)
  (t.houses[(2 : House)].want, t.houses[(2 : House)].limit)

/-- Section 4.8: the want of house 2, cases a to h. -/
theorem test_want :
    wantOf 1 0 0 false false [8, 9, 10] = (1, .level) ∧ wantOf 1 2 0 false false [8, 9, 10] = (2, .floor) ∧
      wantOf 3 0 1 false false [8, 9, 10] = (1, .ceiling) ∧ wantOf 3 0 1 true false [8, 9, 10] = (3, .level) ∧
      wantOf 0 3 2 false false [8, 9, 10] = (2, .ceiling) ∧ wantOf 0 2 0 false true [8, 9, 10] = (1, .fallback) ∧
      wantOf 3 0 0 false false [8, 9] = (2, .rotation) ∧ wantOf 0 2 0 false false [8, 9, 10] = (2, .floor) := by
  decide +kernel

/-! ### Pump, main and meter timers -/

/-- Pump 8 with a record, booked. -/
def with8 (r : PumpLive) : State := withPump 8 r calm

/-- Pump 8 with a start that leaves its history at 10000, in each group of states. -/
def aged8 : List State :=
  [with8 { readyPump with history := [6400] },
   { queued8 with pumps := queued8.pumps.set 8 { blankPump with state := .queued, history := [6400] } },
   with8 { started with state := .ordered, booking := 1495, history := [6400, 9999] },
   with8 { blankPump with state := .rest, minOffUntil := some 10000, history := [6400] }]

/-- Pump 8 at the end of its start window, of its min run and of a kept permit. -/
def timed8 : List State :=
  [with8 { started with state := .starting, booking := 1495, windowEnd := some 10000 },
   with8 { runningPump 9100 467 with minRunUntil := some 10000 },
   with8 { started with state := .unconfirmed, booking := 1495, permitRelease := some 10000 }]

/-- Each timer of pump 8 at the moment it is reached, and the history's first entry in each group of states. -/
theorem witness_PumpTimersExpire :
    (∀ s ∈ timed8 ++ aged8, Running s) ∧ (∀ s ∈ timed8 ++ aged8, QueueHoldsTheQueued s) ∧
      (timed8.map fun s => (s.pumps[(8 : Pump)].state, s.pumps[(8 : Pump)].windowEnd, s.pumps[(8 : Pump)].minRunUntil,
        s.pumps[(8 : Pump)].permitRelease)) =
        [(.starting, some 10000, none, none), (.running, none, some 10000, none), (.unconfirmed, none, none, some 10000)] ∧
      (aged8.map fun s => (s.pumps[(8 : Pump)].state, s.pumps[(8 : Pump)].history.head?)) =
        [(.ready, some 6400), (.queued, some 6400), (.ordered, some 6400), (.rest, some 6400)] ∧
      6400 + 3600 ≤ calm.time.uptime ∧
      (with8 { blankPump with state := .rest, minOffUntil := some 10000, history := [6400] }).pumps[(8 : Pump)].minOffUntil =
        some 10000 := ⟨all_running (by decide +kernel), all_queue (by decide +kernel), by decide +kernel⟩

/-- The meter at the end of a phase, with a reading. -/
def phased (phase : ShedPhase) (reading : Option Nat) : State :=
  withMeter 10 { blankMeter with phase, phaseUntil := some 10000, reading }

/-- The meter as its reading turns stale. -/
def stalling (hold : Bool) : State := withMeter 10 { blankMeter with staleAt := some 10000, hold, reading := some 1300 }

/-- A main a second before it settles and as it does; a meter that turns stale with and without a hold; the end of a phase
with the reading at the shed level, below it and absent. -/
theorem witness_MainAndMeterTimersExpire :
    (∀ s ∈ [settlingAt 10001 calm, settlingAt 10000 calm, stalling false, stalling true, phased .filtering (some 1500),
      phased .settling (some 1500), phased .settling (some 1499), phased .settling none], Running s) ∧
      ((settlingAt 10001 calm).houses[(2 : House)].mainSettledAt = some 10001 ∧ calm.time.uptime < 10001) ∧
      (settlingAt 10000 calm).houses[(2 : House)].mainSettledAt = some 10000 ∧
      (∀ hold : Bool, (stalling hold).feeder.meter.staleAt = some 10000 ∧ (stalling hold).feeder.meter.hold = hold) ∧
      (phased .filtering (some 1500)).feeder.meter.phase = .filtering ∧
      (planOf (phased .settling (some 1500))).header.meterShedLevel ≤ 1500 ∧
      1499 < (planOf (phased .settling (some 1499))).header.meterShedLevel ∧
      (phased .settling none).feeder.meter.phaseUntil = some 10000 ∧ 10000 ≤ (phased .settling none).time.uptime :=
  ⟨all_running (by decide +kernel), by decide +kernel⟩

/-- R44, R91: at the end of its window pump 8 is RUNNING and booked at its running draw, 467. -/
theorem test_startWindowEnd :
    let t := after (.startWindowEnd 8)
      (wanting 1 (with8 { started with state := .starting, booking := 1495, windowEnd := some 10000 }))
    t.pumps[(8 : Pump)].state = .running ∧ t.pumps[(8 : Pump)].minRunUntil = some 10899 ∧ t.feeder.committed = 467 ∧
      (told t).head? = some (.run, 1, 467) := by decide +kernel

/-- R43: a kept permit is released. -/
theorem test_permitReleaseExpiry :
    let t := after (.permitReleaseExpiry 8)
      (with8 { started with state := .unconfirmed, booking := 1495, permitRelease := some 10000 })
    t.pumps[(8 : Pump)].permit = none ∧ t.pumps[(8 : Pump)].booking = 1495 := by decide +kernel

/-- Section 4.8: pump 10 stops for DEMAND on the notice of its min-run expiry at 2900. -/
theorem test_minRunExpiry :
    let t := after (.minRunExpiry 10)
      (atTime 2900 (withPump 10 { runningPump 2000 467 with minRunUntil := some 2900 } (wanting 0 calm)))
    t.pumps[(10 : Pump)].state = .stopping ∧ t.pumps[(10 : Pump)].stopCause = some .demand := by decide +kernel

/-- R38: min off over, the pump is READY. -/
theorem test_minOffExpiry :
    (after (.minOffExpiry 8) (with8 { blankPump with state := .rest, minOffUntil := some 10000 })).pumps[(8 : Pump)] =
      readyPump := by decide +kernel

/-- R37: a start leaves the history an hour after it. -/
theorem test_startHistoryExpiry :
    (after (.startHistoryExpiry 8) (with8 { readyPump with history := [6400, 7000] })).pumps[(8 : Pump)].history = [7000] ∧
      (after (.startHistoryExpiry 8) (with8 { readyPump with history := [6401] })).pumps[(8 : Pump)].history = [6401] := by
  decide +kernel

/-- Section 4.8, uptime 2646: the main settles, and pump 9, whose min run is over, stops for DEMAND. -/
theorem test_mainSettled :
    let t := after (.mainSettled 2 false)
      (settlingAt 2646 (atTime 2646
        (withPump 9 (runningPump 1500 475)
          (withPump 10 { runningPump 2000 475 with minRunUntil := some 2900 } (wanting 1 calm)))))
    t.houses[(2 : House)].mainSettledAt = none ∧ t.pumps[(9 : Pump)].state = .stopping ∧
      t.pumps[(10 : Pump)].state = .running := by decide +kernel

/-- R104, R105: a stale meter ends a hold. -/
theorem test_meterStale :
    told (after .meterStale (withMeter 10 { blankMeter with staleAt := some 10000, hold := true, reading := some 1300 })) =
      [(.meterStale, 1300, 65535), (.meterHoldEnd, 1300, 1)] := by decide +kernel

/-- R106: below the shed level the end of SETTLING is IDLE. -/
theorem test_meterPhaseExpiry :
    (after .meterPhaseExpiry (phased .settling (some 1499))).feeder.meter.phase = .idle ∧
      (after .meterPhaseExpiry (phased .filtering (some 1500))).feeder.meter.phase = .due := by decide +kernel

/-! ### The Feeder Budget Unit -/

theorem witness_AdmissionKeepsTheBudget :
    SumsHold queued8 ∧ QueueHoldsTheQueued queued8 ∧ queued8.pumps[(8 : Pump)].state = .queued ∧
      queued8.pumps[(8 : Pump)].booking = 0 ∧ passedOver queued8 (houseOf 8) = false ∧ candidateEnd queued8 8 = none ∧
      needOf queued8 8 = 1495 ∧ (∀ p : Pump, queued8.pumps[p].state = .queued → queued8.pumps[p].booking = 0) ∧
      queued8.feeder.committed ≤ queued8.feeder.cap :=
  ⟨(running_of (s := queued8) (by decide +kernel)).1.2.1, queue_of (by decide +kernel), by decide +kernel⟩

/-- Pump 9 RUNNING alone, under draws of house 2's pumps that fall with the head. -/
def falling : State :=
  let pumps := Vector.ofFn fun p : Pump =>
    if p = 8 ∨ p = 9 ∨ p = 10 then pumpRecord [⟨3000, 600⟩, ⟨5600, 200⟩] 32 else net.pumps[p]
  let s := { calm with banks := { calm.banks with a := checked { net with pumps } } }
  withPump 9 (runningPump 9000 (drawB s 9 1)) s

/-- Pump 8 adopted RUNNING. -/
def joined8 (s : State) : State := pumpChanged 8 (updPump 8 (adoptedFields 10000) s)

/-- During the survey and outside it; with passes called for and with none; and each trigger. -/
theorem witness_AdmissionPassIsRecorded :
    (∀ s ∈ [surveying, queued8], QueueHoldsTheQueued s) ∧ surveying.survey.running = true ∧
      queued8.survey.running = false ∧
      (∀ k ∈ [0, 1, 3], let s := { queued8 with work := { blankWork with passes := k } }
        s.work.surveyEnd = false ∧ s.work.shedTest = false ∧ (∀ h : House, s.work.notices[h] = false) ∧
          s.work.passes = k) ∧
      (with8 started).pumps[(8 : Pump)].permit.isSome = true ∧
      sumBookings calm < { calm.feeder with committed := 1 }.committed ∧ calm.feeder.cap < 2401 ∧
      ((stalling true).feeder.meter.hold = true ∧ 1199 < (planOf (stalling true)).header.meterHoldLevel) ∧
      SumsHold falling ∧ (joined8 falling).pumps[(9 : Pump)].booking < falling.pumps[(9 : Pump)].booking :=
  ⟨all_queue (by decide +kernel), by unfold SumsHold; decide +kernel⟩

/-- R35, R88: pump 9's booking falls as pump 8 is adopted, and an admission pass is triggered though committed rises. -/
theorem test_bookingFalls :
    falling.feeder.committed < (joined8 falling).feeder.committed ∧ (joined8 falling).work.passes = 1 := by
  decide +kernel

/-- Pumps 8 and 12 RUNNING beyond the cap, in houses of priority 5 and 6. -/
def overloaded : State :=
  let s := withPump 12 (runningPump 8500 700) (withPump 8 (runningPump 8000 467) calm)
  { s with feeder := { s.feeder with cap := 800 } }

/-- `overloaded` with house 3's main settling, `overloaded` within its cap, and with a METER_SHED due. -/
def shedding : List State :=
  [overloaded, withHouse 3 { calm.houses[(3 : House)] with mainSettledAt := some 10030 } overloaded,
   { overloaded with feeder := { overloaded.feeder with cap := 2400 } },
   { overloaded with feeder := { overloaded.feeder with cap := 2400, meter := { blankMeter with phase := .due } } },
   calm, surveying]

/-- A RUNNING pump in an in-use house whose main is free. -/
def mayShed (s : State) (p : Pump) : Bool :=
  s.pumps[p].state == .running && houseInUse s (houseOf p) && mainFree s (houseOf p)

/-- Pump 12 is taken where its house's main is free, and pump 8 where it is not; nothing can be taken in `calm`. -/
theorem witness_ShedTestShedsPumps :
    (∀ s ∈ shedding, SumsHold s) ∧
      (shedding.map fun s => s.survey.running) = [false, false, false, false, false, true] ∧
      (∀ s ∈ shedding, s.feeder.overCap = false) ∧
      (shedding.map fun s => decide (s.feeder.cap < s.feeder.committedForShed)) =
        [true, true, false, false, false, true] ∧
      (shedding.map fun s => s.feeder.meter.phase) = [.idle, .idle, .idle, .due, .idle, .idle] ∧
      (shedding.map fun s => allPumps.filter (mayShed s)) = [[8, 12], [8], [8, 12], [8, 12], [], []] ∧
      priorityOf overloaded (houseOf 8) < priorityOf overloaded (houseOf 12) ∧
      (¬ { calm.feeder with committed := 1 }.committed = sumBookings calm) ∧ 2401 ≠ calm.feeder.cap ∧
      Reported.stop ≠ .run ∧
      ({ calm with work := { blankWork with shedTest := true } } : State).work.surveyEnd = false :=
  ⟨fun s hs => (all_running (l := shedding) (by decide +kernel) s hs).1.2.1, by decide +kernel⟩

/-- R101, R102: committed-for-shed beyond the cap opens an episode, the pump of house 3, of the greater priority number, is
shed, and the episode ends with the excess. -/
theorem test_shed :
    told (shedTest overloaded) = [(.overCap, 1167, 800), (.stopIssued, 2, 0), (.shed, 1167, 800), (.overCapEnd, 467, 800)] ∧
      (shedTest overloaded).pumps[(12 : Pump)].state = .stopping ∧
      (shedTest overloaded).pumps[(8 : Pump)].state = .running := by decide +kernel

/-- R103: a stop that is refused LOCAL frees the main, and the shed test at its end takes the next pump. -/
theorem test_shedAtTheStopsEnd :
    let s := withPump 8 { stopped with state := .stopping, booking := 467, stopCause := some .shed }
      (withPump 9 (runningPump 8500 475) calm)
    let t := after (.orderReply (busFrame 131 4 [9, 1, 1]))
      (waiting (.station 2) (.order ⟨8, .stop⟩ 9) { s with feeder := { s.feeder with cap := 300, overCap := true } })
    t.pumps[(8 : Pump)].state = .localControl ∧ t.pumps[(9 : Pump)].state = .stopping ∧
      t.pumps[(9 : Pump)].stopCause = some .shed := by decide +kernel

theorem witness_StartQueueHoldsTheQueued : QueueHoldsTheQueued queued8 ∧ ∃ t, step queued8 = .next t :=
  ⟨queue_of (by decide +kernel), next_of (by decide +kernel)⟩

/-- Pumps 8 and 12 QUEUED, with the counter at its last number. -/
def bothQueued : State :=
  { withPump 12 { blankPump with state := .queued } queued8 with
    feeder := { queued8.feeder with queue := [⟨8, 2, 65534, 9000⟩, ⟨12, 3, 65533, 8999⟩] } }

theorem witness_StartQueueStaysInOrder :
    QueueHoldsTheQueued bothQueued ∧ bothQueued.feeder.nextSeq < 65536 ∧
      (∀ e ∈ bothQueued.feeder.queue, e.seq < 65536) ∧ (bothQueued.feeder.queue.map fun e => e.seq).Nodup ∧
      bothQueued.feeder.queue.Pairwise (fun d e => standsBefore bothQueued d e = true) :=
  ⟨queue_of (by decide +kernel), by decide +kernel⟩

/-- The curve of pump 8 up to its first head, between points and at one; and the network's own heads. -/
theorem witness_DrawIsReadFromTheCurve :
    curve8.Pairwise (fun p q => p.head < q.head) ∧ curve8 = ⟨3000, 412⟩ :: curve8.tail ∧ 3000 ≤ 3000 ∧
      curve8[1]? = some ⟨4000, 455⟩ ∧ curve8[1 + 1]? = some ⟨4500, 478⟩ ∧ 4000 < 4240 ∧ 4240 ≤ 4500 ∧
      (∀ x ∈ curve8, x.head ≤ 65535 ∧ x.draw ≤ 65535) ∧ (∃ q ∈ curve8, 5600 ≤ q.head) ∧
      firstFailure net = none ∧ net.pumps[(8 : Pump)].inUse = true ∧ net.houses[houseOf 8].inUse = true ∧
      net.pumps[(8 : Pump)].curve ≠ [] ∧ 3 ≤ net.houses[houseOf 8].pumpCount := by decide +kernel

/-- Section 5.1: the running draws of pump 8, and a falling segment, which rounds the other way. -/
theorem test_draw :
    [4240, 4420, 4720].map (drawAt curve8) = [467, 475, 484] ∧
      drawAt [⟨4000, 520⟩, ⟨5000, 500⟩] 4420 = 512 := by decide +kernel

/-! ### The Protection Unit -/

/-- Code 17 PENDING in house 2 until an uptime, with pumps 8 and 9 RUNNING (section 7.10). -/
def pending17 (u : Nat) : State :=
  withProtection 2 { blankProtection with alarms := [{ active17 with activeAt := some u }] }
    (withPump 8 (runningPump 8000 475) (withPump 9 (runningPump 8500 475) calm))

/-- Code 40, whose action is TRIP, PENDING with pump 8. -/
def pending40 : AlarmEntry := { code := 40, pump := some 8, firstSeen := 9990, activeAt := some 10000 }

/-- The TRIP of `pending40` about to be taken. -/
def tripping (s : State) : State := withProtection 2 { blankProtection with alarms := [pending40] } s

/-- `tripping` with pump 8 in each of its states. -/
def tripping8 : List State :=
  ([PumpState.ready, .rest, .localControl, .ordered, .unconfirmed, .running, .starting, .stopping, .faulted,
    .isolated].map fun x => tripping (pump8 x none)) ++ [tripping queued8, tripping (ordered8 .ordered .start started)]

/-- A LOCKOUT a second before its time and at it; and a TRIP that names pump 8 in each state that it may find it in. -/
theorem witness_AlarmsActivate :
    (∀ s ∈ pending17 10000 :: pending17 10001 :: tripping8, Running s) ∧ (∀ s ∈ tripping8, QueueHoldsTheQueued s) ∧
      (∀ u ∈ [10000, 10001], (pending17 u).protection[(2 : House)].alarms.find? (fun d => d.code == 17) =
        some { active17 with activeAt := some u } ∧ (pending17 u).time.uptime = 10000) ∧
      (∀ s ∈ tripping8, s.protection[(2 : House)].alarms.find? (fun d => d.code == 40) =
        some { pending40 with activeAt := some 10000 } ∧ (planOf s).alarmMap[(40 : Code)].action = .trip) ∧
      (tripping8.map fun s => (s.pumps[(8 : Pump)].state, orderInFlight s 8)) =
        [(.ready, false), (.rest, false), (.localControl, false), (.ordered, false), (.unconfirmed, false),
         (.running, false), (.starting, false), (.stopping, false), (.faulted, false), (.isolated, false),
         (.queued, false), (.ordered, true)] :=
  ⟨all_running (by decide +kernel), all_queue (by decide +kernel), by decide +kernel⟩

/-- House 2 in RECOVERY until 10000 at an attempt. -/
def recovering (attempts : Nat) (alarms : List AlarmEntry) (suppression : Bool) : State :=
  withProtection 2
    { blankProtection with state := .recovery, attempts, recoveryUntil := some 10000, alarms, suppression
                           causeCode := some 17 } calm

/-- House 2 CLEAR after attempts that are forgiven at an uptime. -/
def forgiving (u : Nat) : State :=
  withProtection 2 { blankProtection with attempts := 2, forgiveAt := some u } calm

/-- No entry, suppression, the retries used up (2 of 2) and not (1 of 2); forgiveness at its time and a second before. -/
theorem witness_RecoveryRunsItsCourse :
    (∀ s ∈ [recovering 2 [] false, recovering 2 [active17] true, recovering 2 [active17] false,
      recovering 1 [active17] false, forgiving 10000, forgiving 10001], Running s) ∧
      lockoutOf (recovering 2 [] false) 2 = none ∧
      (recovering 2 [active17] true).protection[(2 : House)].suppression = true ∧
      lockoutOf (recovering 2 [active17] false) 2 = some active17 ∧
      (planOf (recovering 2 [active17] false)).houses[(2 : House)].recoveryRetries = 2 ∧
      (recovering 1 [active17] false).protection[(2 : House)].recoveryUntil = some 10000 ∧
      (forgiving 10000).protection[(2 : House)].forgiveAt = some 10000 ∧
      (forgiving 10001).protection[(2 : House)].state = .clear :=
  ⟨all_running (by decide +kernel), by decide +kernel⟩

/-- Section 7.10, uptime 10005: ALARM_ACTIVE, RECOVERY_START, and PROTECT stops of pumps 8 and 9. -/
theorem test_alarmFilterExpiry :
    let t := after (.alarmFilterExpiry 2 17) (atTime 10005 (pending17 10005))
    t.protection[(2 : House)].state = .recovery ∧ t.protection[(2 : House)].recoveryUntil = some 10305 ∧
      ([8, 9].map fun p : Pump => (t.pumps[p].state, t.pumps[p].stopCause)) =
        [(.stopping, some .protect), (.stopping, some .protect)] ∧
      (told t).take 2 = [(.alarmActive, 17, 4), (.recoveryStart, 1, 17)] := by decide +kernel

/-- R52, R130: a TRIP that names a READY pump makes it FAULTED, TRIP_ALARM of the code, with PUMP_FAULT behind ALARM_ACTIVE. -/
theorem test_tripAlarm :
    let t := after (.alarmFilterExpiry 2 40) (tripping calm)
    t.pumps[(8 : Pump)].state = .faulted ∧ t.pumps[(8 : Pump)].fault = some (.tripAlarm 40) ∧
      (told t).map (fun e => e.1) = [.alarmActive, .pumpFault] := by decide +kernel

/-- Section 7.10, uptimes 10605 and 11305: CLEAR with forgive-at an hour on; LOCKED_OUT at the limit. -/
theorem test_recoveryExpiry :
    (after (.recoveryExpiry 2) (recovering 2 [] false)).protection[(2 : House)].forgiveAt = some 13600 ∧
      told (after (.recoveryExpiry 2) (recovering 2 [] false)) = [(.recoveryEnd, 2, 0)] ∧
      (told (after (.recoveryExpiry 2) (recovering 3 [active17] false))) = [(.lockedOut, 3, 17)] := by decide +kernel

/-- R138: the attempts are forgiven at forgive-at and not before. -/
theorem test_forgiveExpiry :
    (after (.forgiveExpiry 2) (forgiving 10000)).protection[(2 : House)].attempts = 0 ∧
      (after (.forgiveExpiry 2) (forgiving 10001)).protection[(2 : House)].attempts = 2 := by decide +kernel

end Sys2Proof.Tests
end

section
/-! SUPPORT. The upstream walk of a house (R9): how many of its steps are enough, and what its end says. -/

namespace Sys2Proof.Machine

/-- One step upstream, from a house that the walk may have left. -/
def stepUpstream (pl : Plan) (g : Option House) : Option House := g.bind (upstream pl)

/-- A walk that has run out of houses stays out. -/
theorem stepUpstream_iterate_none (pl : Plan) (n : Nat) : (stepUpstream pl)^[n] none = none :=
  Function.iterate_fixed rfl n

/-- The walk of at most `k` steps finds the start exactly if one of them arrives there. -/
theorem walkReturns_iff (pl : Plan) (start : House) (k : Nat) (h : House) :
    walkReturns pl start k h = true ↔ ∃ n, 0 < n ∧ n ≤ k ∧ (stepUpstream pl)^[n] (some h) = some start := by
  induction k generalizing h with
  | zero =>
    refine iff_of_false (by simp [walkReturns]) ?_
    rintro ⟨n, pos, le, -⟩
    omega
  | succ k ih =>
    have first : (stepUpstream pl) (some h) = upstream pl h := rfl
    unfold walkReturns
    cases hu : upstream pl h with
    | none =>
      refine iff_of_false (by simp) ?_
      rintro ⟨n, pos, -, arrives⟩
      obtain ⟨m, rfl⟩ := Nat.exists_eq_add_one.mpr pos
      rw [Function.iterate_succ_apply, first, hu, stepUpstream_iterate_none] at arrives
      cases arrives
    | some u =>
      simp only [Bool.or_eq_true, beq_iff_eq, ih]
      constructor
      · rintro (rfl | ⟨n, pos, le, arrives⟩)
        · exact ⟨1, by omega, by omega, hu⟩
        · exact ⟨n + 1, by omega, by omega, by rw [Function.iterate_succ_apply, first, hu, arrives]⟩
      · rintro ⟨n, pos, le, arrives⟩
        obtain ⟨m, rfl⟩ := Nat.exists_eq_add_one.mpr pos
        rw [Function.iterate_succ_apply, first, hu] at arrives
        rcases Nat.eq_zero_or_pos m with rfl | mpos
        · exact .inl (Option.some.inj arrives)
        · exact .inr ⟨m, mpos, by omega, arrives⟩

/-- A walk that returns meets only houses on its way. -/
theorem stepUpstream_iterate_ne_none {pl : Plan} {h : House} {n : Nat}
    (returns : (stepUpstream pl)^[n] (some h) = some h) {m : Nat} (le : m ≤ n) :
    (stepUpstream pl)^[m] (some h) ≠ none := by
  intro out
  obtain ⟨d, rfl⟩ := Nat.exists_eq_add_of_le' le
  rw [Function.iterate_add_apply, out, stepUpstream_iterate_none] at returns
  cases returns

/-- There are eight houses, so a walk that returns does so within eight steps. -/
theorem stepUpstream_period_le (pl : Plan) (h : House) :
    Function.minimalPeriod (stepUpstream pl) (some h) ≤ 8 := by
  set period := Function.minimalPeriod (stepUpstream pl) (some h)
  have returns : (stepUpstream pl)^[period] (some h) = some h := Function.isPeriodicPt_minimalPeriod _ _
  have visits : ∀ m ∈ Finset.range period, (stepUpstream pl)^[m] (some h) ∈ Finset.univ.erase none := fun m hm =>
    Finset.mem_erase.mpr ⟨stepUpstream_iterate_ne_none returns (Finset.mem_range.mp hm).le, Finset.mem_univ _⟩
  have once : Set.InjOn (fun m => (stepUpstream pl)^[m] (some h)) (Finset.range period) := by
    rw [Finset.coe_range]
    exact Function.iterate_injOn_Iio_minimalPeriod
  have counted := Finset.card_le_card_of_injOn _ visits once
  simpa using counted

/-- Settles O28: a walk that returns at all returns in its least period, which the eight steps of the check hold. -/
theorem cascadeWalkFindsEveryLoop : Obligations.CascadeWalkFindsEveryLoop := by
  intro pl h _
  change _ ↔ ∃ n, 0 < n ∧ (stepUpstream pl)^[n] (some h) = some h
  rw [walkReturns_iff]
  constructor
  · rintro ⟨n, pos, -, returns⟩
    exact ⟨n, pos, returns⟩
  · rintro ⟨n, pos, returns⟩
    exact ⟨_, Function.IsPeriodicPt.minimalPeriod_pos pos returns, stepUpstream_period_le pl h,
      Function.isPeriodicPt_minimalPeriod _ _⟩

end Sys2Proof.Machine
end

section
/-! SUPPORT. How a whole reply frame is taken: its bytes join the transaction one after another, and the last one ends it
(R146, R148, R149). -/

namespace Sys2Proof.Machine

/-- A reply frame is complete when it holds its five framing bytes and its body (R147). -/
theorem replyComplete_iff {bs : List Byte} {n : Byte} (hn : bs[2]? = some n) :
    replyComplete bs = true ↔ 5 + n.toNat ≤ bs.length := by
  simp [replyComplete, hn]

/-- What has come of a frame before its last byte is not complete. -/
theorem replyComplete_of_lt {bs part : List Byte} {n : Byte} (hn : bs[2]? = some n) (hlen : bs.length = 5 + n.toNat)
    (hpart : part <+: bs) (hlt : part.length < bs.length) : replyComplete part = false := by
  obtain ⟨rest, rfl⟩ := hpart
  by_cases h2 : 2 < part.length
  · rw [List.getElem?_append_left h2] at hn
    rw [← Bool.not_eq_true, replyComplete_iff hn]
    omega
  · simp [replyComplete, List.getElem?_eq_none (Nat.not_lt.mp h2)]

/-- The bytes of a frame that is not yet complete join its transaction (R148). -/
theorem takeBusBytes_incomplete {f : Flight} {s : State} (hf : s.bus.flight = some f) (hsent : f.sentAt.isSome = true)
    (hempty : f.partialReply = []) (bs : List Byte) (hbs : ∀ part, part <+: bs → replyComplete part = false) :
    takeBusBytes bs s = { s with bus := { s.bus with flight := some { f with partialReply := bs } } } := by
  induction bs using List.reverseRecOn with
  | nil =>
    have hf' : { f with partialReply := [] } = f := by rw [← hempty]
    rw [hf', ← hf]
    rfl
  | append_singleton bs b ih =>
    have before := ih fun part hp => hbs part (hp.trans (List.prefix_append _ _))
    unfold takeBusBytes at before ⊢
    rw [List.foldl_append, before]
    simp [takeBusByte, joinReply, hsent, hbs _ (List.prefix_refl _)]

/-- A whole frame ends its transaction with what its tests find (R146, R149). -/
theorem takeBusBytes_complete {f : Flight} {s : State} (hf : s.bus.flight = some f) (hsent : f.sentAt.isSome = true)
    (hempty : f.partialReply = []) (hkept : f.discarded = false) {bs : List Byte} {n : Byte} (hn : bs[2]? = some n)
    (hlen : bs.length = 5 + n.toNat) :
    takeBusBytes bs s = deliverOutcome f (testReply f bs)
      { s with bus := { s.bus with flight := none }, work := { s.work with busEnded := true } } := by
  obtain ⟨front, last, rfl⟩ : ∃ front last, bs = front ++ [last] := by
    refine (List.eq_nil_or_concat' bs).resolve_left ?_
    rintro rfl
    simp at hlen
    omega
  have before := takeBusBytes_incomplete hf hsent hempty front fun part hp => by
    refine replyComplete_of_lt hn hlen (hp.trans (List.prefix_append _ _)) ?_
    have := hp.length_le
    simp
    omega
  unfold takeBusBytes at before ⊢
  rw [List.foldl_append, before]
  have whole : replyComplete (front ++ [last]) = true := (replyComplete_iff hn).mpr hlen.ge
  simp [takeBusByte, joinReply, hsent, whole, endTransaction, hkept]
  rfl

/-- The first bytes of a frame are its address, its kind and its body length; the body follows (R147). -/
theorem busFrame_eq (address kind : Nat) (body : List Byte) :
    busFrame address kind body =
      BitVec.ofNat 8 address :: BitVec.ofNat 8 kind :: BitVec.ofNat 8 body.length ::
        (body ++ crcBytes (BitVec.ofNat 8 address :: BitVec.ofNat 8 kind :: BitVec.ofNat 8 body.length :: body)) := by
  simp [busFrame, toBytes]

/-- A frame with the right address and kind passes its tests up to those of its contents (R149). -/
theorem testReply_busFrame (f : Flight) (body : List Byte) (hkind : replyKind f.request < 256)
    (haddress : unitAddress f.unit + 128 < 256) :
    testReply f (busFrame (unitAddress f.unit + 128) (replyKind f.request) body) = testContents f body := by
  set bs := busFrame (unitAddress f.unit + 128) (replyKind f.request) body with frame
  have own : crcMatches bs = true := crcMatches_own _
  rw [busFrame_eq] at frame
  have address : fieldAt bs 0 1 = unitAddress f.unit + 128 := by
    simp [frame, fieldAt, ofBytes_single]
    omega
  have kind : fieldAt bs 1 1 = replyKind f.request := by
    simp [frame, fieldAt, ofBytes_single]
    omega
  have contents : replyBody bs = body := by simp [frame, replyBody]
  simp [testReply, own, address, kind, contents]

/-- A well-formed REPORT body has at most 28 bytes (R150). -/
theorem parseReport_length {body : List Byte} {r : Report} (h : parseReport body = some r) : body.length ≤ 28 := by
  unfold parseReport at h
  dsimp only at h
  split at h
  · omega
  · cases h

/-- The state in which the contents of a reply are delivered: the bus is IDLE, and goes on when the event's work is done
(R146, log 45). -/
def busFreed (s : State) : State :=
  { s with bus := { s.bus with flight := none }, work := { s.work with busEnded := true } }

/-- A good REPORT is delivered, and its event runs to its end (R149, R151). -/
theorem exec_report_good {s : State} {f : Flight} {st : Station} {body : List Byte} {r : Report}
    (hrun : s.inReset = false) (hwait : Waiting f s) (hpoll : f.request = .poll) (hunit : f.unit = .station st)
    (hr : parseReport body = some r) :
    exec (.report (busFrame (stationAddress st + 128) 2 body)) s =
      .next (finish (deliverReport st r (busFreed s))) := by
  obtain ⟨hf, hsent, hempty, hkept⟩ := hwait
  have short := parseReport_length hr
  have address : stationAddress st + 128 = unitAddress f.unit + 128 := by rw [hunit]; rfl
  have small : unitAddress f.unit + 128 < 256 := by rw [hunit]; simp only [unitAddress, stationAddress]; omega
  have kind : 2 = replyKind f.request := by rw [hpoll]; rfl
  have good : testReply f (busFrame (stationAddress st + 128) 2 body) = .ok (.report st r) := by
    rw [address, kind, testReply_busFrame f body (by omega) small]
    simp [testContents, hpoll, hunit, hr]
  have taken : takeBusBytes (busFrame (stationAddress st + 128) 2 body) s = deliverReport st r (busFreed s) := by
    rw [takeBusBytes_complete (n := BitVec.ofNat 8 body.length) hf hsent hempty hkept (by rw [busFrame_eq]; rfl)
      (by rw [busFrame_eq]; simp; omega), good]
    rfl
  rw [exec_report, live_running hrun]
  simp [whenDue, inFlight, hf, hpoll, taken]

end Sys2Proof.Machine
end

section
/-! SUPPORT. What the delivery of a REPORT keeps: the standing part of the state apart from the blocks that take its
contents, the records already in the Event Queue, and what was last reported of each pump. -/

namespace Sys2Proof.Machine

/-- The standing part of a state, and what was last reported of each pump with its uptime. -/
structure Outline where
  standing : Standing
  reports : Vector (Option Reported × Option Nat) 32

/-- The outline of a state. -/
def outline (s : State) : Outline :=
  { standing := standing s, reports := s.pumps.map fun r => (r.lastReported, r.lastReportedAt) }

/-- `t` comes after `s` with no record lost and with the outline unchanged as far as `view` shows it. -/
structure Keeps (view : Outline → Outline) (s t : State) : Prop where
  same : view (outline t) = view (outline s)
  records : s.eventQueue.records <+: t.eventQueue.records

/-- The outline apart from the levels, conditions and positions. -/
def exceptTanks (x : Outline) : Outline :=
  { x with standing := { x.standing with
      levels := Vector.replicate 12 blankLevel, hydraulics := Vector.replicate 8 blankHydraulics } }

/-- The outline apart from the conditions and positions. -/
def exceptHydraulics (x : Outline) : Outline :=
  { x with standing := { x.standing with hydraulics := Vector.replicate 8 blankHydraulics } }

/-- The outline apart from the protection record of a house. -/
def exceptHouse (h : House) (x : Outline) : Outline :=
  { x with standing := { x.standing with protection := x.standing.protection.set h blankProtection } }

/-- The outline apart from all of the protection record of a house but its alarm list and list-full flag. -/
def exceptFaults (h : House) (x : Outline) : Outline :=
  { x with standing := { x.standing with
      protection := x.standing.protection.set h
        { blankProtection with
          alarms := x.standing.protection[h].alarms, listFull := x.standing.protection[h].listFull } } }

/-- The outline apart from the note set of a station. -/
def exceptNotes (st : Station) (x : Outline) : Outline :=
  { x with standing := { x.standing with noteSets := x.standing.noteSets.set st [] } }

/-- The outline apart from what was last reported of the pumps. -/
def exceptReports (x : Outline) : Outline := { x with reports := Vector.replicate 32 (none, none) }

/-- The outline apart from the stations' records. -/
def exceptStations (x : Outline) : Outline :=
  { x with standing := { x.standing with stations := Vector.replicate 12 blankStation } }

/-- The outline apart from every block that takes contents of a REPORT. -/
def exceptContents (x : Outline) : Outline :=
  { standing := { x.standing with
      levels := Vector.replicate 12 blankLevel, hydraulics := Vector.replicate 8 blankHydraulics
      protection := Vector.replicate 8 blankProtection, noteSets := Vector.replicate 12 [] }
    reports := Vector.replicate 32 (none, none) }

/-- The outline apart from everything that a REPORT can move. -/
def exceptDelivery (x : Outline) : Outline := exceptStations (exceptContents x)

section
variable {view : Outline → Outline} {s t u : State}

theorem Keeps.refl (s : State) : Keeps view s s := ⟨rfl, List.prefix_refl _⟩

theorem Keeps.trans (a : Keeps view s t) (b : Keeps view t u) : Keeps view s u :=
  ⟨b.same.trans a.same, a.records.trans b.records⟩

/-- What a view shows, a view that shows less shows as well. -/
theorem Keeps.coarsen {less : Outline → Outline} (h : Keeps view s t) (hless : ∀ x, less (view x) = less x) :
    Keeps less s t :=
  ⟨by rw [← hless, h.same, hless], h.records⟩

theorem keeps_of_pumpFollows (hs : standing t = standing s)
    (hr : s.eventQueue.records <+: t.eventQueue.records) (hp : ∀ p : Pump, PumpFollows s.pumps[p] t.pumps[p]) :
    Keeps view s t := by
  refine ⟨congrArg view ?_, hr⟩
  have reports : (outline t).reports = (outline s).reports := by
    ext1 p hlt
    simpa [outline] using And.intro (hp ⟨p, hlt⟩).reported (hp ⟨p, hlt⟩).reportedAt
  have standing : (outline t).standing = (outline s).standing := hs
  rw [show outline t = ⟨(outline t).standing, (outline t).reports⟩ from rfl, standing, reports]

/-- The work of an event keeps the whole outline. -/
theorem Follows.keeps (h : Follows s t) : Keeps view s t := keeps_of_pumpFollows h.standing h.records h.pumps

/-- So does its end. -/
theorem finish_keeps (s : State) : Keeps view s (finish s) :=
  keeps_of_pumpFollows (finish_standing s) (finish_records s) (finish_pumps s)

theorem Keeps.follows (a : Keeps view s t) (b : Follows t u) : Keeps view s u := a.trans b.keeps

theorem Keeps.foldl {α : Type} {f : State → α → State} (hf : ∀ s x, Keeps view s (f s x)) (xs : List α)
    (s : State) : Keeps view s (xs.foldl f s) := by
  induction xs generalizing s with
  | nil => exact Keeps.refl s
  | cons x xs ih => exact (hf s x).trans (ih _)

/-- A change of a pump that leaves what was last reported of it. -/
theorem updPump_keeps (p : Pump) (f : PumpLive → PumpLive)
    (hf : ∀ r, (f r).lastReported = r.lastReported ∧ (f r).lastReportedAt = r.lastReportedAt) (s : State) :
    Keeps view s (updPump p f s) := by
  refine ⟨congrArg view ?_, List.prefix_refl _⟩
  unfold outline
  congr 1
  exact map_set_same _ _ _ _ _ (Prod.ext (hf _).1 (hf _).2)

/-! ### What a kept outline says of the state -/

/-- A part of the outline that the view shows as it is. -/
theorem Keeps.part {γ : Type} (h : Keeps view s t) (get : Outline → γ) (hview : ∀ x, get (view x) = get x) :
    get (outline t) = get (outline s) := by
  rw [← hview, h.same, hview]

/-- The delivery of a REPORT moves neither the banks nor the uptime: the plan in force stays. -/
theorem Keeps.plan (h : Keeps exceptDelivery s t) : planOf t = planOf s := by
  have banks : t.banks = s.banks := h.part (fun x => x.standing.banks) fun _ => rfl
  simp only [planOf, bankOf, banks]

theorem Keeps.uptime (h : Keeps exceptDelivery s t) : now t = now s :=
  h.part (fun x => x.standing.time.uptime) fun _ => rfl

theorem Keeps.levels (h : Keeps view s t) (hview : ∀ x, (view x).standing.levels = x.standing.levels) :
    t.levels = s.levels := h.part (fun x => x.standing.levels) hview

theorem Keeps.protection (h : Keeps view s t) (hview : ∀ x, (view x).standing.protection = x.standing.protection) :
    t.protection = s.protection := h.part (fun x => x.standing.protection) hview

theorem Keeps.noteSets (h : Keeps view s t) (hview : ∀ x, (view x).standing.noteSets = x.standing.noteSets) :
    t.noteSets = s.noteSets := h.part (fun x => x.standing.noteSets) hview

theorem Keeps.stations (h : Keeps view s t) (hview : ∀ x, (view x).standing.stations = x.standing.stations) :
    (standing t).stations = (standing s).stations := h.part (fun x => x.standing.stations) hview

/-- What was last reported of a pump. -/
theorem Keeps.reported (h : Keeps view s t) (hview : ∀ x, (view x).reports = x.reports) (p : Pump) :
    t.pumps[p].lastReported = s.pumps[p].lastReported ∧ t.pumps[p].lastReportedAt = s.pumps[p].lastReportedAt := by
  have at_p := congrArg (fun v : Vector (Option Reported × Option Nat) 32 => v[p]) (h.part Outline.reports hview)
  simpa [outline] using at_p

/-- What a REPORT cannot move stands as it was. -/
theorem Keeps.standing_eq (h : Keeps exceptDelivery s t) :
    standing t =
      { standing s with
        stations := (standing t).stations, levels := t.levels, hydraulics := t.hydraulics
        protection := t.protection, noteSets := t.noteSets } := by
  have same := congrArg Outline.standing h.same
  simp only [exceptDelivery, exceptStations, exceptContents, outline, standing, Standing.mk.injEq] at same ⊢
  tauto

end

end Sys2Proof.Machine
end

section
/-! SUPPORT. The pump entries of a REPORT (R51): reconciling them keeps the outline, and then each pump named has its
entry as its last reported state. -/

namespace Sys2Proof.Machine

section
variable {view : Outline → Outline}

theorem enterRest_keeps (p : Pump) (s : State) : Keeps view s (enterRest p s) := by
  unfold enterRest
  dsimp only
  exact (releasePermit_on p (Follows.refl s)).keeps.trans (updPump_keeps _ _ (fun _ => by constructor <;> rfl) _)

theorem settleRest_on {s t : State} (p : Pump) (h : Follows s t) : Follows s (settleRest p t) := by
  refine pumpChanged_on _ ?_
  unfold passRest
  dsimp only
  split
  · exact updPump_on _ _ (fun _ => by constructor <;> simp) (actStopped_on _ h)
  · exact actStopped_on _ h

/-- A move to REST with its event. -/
theorem restWithEvent_keeps (k : EventKind) (p : Pump) (v w : Nat) (s : State) :
    Keeps view s (settleRest p (raisePump k p v w (enterRest p s))) :=
  (enterRest_keeps p s).follows (settleRest_on _ (raisePump_on _ _ _ _ (Follows.refl _)))

theorem adoptedFields_follows (t : Nat) (r : PumpLive) : PumpFollows r (adoptedFields t r) := by
  constructor <;> simp [adoptedFields]

theorem faultFromReport_on {s t : State} (p : Pump) (c : FaultCause) (h : Follows s t) :
    Follows s (faultFromReport p c t) := pumpChanged_on _ (enterFaulted_on _ _ h)

theorem localFromReport_on {s t : State} (p : Pump) (h : Follows s t) : Follows s (localFromReport p t) :=
  pumpChanged_on _ (enterLocal_on _ h)

theorem adopt_on {s t : State} (p : Pump) (st : PumpState) (h : Follows s t) : Follows s (adopt p st t) := by
  unfold adopt
  dsimp only
  exact actStarted_on _ (raisePump_on _ _ _ _ (pumpChanged_on _ (updPump_on _ _ (adoptedFields_follows _)
    (leaveStartQueue_on _ h))))

theorem withdrawStop_on {s t : State} (p : Pump) (h : Follows s t) : Follows s (withdrawStop p t) :=
  callShedTest_on (withdrawOrder_on _ h)

theorem noteRunning_on {s t : State} (p : Pump) (st : PumpState) (h : Follows s t) : Follows s (noteRunning p st t) := by
  unfold noteRunning
  split
  · exact h
  · exact raisePump_on _ _ _ _ h

theorem resolvedRunning_reported (s : State) (p : Pump) (r : PumpLive) :
    (resolvedRunning s p r).lastReported = r.lastReported ∧
      (resolvedRunning s p r).lastReportedAt = r.lastReportedAt := by
  unfold resolvedRunning adoptedFields
  split <;> exact ⟨rfl, rfl⟩

theorem resolve_keeps (p : Pump) (rep : Reported) (s : State) : Keeps view s (resolve p rep s) := by
  have start := Follows.refl s
  unfold resolve
  cases rep with
  | run =>
    refine Keeps.follows (t := updPump p (resolvedRunning s p) (releasePermit p s)) ?_
      (actStarted_on _ (raisePump_on _ _ _ _ (pumpChanged_on _ (Follows.refl _))))
    exact (releasePermit_on _ start).keeps.trans (updPump_keeps _ _ (resolvedRunning_reported s p) _)
  | stop => exact restWithEvent_keeps _ _ _ _ _
  | trip => exact (raisePump_on _ _ _ _ (faultFromReport_on _ _ start)).keeps
  | localControl => exact (raisePump_on _ _ _ _ (localFromReport_on _ start)).keeps

theorem reportStopped_on {s t : State} (p : Pump) (rep : Reported) (h : Follows s t) :
    Follows s (reportStopped p rep t) := by
  unfold reportStopped
  cases rep with
  | run => exact adopt_on _ _ h
  | stop => exact h
  | trip => exact faultFromReport_on _ _ h
  | localControl => exact localFromReport_on _ h

theorem reportOrdered_on {s t : State} (p : Pump) (rep : Reported) (h : Follows s t) :
    Follows s (reportOrdered p rep t) := by
  unfold reportOrdered
  cases rep with
  | run => exact adopt_on _ _ (withdrawStart_on _ h)
  | stop => exact h
  | trip => exact faultFromReport_on _ _ (withdrawStart_on _ h)
  | localControl => exact localFromReport_on _ (withdrawStart_on _ h)

theorem reportStarting_on {s t : State} (p : Pump) (rep : Reported) (h : Follows s t) :
    Follows s (reportStarting p rep t) := by
  unfold reportStarting
  cases rep with
  | run => exact h
  | stop => exact faultFromReport_on _ _ h
  | trip => exact faultFromReport_on _ _ h
  | localControl => exact localFromReport_on _ h

theorem reportRunning_keeps (p : Pump) (rep : Reported) (s : State) : Keeps view s (reportRunning p rep s) := by
  unfold reportRunning
  cases rep with
  | run => exact Keeps.refl s
  | stop => exact restWithEvent_keeps _ _ _ _ _
  | trip => exact (faultFromReport_on _ _ (Follows.refl s)).keeps
  | localControl => exact (localFromReport_on _ (Follows.refl s)).keeps

theorem reportStopping_keeps (p : Pump) (rep : Reported) (s : State) : Keeps view s (reportStopping p rep s) := by
  have withdrawn := withdrawStop_on p (Follows.refl s)
  unfold reportStopping
  cases rep with
  | run => exact Keeps.refl s
  | stop => exact withdrawn.keeps.trans (restWithEvent_keeps _ _ _ _ _)
  | trip => exact (faultFromReport_on _ _ withdrawn).keeps
  | localControl => exact (localFromReport_on _ withdrawn).keeps

theorem reportLocal_keeps (p : Pump) (rep : Reported) (s : State) : Keeps view s (reportLocal p rep s) := by
  have joined := joinDuty_on p (Follows.refl s)
  unfold reportLocal
  cases rep with
  | run =>
    exact (actStarted_on _ (raisePump_on _ _ _ _ (pumpChanged_on _ (updPump_on _ _ (adoptedFields_follows _)
      joined)))).keeps
  | stop => exact joined.keeps.trans (restWithEvent_keeps _ _ _ _ _)
  | trip => exact (faultFromReport_on _ _ (Follows.refl s)).keeps
  | localControl => exact Keeps.refl s

theorem reportFaulted_on {s t : State} (p : Pump) (rep : Reported) (h : Follows s t) :
    Follows s (reportFaulted p rep t) := by
  unfold reportFaulted
  cases rep with
  | run => exact noteRunning_on _ _ h
  | stop => exact h
  | trip => exact h
  | localControl => exact raisePump_on _ _ _ _ (localFromReport_on _ h)

theorem reportIsolated_on {s t : State} (p : Pump) (rep : Reported) (h : Follows s t) :
    Follows s (reportIsolated p rep t) := by
  unfold reportIsolated
  cases rep with
  | run => exact noteRunning_on _ _ h
  | stop => exact h
  | trip => exact h
  | localControl => exact h

/-- Reconciling a report with a pump keeps the outline: what is reported is entered apart from it (R51). -/
theorem reconcile_keeps (p : Pump) (rep : Reported) (s : State) : Keeps view s (reconcile p rep s) := by
  have start := Follows.refl s
  unfold reconcile
  split
  case h_1 => exact Keeps.refl s
  case h_2 => exact (reportStopped_on _ _ start).keeps
  case h_3 => exact (reportStopped_on _ _ start).keeps
  case h_4 => exact (reportStopped_on _ _ start).keeps
  case h_5 => exact (reportOrdered_on _ _ start).keeps
  case h_6 => exact (reportStarting_on _ _ start).keeps
  case h_7 => exact reportRunning_keeps _ _ _
  case h_8 => exact reportStopping_keeps _ _ _
  case h_9 => exact resolve_keeps _ _ _
  case h_10 => exact reportLocal_keeps _ _ _
  case h_11 => exact (reportFaulted_on _ _ start).keeps
  case h_12 => exact (reportIsolated_on _ _ start).keeps

end

/-- Steps that write only at keys of their own leave what is read at another key. -/
theorem foldl_get_of_notMem {α κ γ : Type} (f : State → α → State) (key : α → κ) (get : State → κ → γ)
    (hf : ∀ s x k, key x ≠ k → get (f s x) k = get s k) {xs : List α} {k : κ} (hk : k ∉ xs.map key)
    (s : State) : get (xs.foldl f s) k = get s k := by
  induction xs generalizing s with
  | nil => rfl
  | cons x xs ih =>
    simp only [List.map_cons, List.mem_cons, not_or] at hk
    exact (ih hk.2 _).trans (hf s x k (Ne.symm hk.1))

/-- Of such steps with keys of their own each, the one at a key alone decides what is read there: it finds what was read
before them all. -/
theorem foldl_get_of_mem {α κ γ : Type} (f : State → α → State) (key : α → κ) (get : State → κ → γ)
    (hf : ∀ s x k, key x ≠ k → get (f s x) k = get s k) {xs : List α} {x : α} (hx : x ∈ xs)
    (nodup : (xs.map key).Nodup) (s : State) :
    ∃ before : List α, get (before.foldl f s) (key x) = get s (key x) ∧
      get (xs.foldl f s) (key x) = get (f (before.foldl f s) x) (key x) := by
  obtain ⟨before, after, rfl⟩ := List.append_of_mem hx
  rw [List.map_append, List.map_cons, List.nodup_append] at nodup
  obtain ⟨-, nodup_after, apart⟩ := nodup
  refine ⟨before, foldl_get_of_notMem f key get hf (fun h => apart _ h _ List.mem_cons_self rfl) s, ?_⟩
  rw [List.foldl_append, List.foldl_cons]
  exact foldl_get_of_notMem f key get hf (List.nodup_cons.mp nodup_after).1 _

theorem map_fst_zip_sublist {α β : Type} (xs : List α) (ys : List β) : ((xs.zip ys).map Prod.fst).Sublist xs := by
  induction xs generalizing ys with
  | nil => simp
  | cons x xs ih =>
    cases ys with
    | nil => simp
    | cons y ys => simpa using ih ys

/-- The pump at a pump's own position of its own house is itself (R1). -/
theorem pumpAt_positionOf : ∀ p : Pump, pumpAt (houseOf p) (positionOf p) = some p := by decide

theorem pumpsOf_nodup : ∀ h : House, (pumpsOf h).Nodup := by decide

/-- The pumps that a REPORT names, each with its entry (R51). -/
def namedPumps (s : State) (h : House) (entries : List Reported) : List (Pump × Reported) :=
  ((pumpsOf h).take (planOf s).houses[h].pumpCount).zip entries

/-- A REPORT names no pump twice. -/
theorem namedPumps_nodup (s : State) (h : House) (entries : List Reported) :
    ((namedPumps s h entries).map Prod.fst).Nodup := by
  exact ((map_fst_zip_sublist _ _).trans (List.take_sublist _ _)).nodup (pumpsOf_nodup h)

/-- A pump below the pump count is named with the entry of its position. -/
theorem mem_namedPumps {s : State} {h : House} {entries : List Reported} {p : Pump} {rep : Reported}
    (hp : houseOf p = h) (hcount : positionOf p < (planOf s).houses[h].pumpCount)
    (hrep : entries[positionOf p]? = some rep) : (p, rep) ∈ namedPumps s h entries := by
  refine List.mem_of_getElem? (i := positionOf p) (List.getElem?_zip_eq_some.mpr ⟨?_, hrep⟩)
  rw [List.getElem?_take_of_lt hcount, ← hp]
  exact pumpAt_positionOf p

theorem setReported_keeps (s : State) (x : Pump × Reported) : Keeps exceptReports s (setReported s x) :=
  ⟨rfl, List.prefix_refl _⟩

/-- What is reported of the pumps is entered when they have been reconciled, which keeps the outline (R51). -/
theorem applyPumpEntries_eq (h : House) (entries : List Reported) (s : State) :
    ∃ u, Keeps exceptReports s u ∧ applyPumpEntries h entries s = (namedPumps s h entries).foldl setReported u := by
  refine ⟨_, ?_, rfl⟩
  split
  · exact Keeps.refl s
  · exact Keeps.foldl (fun s x => reconcile_keeps _ _ s) _ s

/-- The pump entries move nothing of the outline but what was last reported. -/
theorem applyPumpEntries_keeps (h : House) (entries : List Reported) (s : State) :
    Keeps exceptReports s (applyPumpEntries h entries s) := by
  obtain ⟨u, hu, eq⟩ := applyPumpEntries_eq h entries s
  rw [eq]
  exact hu.trans (Keeps.foldl setReported_keeps _ _)

/-- Each pump that a REPORT names takes its entry as its last reported state, at the present uptime (R36, R51). -/
theorem applyPumpEntries_reported {h : House} {entries : List Reported} {s : State} {p : Pump} {rep : Reported}
    (hp : houseOf p = h) (hcount : positionOf p < (planOf s).houses[h].pumpCount)
    (hrep : entries[positionOf p]? = some rep) :
    (applyPumpEntries h entries s).pumps[p].lastReported = some rep ∧
      (applyPumpEntries h entries s).pumps[p].lastReportedAt = some (now s) := by
  obtain ⟨u, hu, reconciled⟩ := applyPumpEntries_eq h entries s
  obtain ⟨before, -, last⟩ := foldl_get_of_mem setReported Prod.fst (fun s p => s.pumps[p])
    (fun s x k hk => by rw [setReported, updPump_get, if_neg hk]) (mem_namedPumps hp hcount hrep)
    (namedPumps_nodup s h entries) u
  have uptime : now (before.foldl setReported u) = now s :=
    ((hu.trans (Keeps.foldl setReported_keeps _ _)).coarsen fun _ => rfl).uptime
  rw [reconciled, last, setReported, updPump_self, uptime]
  exact ⟨rfl, rfl⟩

end Sys2Proof.Machine
end

section
/-! SUPPORT. The tank entries of a REPORT (R18, R19, R22): each tank of the station takes its last entry, and nothing
else of the outline but conditions and positions moves. -/

namespace Sys2Proof.Machine

/-! ### Level updates -/

theorem updHydraulics_keeps (h : House) (f : Hydraulics → Hydraulics) (s : State) :
    Keeps exceptHydraulics s (updHydraulics h f s) := ⟨rfl, List.prefix_refl _⟩

theorem applyFinding_keeps (h : House) (c : Condition) (f : Finding) (s : State) :
    Keeps exceptHydraulics s (applyFinding h c f s) := by
  unfold applyFinding
  dsimp only
  have moved := updHydraulics_keeps h
    (putCondition c (moveCondition (now s) (planOf s).houses[h].levelFilter f (conditionOf s.hydraulics[h] c))) s
  split
  · exact moved.follows (raise_on _ _ _ _ _ _ (Follows.refl _))
  · split
    · exact moved.follows (raise_on _ _ _ _ _ _ (Follows.refl _))
    · exact moved

theorem deliveryUpdate_keeps (h : House) (k : Tank) (s : State) : Keeps exceptHydraulics s (deliveryUpdate h k s) := by
  unfold deliveryUpdate
  dsimp only
  exact ((applyFinding_keeps _ _ _ _).trans (applyFinding_keeps _ _ _ _)).trans (updHydraulics_keeps _ _ _)

theorem noticeIfChanged_on {s t : State} (h : House) (before : Hydraulics) (hf : Follows s t) :
    Follows s (noticeIfChanged h before t) := by
  unfold noticeIfChanged
  split
  · exact hf
  · exact notice_on _ hf

theorem updateHouseLevels_keeps (k : Tank) (s : State) (h : House) :
    Keeps exceptHydraulics s (updateHouseLevels k s h) := by
  have suction :
      Keeps exceptHydraulics s (if (planOf s).houses[h].suction == some k then suctionUpdate h k s else s) := by
    split
    · exact applyFinding_keeps _ _ _ _
    · exact Keeps.refl s
  have delivery (u : State) :
      Keeps exceptHydraulics u (if (planOf s).houses[h].delivery == k then deliveryUpdate h k u else u) := by
    split
    · exact deliveryUpdate_keeps _ _ _
    · exact Keeps.refl u
  unfold updateHouseLevels
  dsimp only
  exact (suction.trans (delivery _)).follows (noticeIfChanged_on _ _ (Follows.refl _))

/-- A level update moves conditions and positions alone (R22). -/
theorem levelUpdate_keeps (k : Tank) (s : State) : Keeps exceptHydraulics s (levelUpdate k s) :=
  Keeps.foldl (updateHouseLevels_keeps k) _ s

/-! ### Level records -/

theorem updLevel_keeps (k : Tank) (f : LevelRecord → LevelRecord) (s : State) : Keeps exceptTanks s (updLevel k f s) :=
  ⟨rfl, List.prefix_refl _⟩

/-- A tank's record after an entry of a REPORT (R18, R19). -/
def enteredLevel (pl : Plan) (uptime : Nat) (k : Tank) (e : ChannelEntry) (r : LevelRecord) : LevelRecord :=
  if e.failed then { r with quality := .failed }
  else
    { value := some (min e.level pl.tanks[k].height), quality := .fresh, lastGood := some uptime
      staleAt := some (uptime + pl.header.levelHold), clampEpisode := decide (pl.tanks[k].height < e.level) }

/-- What a REPORT's entries make of a tank's record: without an entry for the tank it stays. -/
def reportedLevel (s : State) (entries : List ChannelEntry) (k : Tank) : LevelRecord :=
  ((entryFor s entries k).map fun e => enteredLevel (planOf s) (now s) k e s.levels[k]).getD s.levels[k]

theorem reportedLevel_none {s : State} {entries : List ChannelEntry} {k : Tank} (h : entryFor s entries k = none) :
    reportedLevel s entries k = s.levels[k] := by
  rw [reportedLevel, h]
  rfl

theorem reportedLevel_some {s : State} {entries : List ChannelEntry} {k : Tank} {e : ChannelEntry}
    (h : entryFor s entries k = some e) :
    reportedLevel s entries k = enteredLevel (planOf s) (now s) k e s.levels[k] := by
  rw [reportedLevel, h]
  rfl

/-- A record that is FAILED already stays as it is (R19). -/
theorem failLevel_levels (k : Tank) (s : State) :
    (failLevel k s).levels = s.levels.set k { s.levels[k] with quality := .failed } := by
  unfold failLevel
  split
  · next hq =>
    have failed : { s.levels[k] with quality := .failed } = s.levels[k] := by
      rw [beq_iff_eq] at hq
      simp only [← hq]
    rw [failed]
    simp
  · rfl

theorem acceptLevel_levels (k : Tank) (level : Nat) (s : State) :
    (acceptLevel k level s).levels = s.levels.set k
      { value := some (min level (planOf s).tanks[k].height), quality := .fresh, lastGood := some (now s)
        staleAt := some (now s + (planOf s).header.levelHold)
        clampEpisode := decide ((planOf s).tanks[k].height < level) } := by
  unfold acceptLevel
  dsimp only
  split <;> rfl

/-- An entry writes its own tank's record alone. -/
theorem applyEntry_levels (entries : List ChannelEntry) (s : State) (k : Tank) :
    (applyEntry entries s k).levels = s.levels.set k (reportedLevel s entries k) := by
  unfold applyEntry reportedLevel
  cases entryFor s entries k with
  | none => simp
  | some e =>
    dsimp only [Option.map_some, Option.getD_some, enteredLevel]
    split
    · exact failLevel_levels k s
    · exact acceptLevel_levels k e.level s

theorem applyEntry_keeps (entries : List ChannelEntry) (s : State) (k : Tank) :
    Keeps exceptTanks s (applyEntry entries s k) := by
  unfold applyEntry
  split
  · exact Keeps.refl s
  · split
    · unfold failLevel
      split
      · exact Keeps.refl s
      · exact (updLevel_keeps _ _ s).follows (raise_on _ _ _ _ _ _ (Follows.refl _))
    · unfold acceptLevel
      dsimp only
      split
      · exact (updLevel_keeps _ _ s).follows (raise_on _ _ _ _ _ _ (Follows.refl _))
      · exact updLevel_keeps _ _ s

theorem mem_tanksOf {s : State} {st : Station} {k : Tank} :
    k ∈ tanksOf s st ↔ ((planOf s).tanks[k].inUse && (planOf s).tanks[k].station == st) = true := by
  simp [tanksOf, allTanks]

theorem tanksOf_nodup (s : State) (st : Station) : ((tanksOf s st).map id).Nodup := by
  rw [List.map_id]
  exact (List.nodup_finRange 12).filter _

/-- The tank entries move nothing of the outline but levels, conditions and positions. -/
theorem applyLevels_keeps (st : Station) (entries : List ChannelEntry) (s : State) :
    Keeps exceptTanks s (applyLevels st entries s) := by
  unfold applyLevels
  exact (Keeps.foldl (applyEntry_keeps entries) _ s).trans
    ((Keeps.foldl (fun s k => levelUpdate_keeps k s) _ _).coarsen fun _ => rfl)

/-- The tanks of the station that a REPORT has an entry for take the last one; the other levels stay (R18, R19). -/
theorem applyLevels_levels (st : Station) (entries : List ChannelEntry) (s : State) (k : Tank) :
    (applyLevels st entries s).levels[k] =
      if k ∈ tanksOf s st then reportedLevel s entries k else s.levels[k] := by
  have updates : (applyLevels st entries s).levels = ((tanksOf s st).foldl (applyEntry entries) s).levels := by
    unfold applyLevels
    exact (Keeps.foldl (fun s k => levelUpdate_keeps k s) _ _).levels fun _ => rfl
  have apart : ∀ (s : State) (x j : Tank), id x ≠ j → (applyEntry entries s x).levels[j] = s.levels[j] :=
    fun s x j hx => by
      have : x.val ≠ j.val := fun e => hx (Fin.ext e)
      simp [applyEntry_levels, this]
  rw [updates]
  split
  · next hk =>
    obtain ⟨before, first, last⟩ := foldl_get_of_mem (applyEntry entries) id (fun s k => s.levels[k]) apart hk
      (tanksOf_nodup s st) s
    simp only [id] at first last
    have kept := (Keeps.foldl (applyEntry_keeps entries) before s).coarsen (less := exceptDelivery) fun _ => rfl
    rw [last, applyEntry_levels]
    simp only [reportedLevel, entryFor, kept.plan, kept.uptime, first, Fin.getElem_fin, Vector.getElem_set_self]
  · next hk =>
    exact foldl_get_of_notMem (applyEntry entries) id (fun s k => s.levels[k]) apart (by simpa using hk) s

end Sys2Proof.Machine
end

section
/-! SUPPORT. The alarm items of a REPORT: the note set of a station that serves no house (R133), and the alarm list of a
house (R128, R129) with the activations that leave it as it stands (R131). -/

namespace Sys2Proof.Machine

/-! ### The codes of a REPORT -/

theorem noteCodes_append (s : State) (items : List AlarmItem) (i : AlarmItem) :
    noteCodes s (items ++ [i]) =
      if actionOf s i.code = .none ∨ i.code ∈ noteCodes s items then noteCodes s items
      else noteCodes s items ++ [i.code] := by
  simp [noteCodes, List.foldl_append]

/-- The codes are those the items carry, but for the codes with no action (R128, R133). -/
theorem mem_noteCodes (s : State) (items : List AlarmItem) (c : Code) :
    c ∈ noteCodes s items ↔ actionOf s c ≠ .none ∧ ∃ i ∈ items, i.code = c := by
  induction items using List.reverseRecOn with
  | nil => simp [noteCodes]
  | append_singleton items i ih =>
    rw [noteCodes_append]
    split <;> grind

theorem actionOf_of_plan {s t : State} (h : planOf t = planOf s) (c : Code) : actionOf t c = actionOf s c := by
  rw [actionOf, actionOf, h]

/-- The codes depend on the plan in force alone. -/
theorem noteCodes_of_plan {s t : State} (h : planOf t = planOf s) (items : List AlarmItem) :
    noteCodes t items = noteCodes s items := by
  simp only [noteCodes, actionOf_of_plan h]

/-! ### The note set -/

/-- The events of the new codes come first, and then the set is written (R133). -/
theorem noteItems_eq (st : Station) (items : List AlarmItem) (s : State) :
    ∃ u, Follows s u ∧ noteItems st items s = { u with noteSets := u.noteSets.set st (noteCodes s items) } :=
  ⟨_, foldl_on _ (fun _ hf => raisePart_on _ _ _ hf) _ (Follows.refl s), rfl⟩

theorem noteItems_keeps (st : Station) (items : List AlarmItem) (s : State) :
    Keeps (exceptNotes st) s (noteItems st items s) := by
  obtain ⟨u, raised, eq⟩ := noteItems_eq st items s
  rw [eq]
  refine raised.keeps.trans ⟨?_, List.prefix_refl _⟩
  simp [outline, standing, exceptNotes]

/-- The note set becomes the codes of the REPORT (R133). -/
theorem noteItems_noteSets (st : Station) (items : List AlarmItem) (s : State) :
    (noteItems st items s).noteSets = s.noteSets.set st (noteCodes s items) := by
  obtain ⟨u, raised, eq⟩ := noteItems_eq st items s
  have noteSets : u.noteSets = s.noteSets := congrArg Standing.noteSets raised.standing
  rw [eq, ← noteSets]

/-! ### Protection records -/

theorem updProtection_keeps (h : House) (f : Protection → Protection) (s : State) :
    Keeps (exceptHouse h) s (updProtection h f s) := by
  refine ⟨?_, List.prefix_refl _⟩
  simp [outline, standing, exceptHouse, updProtection]

/-- A change of a house's record that leaves its alarm list. -/
theorem updProtection_keeps_list (h : House) (f : Protection → Protection) (s : State)
    (hf : (f s.protection[h]).alarms = s.protection[h].alarms ∧
      (f s.protection[h]).listFull = s.protection[h].listFull) :
    Keeps (exceptFaults h) s (updProtection h f s) := by
  refine ⟨?_, List.prefix_refl _⟩
  obtain ⟨alarms, full⟩ := hf
  simp only [Fin.getElem_fin] at alarms full
  simp [outline, standing, exceptFaults, updProtection, alarms, full]

theorem exceptHouse_exceptFaults (h : House) (x : Outline) : exceptHouse h (exceptFaults h x) = exceptHouse h x := by
  simp [exceptHouse, exceptFaults]

/-- The alarm list and its flag, where the view shows them. -/
theorem Keeps.list {s t : State} {h : House} (k : Keeps (exceptFaults h) s t) :
    t.protection[h].alarms = s.protection[h].alarms ∧ t.protection[h].listFull = s.protection[h].listFull := by
  have same := congrArg (fun x => x.standing.protection[h]) k.same
  simpa [exceptFaults, outline, standing] using same

/-- The protection record of another house. -/
theorem Keeps.others {s t : State} {h : House} (k : Keeps (exceptHouse h) s t) {g : House} (hg : g ≠ h) :
    t.protection[g] = s.protection[g] := by
  have same := congrArg (fun x => x.standing.protection[g]) k.same
  have apart : h.val ≠ g.val := fun e => hg (Fin.ext e.symm)
  simpa [exceptHouse, outline, standing, apart] using same

/-- The work of other blocks leaves the protection records. -/
theorem Follows.protection {s t : State} (h : Follows s t) : t.protection = s.protection :=
  congrArg Standing.protection h.standing

/-! ### Activations -/

theorem recordFault_list (uptime : Nat) (e : AlarmEntry) (r : Protection) :
    (recordFault uptime e r).alarms = r.alarms ∧ (recordFault uptime e r).listFull = r.listFull := by
  unfold recordFault
  split
  · exact ⟨rfl, rfl⟩
  · split <;> exact ⟨rfl, rfl⟩

theorem tripActivated_on {s t : State} (p : Pump) (c : Code) (h : Follows s t) : Follows s (tripActivated p c t) := by
  have pend : Follows s (updPump p (fun r => { r with faultPending := some (.tripAlarm c) }) t) :=
    updPump_on _ _ (fun _ => by constructor <;> simp) h
  have protects : Follows s (updPump p (fun r => { r with protectPending := true })
      (updPump p (fun r => { r with faultPending := some (.tripAlarm c) }) t)) :=
    updPump_on _ _ (fun _ => by constructor <;> simp) pend
  unfold tripActivated
  dsimp only
  split
  case h_1 => exact faultFromReport_on _ _ h
  case h_2 => exact faultFromReport_on _ _ h
  case h_3 => exact faultFromReport_on _ _ h
  case h_4 => exact faultFromReport_on _ _ h
  case h_5 =>
    split
    · exact protects
    · exact faultFromReport_on _ _ (withdrawStart_on _ h)
  case h_6 => exact issueStop_on _ _ pend
  case h_7 => exact issueStop_on _ _ pend
  case h_8 => exact pend
  case h_9 => exact protects
  case h_10 => exact h
  case h_11 => exact h
  case h_12 => exact h

theorem tripEffect_on {s t : State} (e : AlarmEntry) (h : Follows s t) : Follows s (tripEffect t e) := by
  unfold tripEffect
  split
  case h_1 => exact tripActivated_on _ _ h
  all_goals exact h

theorem activate_keeps (h : House) (s : State) (e : AlarmEntry) : Keeps (exceptFaults h) s (activate h s e) := by
  unfold activate
  dsimp only
  refine Keeps.follows ?_ (tripEffect_on _ (Follows.refl _))
  refine Keeps.trans (raise_on .alarmActive (some h) e.pump none e.code.val
    (alarmActionCode s.protection[h].suppression (actionOf s e.code)) (Follows.refl s)).keeps ?_
  split
  · exact updProtection_keeps_list _ _ _ (recordFault_list _ _ _)
  · exact Keeps.refl _

theorem lockoutActivated_keeps (h : House) (s : State) (e : AlarmEntry) :
    Keeps (exceptFaults h) s (lockoutActivated h s e) := by
  unfold lockoutActivated
  split
  · unfold enterRecovery beginPeriod
    dsimp only
    refine Keeps.follows (updProtection_keeps_list h _ s ?_)
      (notice_on _ (dropHouseQueue_on _ (raiseHouse_on _ _ _ _ (Follows.refl _))))
    exact ⟨rfl, rfl⟩
  · exact Keeps.refl s

/-- Activations leave the alarm list (R131). -/
theorem activateAll_keeps (h : House) (es : List AlarmEntry) (s : State) :
    Keeps (exceptFaults h) s (activateAll h es s) :=
  (Keeps.foldl (activate_keeps h) _ _).trans (Keeps.foldl (lockoutActivated_keeps h) _ _)

theorem listChanged_on {s t : State} (h : House) (was : Bool) (hf : Follows s t) : Follows s (listChanged h was t) := by
  unfold listChanged
  split
  · exact notice_on _ (dropHouseQueue_on _ hf)
  · exact notice_on _ hf

/-! ### Items taken into the list -/

theorem takeItem_keeps (h : House) (s : State) (i : AlarmItem) : Keeps (exceptHouse h) s (takeItem h s i) := by
  unfold takeItem dropItem
  split
  · exact Keeps.refl s
  · split
    · exact Keeps.refl s
    · split
      · exact updProtection_keeps _ _ _
      · split
        · exact Keeps.refl s
        · exact (updProtection_keeps _ _ _).follows (raiseHouse_on _ _ _ _ (Follows.refl _))

theorem updProtection_self (h : House) (f : Protection → Protection) (s : State) :
    (updProtection h f s).protection[h] = f s.protection[h] := by
  simp [updProtection]

/-- A code is in the alarm list of a house. -/
def InList (s : State) (h : House) (c : Code) : Prop := ∃ e ∈ s.protection[h].alarms, e.code = c

theorem inList_iff {s : State} {h : House} {c : Code} :
    (s.protection[h].alarms.any fun e => e.code == c) = true ↔ InList s h c := by
  simp [InList]

/-- An item with no action, or with a code that is in the list, changes nothing (R128). -/
theorem takeItem_idle {h : House} {s : State} {i : AlarmItem} (hi : actionOf s i.code = .none ∨ InList s h i.code) :
    takeItem h s i = s := by
  unfold takeItem
  rcases hi with action | listed
  · rw [if_pos (by simpa using action)]
  · rw [if_pos (inList_iff.mpr listed), ite_self]

/-- An item with a new code goes to the back of the list while there is room (R128). -/
theorem takeItem_room {h : House} {s : State} {i : AlarmItem} (action : actionOf s i.code ≠ .none)
    (new : ¬InList s h i.code) (room : s.protection[h].alarms.length < 8) :
    (takeItem h s i).protection[h] =
      { s.protection[h] with alarms := s.protection[h].alarms ++ [newEntry s h i] } := by
  unfold takeItem
  rw [if_neg (by simpa using action), if_neg (inList_iff.not.mpr new), if_pos room, updProtection_self]

theorem dropItem_self (h : House) (i : AlarmItem) (s : State) :
    (dropItem h i s).protection[h] = { s.protection[h] with listFull := true } := by
  unfold dropItem
  split
  · next already => simp only [← already]
  · exact updProtection_self h (fun r => { r with listFull := true }) s

/-- An item with a new code that finds the list full sets the list-full flag (R128). -/
theorem takeItem_full {h : House} {s : State} {i : AlarmItem} (action : actionOf s i.code ≠ .none)
    (new : ¬InList s h i.code) (full : 8 ≤ s.protection[h].alarms.length) :
    (takeItem h s i).protection[h] = { s.protection[h] with listFull := true } := by
  unfold takeItem
  rw [if_neg (by simpa using action), if_neg (inList_iff.not.mpr new), if_neg (Nat.not_lt.mpr full), dropItem_self]

/-! ### All the items of a REPORT -/

/-- The codes of a REPORT that were not in the list of a house, in the order in which they come. -/
def freshCodes (s : State) (h : House) (items : List AlarmItem) : List Code :=
  (noteCodes s items).filter fun c => !s.protection[h].alarms.any fun e => e.code == c

/-- The fresh codes for which the list has room. -/
def roomedCodes (s : State) (h : House) (items : List AlarmItem) : List Code :=
  (freshCodes s h items).take (8 - s.protection[h].alarms.length)

/-- The entry that an item makes under a code (R128). -/
def alarmEntryOf (s : State) (h : House) (c : Code) (i : AlarmItem) : AlarmEntry :=
  { code := c, pump := itemPump s h i, firstSeen := now s
    activeAt := if (planOf s).alarmMap[c].filter = 0 then none else some (now s + (planOf s).alarmMap[c].filter) }

/-- The entry of the first item with a code. -/
def firstEntry (s : State) (h : House) (items : List AlarmItem) (c : Code) : Option AlarmEntry :=
  (items.find? fun i => i.code == c).map (alarmEntryOf s h c)

/-- The entries that a REPORT adds to the list of a house (R128). -/
def enteredAlarms (s : State) (h : House) (items : List AlarmItem) : List AlarmEntry :=
  (roomedCodes s h items).filterMap (firstEntry s h items)

theorem mem_freshCodes {s : State} {h : House} {items : List AlarmItem} {c : Code} :
    c ∈ freshCodes s h items ↔ c ∈ noteCodes s items ∧ ¬InList s h c := by
  rw [freshCodes, List.mem_filter, ← inList_iff]
  simp

/-- An item with no action, or with a code that is in the list or has come already, adds no fresh code. -/
theorem freshCodes_append_old {s : State} {h : House} {items : List AlarmItem} {i : AlarmItem}
    (hi : actionOf s i.code = .none ∨ InList s h i.code ∨ i.code ∈ freshCodes s h items) :
    freshCodes s h (items ++ [i]) = freshCodes s h items := by
  rw [mem_freshCodes, ← inList_iff] at hi
  unfold freshCodes
  rw [noteCodes_append]
  split
  · rfl
  · rw [List.filter_append]
    grind

theorem freshCodes_append_new {s : State} {h : House} {items : List AlarmItem} {i : AlarmItem}
    (action : actionOf s i.code ≠ .none) (unlisted : ¬InList s h i.code) (new : i.code ∉ freshCodes s h items) :
    freshCodes s h (items ++ [i]) = freshCodes s h items ++ [i.code] := by
  rw [mem_freshCodes] at new
  rw [← inList_iff] at unlisted new
  unfold freshCodes
  rw [noteCodes_append, if_neg (by tauto), List.filter_append]
  simp_all

theorem find?_isSome_of_noteCodes {s : State} {items : List AlarmItem} {c : Code} (hc : c ∈ noteCodes s items) :
    (items.find? fun i => i.code == c).isSome = true := by
  obtain ⟨-, j, hj, code⟩ := (mem_noteCodes s items c).mp hc
  exact List.find?_isSome.mpr ⟨j, hj, by simp [code]⟩

/-- A code that has come already keeps its first item. -/
theorem firstEntry_append {s : State} {h : House} {items : List AlarmItem} {c : Code} (hc : c ∈ noteCodes s items)
    (i : AlarmItem) : firstEntry s h (items ++ [i]) c = firstEntry s h items c := by
  rw [firstEntry, firstEntry, List.find?_append, Option.or_of_isSome (find?_isSome_of_noteCodes hc)]

/-- The entry of a code that the items carry stands under that code. -/
theorem firstEntry_code {s : State} {h : House} {items : List AlarmItem} {c : Code} (hc : c ∈ noteCodes s items) :
    ∃ e, firstEntry s h items c = some e ∧ e.code = c := by
  obtain ⟨i, hi⟩ := Option.isSome_iff_exists.mp (find?_isSome_of_noteCodes hc)
  exact ⟨alarmEntryOf s h c i, by rw [firstEntry, hi]; rfl, rfl⟩

theorem mem_noteCodes_of_roomed {s : State} {h : House} {items : List AlarmItem} {c : Code}
    (hc : c ∈ roomedCodes s h items) : c ∈ noteCodes s items :=
  (mem_freshCodes.mp (List.mem_of_mem_take hc)).1

/-- Each fresh code with room makes one entry, under that code. -/
theorem enteredAlarms_codes (s : State) (h : House) (items : List AlarmItem) :
    (enteredAlarms s h items).map (fun e => e.code) = roomedCodes s h items := by
  have each : ∀ codes : List Code, (∀ c ∈ codes, c ∈ noteCodes s items) →
      (codes.filterMap (firstEntry s h items)).map (fun e => e.code) = codes := by
    intro codes hcodes
    induction codes with
    | nil => rfl
    | cons c codes ih =>
      obtain ⟨e, he, code⟩ := firstEntry_code (h := h) (hcodes c List.mem_cons_self)
      rw [List.filterMap_cons_some he, List.map_cons, code, ih fun d hd => hcodes d (List.mem_cons_of_mem _ hd)]
  exact each _ fun c hc => mem_noteCodes_of_roomed hc

theorem enteredAlarms_length (s : State) (h : House) (items : List AlarmItem) :
    (enteredAlarms s h items).length = min (8 - s.protection[h].alarms.length) (freshCodes s h items).length := by
  rw [← List.length_map (fun e : AlarmEntry => e.code), enteredAlarms_codes, roomedCodes, List.length_take]

/-- The entries stay while the fresh codes with room stay. -/
theorem enteredAlarms_append_same {s : State} {h : House} {items : List AlarmItem} {i : AlarmItem}
    (same : roomedCodes s h (items ++ [i]) = roomedCodes s h items) :
    enteredAlarms s h (items ++ [i]) = enteredAlarms s h items := by
  rw [enteredAlarms, same]
  exact List.filterMap_congr fun c hc => firstEntry_append (mem_noteCodes_of_roomed hc) i

/-- What the items of a REPORT make of a house's list and its flag (R128). -/
structure ItemsTaken (s : State) (h : House) (items : List AlarmItem) (u : State) : Prop where
  keeps : Keeps (exceptHouse h) s u
  alarms : u.protection[h].alarms = s.protection[h].alarms ++ enteredAlarms s h items
  listFull : u.protection[h].listFull = true ↔ s.protection[h].listFull = true ∨
    freshCodes s h items ≠ [] ∧ 8 < s.protection[h].alarms.length + (freshCodes s h items).length

section
variable {s u : State} {h : House} {items : List AlarmItem} {i : AlarmItem}

theorem ItemsTaken.length (taken : ItemsTaken s h items u) :
    u.protection[h].alarms.length =
      s.protection[h].alarms.length + min (8 - s.protection[h].alarms.length) (freshCodes s h items).length := by
  rw [taken.alarms, List.length_append, enteredAlarms_length]

/-- A code is in the list when it was, or when it is fresh and has room. -/
theorem ItemsTaken.inList_iff (taken : ItemsTaken s h items u) (c : Code) :
    InList u h c ↔ InList s h c ∨ c ∈ roomedCodes s h items := by
  rw [← enteredAlarms_codes, InList, taken.alarms]
  simp only [List.mem_append, List.mem_map, or_and_right, exists_or, InList]

theorem ItemsTaken.plan (taken : ItemsTaken s h items u) : planOf u = planOf s :=
  (taken.keeps.coarsen (less := exceptDelivery) fun _ => rfl).plan

theorem ItemsTaken.uptime (taken : ItemsTaken s h items u) : now u = now s :=
  (taken.keeps.coarsen (less := exceptDelivery) fun _ => rfl).uptime

/-- An item that adds no fresh code leaves the list, and the flag says already that a code found no room. -/
theorem ItemsTaken.old (taken : ItemsTaken s h items u)
    (hi : actionOf s i.code = .none ∨ InList s h i.code ∨ i.code ∈ freshCodes s h items) :
    ItemsTaken s h (items ++ [i]) (takeItem h u i) := by
  have fresh := freshCodes_append_old hi
  have entered : enteredAlarms s h (items ++ [i]) = enteredAlarms s h items :=
    enteredAlarms_append_same (by rw [roomedCodes, fresh, roomedCodes])
  have keeps := taken.keeps.trans (takeItem_keeps h u i)
  by_cases idle : actionOf u i.code = .none ∨ InList u h i.code
  · refine ⟨keeps, ?_, ?_⟩
    · rw [takeItem_idle idle, entered, taken.alarms]
    · rw [takeItem_idle idle, fresh, taken.listFull]
  · obtain ⟨action, unlisted⟩ := not_or.mp idle
    rw [taken.inList_iff, not_or] at unlisted
    rw [actionOf_of_plan taken.plan] at action
    have come : i.code ∈ freshCodes s h items := by tauto
    have crowded : 8 - s.protection[h].alarms.length < (freshCodes s h items).length := by
      by_contra roomy
      exact unlisted.2 (by rwa [roomedCodes, List.take_of_length_le (Nat.not_lt.mp roomy)])
    have full : 8 ≤ u.protection[h].alarms.length := by rw [taken.length]; omega
    have last := takeItem_full (not_or.mp idle).1 (not_or.mp idle).2 full
    refine ⟨keeps, ?_, ?_⟩
    · rw [last, entered]
      exact taken.alarms
    · rw [last, fresh]
      exact iff_of_true rfl (.inr ⟨List.ne_nil_of_mem come, by omega⟩)

/-- A fresh code enters the list, or finds it full. -/
theorem ItemsTaken.new (taken : ItemsTaken s h items u) (action : actionOf s i.code ≠ .none)
    (unlisted : ¬InList s h i.code) (new : i.code ∉ freshCodes s h items) :
    ItemsTaken s h (items ++ [i]) (takeItem h u i) := by
  have fresh := freshCodes_append_new action unlisted new
  have keeps := taken.keeps.trans (takeItem_keeps h u i)
  have action' : actionOf u i.code ≠ .none := by rwa [actionOf_of_plan taken.plan]
  have unlisted' : ¬InList u h i.code := by
    rw [taken.inList_iff]
    exact not_or.mpr ⟨unlisted, fun roomed => new (List.mem_of_mem_take roomed)⟩
  have length := taken.length
  rcases Nat.lt_or_ge u.protection[h].alarms.length 8 with room | full
  · have last := takeItem_room action' unlisted' room
    have roomed : roomedCodes s h (items ++ [i]) = roomedCodes s h items ++ [i.code] := by
      have fits : (freshCodes s h items ++ [i.code]).length ≤ 8 - s.protection[h].alarms.length := by
        rw [List.length_append, List.length_singleton]
        omega
      rw [roomedCodes, roomedCodes, fresh, List.take_of_length_le fits, List.take_of_length_le (by omega)]
    have first : firstEntry s h (items ++ [i]) i.code = some (newEntry u h i) := by
      have none_before : items.find? (fun j => j.code == i.code) = none := by
        rw [List.find?_eq_none]
        intro j hj code
        exact new (mem_freshCodes.mpr ⟨(mem_noteCodes _ _ _).mpr ⟨action, j, hj, by simpa using code⟩, unlisted⟩)
      have plan := taken.plan
      have uptime := taken.uptime
      simp [firstEntry, none_before, alarmEntryOf, newEntry, itemPump, plan, uptime]
    have entered : enteredAlarms s h (items ++ [i]) = enteredAlarms s h items ++ [newEntry u h i] := by
      rw [enteredAlarms, roomed, List.filterMap_append, List.filterMap_cons_some first, enteredAlarms]
      congr 1
      exact List.filterMap_congr fun c hc => firstEntry_append (mem_noteCodes_of_roomed hc) i
    refine ⟨keeps, ?_, ?_⟩
    · rw [last, entered, ← List.append_assoc, ← taken.alarms]
    · rw [last, fresh]
      rw [taken.listFull, List.length_append, List.length_singleton]
      exact or_congr_right (iff_of_false (by omega) (by omega))
  · have last := takeItem_full action' unlisted' full
    have roomed : roomedCodes s h (items ++ [i]) = roomedCodes s h items := by
      rw [roomedCodes, roomedCodes, fresh, List.take_append_of_le_length (by omega)]
    refine ⟨keeps, ?_, ?_⟩
    · rw [last, enteredAlarms_append_same roomed]
      exact taken.alarms
    · rw [last, fresh]
      refine iff_of_true rfl (.inr ⟨by simp, ?_⟩)
      rw [List.length_append, List.length_singleton]
      omega

end

/-- The items of a REPORT taken one after another (R128). -/
theorem takeItems_taken (s : State) (h : House) (items : List AlarmItem) :
    ItemsTaken s h items (items.foldl (takeItem h) s) := by
  induction items using List.reverseRecOn with
  | nil =>
    have fresh : freshCodes s h [] = [] := rfl
    exact ⟨Keeps.refl s, by simp [enteredAlarms, roomedCodes, fresh], by simp [fresh]⟩
  | append_singleton items i ih =>
    rw [List.foldl_append, List.foldl_cons, List.foldl_nil]
    by_cases hi : actionOf s i.code = .none ∨ InList s h i.code ∨ i.code ∈ freshCodes s h items
    · exact ih.old hi
    · obtain ⟨action, unlisted, new⟩ := by simpa only [not_or] using hi
      exact ih.new action unlisted new

/-! ### The list after a REPORT -/

/-- The entries of a house's list whose codes a REPORT carries (R129). -/
def keptAlarms (s : State) (h : House) (items : List AlarmItem) : List AlarmEntry :=
  s.protection[h].alarms.filter fun e => items.any fun i => i.code == e.code

/-- An entry that a REPORT adds has a code that it carries. -/
theorem enteredAlarms_carried (s : State) (h : House) (items : List AlarmItem) :
    (enteredAlarms s h items).filter (fun e => items.any fun i => i.code == e.code) = enteredAlarms s h items := by
  rw [List.filter_eq_self]
  intro e he
  have roomed : e.code ∈ roomedCodes s h items := by
    rw [← enteredAlarms_codes]
    exact List.mem_map_of_mem he
  obtain ⟨-, i, hi, code⟩ := (mem_noteCodes s items e.code).mp (mem_noteCodes_of_roomed roomed)
  exact List.any_eq_true.mpr ⟨i, hi, by simp [code]⟩

/-- The kept, the fresh and the entered ones depend on the plan, the uptime and the lists as they stand. -/
theorem alarms_congr {s t : State} (hplan : planOf t = planOf s) (huptime : now t = now s)
    (hprotection : t.protection = s.protection) (h : House) (items : List AlarmItem) :
    keptAlarms t h items = keptAlarms s h items ∧ freshCodes t h items = freshCodes s h items ∧
      enteredAlarms t h items = enteredAlarms s h items := by
  have fresh : freshCodes t h items = freshCodes s h items := by
    simp only [freshCodes, noteCodes_of_plan hplan, hprotection]
  have first : firstEntry t h items = firstEntry s h items := by
    funext c
    have entry : alarmEntryOf t h c = alarmEntryOf s h c := by
      funext i
      simp only [alarmEntryOf, itemPump, hplan, huptime]
    rw [firstEntry, firstEntry, entry]
  refine ⟨by simp only [keptAlarms, hprotection], fresh, ?_⟩
  rw [enteredAlarms, enteredAlarms, roomedCodes, roomedCodes, fresh, first, hprotection]

/-- The items of a REPORT end with the removal of the entries it does not carry; what follows leaves the list (R129,
R131). -/
theorem applyItems_eq (h : House) (items : List AlarmItem) (s : State) :
    ∃ acted, Keeps (exceptFaults h) (items.foldl (takeItem h) s) acted ∧
      Follows (updProtection h (dropAbsent items) acted) (applyItems h items s) := by
  unfold applyItems
  dsimp only
  split
  · exact ⟨_, activateAll_keeps h _ _, listChanged_on _ _ (Follows.refl _)⟩
  · exact ⟨_, activateAll_keeps h _ _, Follows.refl _⟩

theorem applyItems_keeps (h : House) (items : List AlarmItem) (s : State) :
    Keeps (exceptHouse h) s (applyItems h items s) := by
  obtain ⟨acted, kept, done⟩ := applyItems_eq h items s
  exact (((takeItems_taken s h items).keeps.trans (kept.coarsen (exceptHouse_exceptFaults h))).trans
    (updProtection_keeps h _ _)).follows done

/-- After a REPORT the list holds the entries it carries and behind them the fresh ones, and the list-full flag stands if
a code found no room and the list is still full (R128, R129). -/
theorem applyItems_list (h : House) (items : List AlarmItem) (s : State) :
    (applyItems h items s).protection[h].alarms = keptAlarms s h items ++ enteredAlarms s h items ∧
      ((applyItems h items s).protection[h].listFull = true ↔
        (s.protection[h].listFull = true ∨
          freshCodes s h items ≠ [] ∧ 8 < s.protection[h].alarms.length + (freshCodes s h items).length) ∧
        8 ≤ (keptAlarms s h items).length + (enteredAlarms s h items).length) := by
  obtain ⟨acted, kept, done⟩ := applyItems_eq h items s
  have taken := takeItems_taken s h items
  obtain ⟨alarms, listFull⟩ := kept.list
  have left : acted.protection[h].alarms.filter (fun e => items.any fun i => i.code == e.code) =
      keptAlarms s h items ++ enteredAlarms s h items := by
    rw [alarms, taken.alarms, List.filter_append, enteredAlarms_carried]
    rfl
  have record : (applyItems h items s).protection[h] = dropAbsent items acted.protection[h] := by
    rw [← updProtection_self h (dropAbsent items) acted]
    exact congrArg (fun v : Vector Protection 8 => v[h]) done.protection
  rw [record]
  refine ⟨left, ?_⟩
  unfold dropAbsent
  dsimp only
  rw [left, Bool.and_eq_true, listFull, taken.listFull, decide_eq_true_iff, List.length_append]

/-! ### The interlock -/

/-- The interlock flag becomes that of the REPORT (R141). -/
theorem applyInterlock_protection (h : House) (flag : Bool) (s : State) :
    (applyInterlock h flag s).protection = s.protection.set h { s.protection[h] with interlock := flag } := by
  have unchanged (already : s.protection[h].interlock = flag) :
      s.protection = s.protection.set h { s.protection[h] with interlock := flag } := by
    have : { s.protection[h] with interlock := flag } = s.protection[h] := by simp only [← already]
    rw [this]
    simp
  cases flag with
  | true =>
    unfold applyInterlock interlockOn
    rw [if_pos rfl]
    split
    · next already => exact unchanged already
    · exact (notice_on h (dropHouseQueue_on h (raiseHouse_on .interlockOn h 0 _ (Follows.refl _)))).protection
  | false =>
    unfold applyInterlock interlockOff
    rw [if_neg Bool.false_ne_true]
    split
    · exact (notice_on h (raiseHouse_on .interlockOff h 0 _ (Follows.refl _))).protection
    · next already => exact unchanged (by simpa using already)

theorem applyInterlock_keeps (h : House) (flag : Bool) (s : State) :
    Keeps (exceptHouse h) s (applyInterlock h flag s) := by
  unfold applyInterlock interlockOn interlockOff
  split
  · split
    · exact Keeps.refl s
    · exact (updProtection_keeps _ _ s).follows
        (notice_on h (dropHouseQueue_on h (raiseHouse_on .interlockOn h 0 _ (Follows.refl _))))
  · split
    · exact (updProtection_keeps _ _ s).follows (notice_on h (raiseHouse_on .interlockOff h 0 _ (Follows.refl _)))
    · exact Keeps.refl s

end Sys2Proof.Machine
end

section
/-! SUPPORT. A good REPORT delivered and its event taken to its end (R151): one lemma for each part of the state that it
moves, and the statement that puts them together. -/

namespace Sys2Proof.Machine

/-! ### Supervision -/

/-- A station's record after a good reply (R161). -/
def heardStation (uptime : Nat) (r : StationLive) : StationLive :=
  { r with state := .online, silence := 0, lastGood := some uptime, good := satSucc 65535 r.good }

theorem noticeServed_on {s t : State} (st : Station) (h : Follows s t) : Follows s (noticeServed st t) := by
  unfold noticeServed
  split
  · exact h
  · exact notice_on _ h

/-- Supervision writes the station's record; the rest is what an event hands on (R161). -/
theorem goodReply_follows (st : Station) (s : State) :
    Follows (updStation st (heardStation (now s)) s) (goodReply st s) := by
  unfold goodReply
  dsimp only
  split
  · exact Follows.refl _
  · exact noticeServed_on _ (raise_on _ _ _ _ _ _ (Follows.refl _))

theorem updStation_keeps (st : Station) (f : StationLive → StationLive) (s : State) :
    Keeps exceptStations s (updStation st f s) := ⟨rfl, List.prefix_refl _⟩

theorem standing_updStation_stations (st : Station) (f : StationLive → StationLive) (s : State) :
    (standing (updStation st f s)).stations = (standing s).stations.set st (untagged (f s.bus.stations[st])) := by
  simp [standing, updStation]

theorem goodReply_keeps (st : Station) (s : State) : Keeps exceptStations s (goodReply st s) :=
  (updStation_keeps _ _ _).follows (goodReply_follows st s)

theorem leaveAwaited_on {s t : State} (st : Station) (answering : Bool) (h : Follows s t) :
    Follows s (leaveAwaited st answering t) := by
  unfold leaveAwaited
  split
  · exact h.of_parts rfl rfl rfl rfl
  · exact h

/-! ### The stages of a delivery -/

/-- A REPORT taken by supervision and the Level Tracker (R151 steps 1 and 2). -/
def levelled (st : Station) (r : Report) (s : State) : State := applyLevels st r.channels (goodReply st s)

theorem levelled_keeps (st : Station) (r : Report) (s : State) : Keeps exceptDelivery s (levelled st r s) :=
  ((goodReply_keeps st s).coarsen fun _ => rfl).trans ((applyLevels_keeps st r.channels _).coarsen fun _ => rfl)

theorem applyReportHouse_none {st : Station} {r : Report} {s : State} (h : (planOf s).servedHouse st = none) :
    applyReportHouse st r s = noteItems st r.alarms s := by
  simp [applyReportHouse, h]

theorem applyReportHouse_some {st : Station} {r : Report} {s : State} {h : House}
    (hh : (planOf s).servedHouse st = some h) :
    applyReportHouse st r s =
      applyInterlock h r.interlock (applyItems h r.alarms (applyPumpEntries h r.pumps s)) := by
  simp [applyReportHouse, hh]

/-- The outline apart from protection records, note sets and what was last reported. -/
def exceptAlarms (x : Outline) : Outline :=
  { standing := { x.standing with
      protection := Vector.replicate 8 blankProtection, noteSets := Vector.replicate 12 [] }
    reports := Vector.replicate 32 (none, none) }

theorem applyReportHouse_keeps (st : Station) (r : Report) (s : State) :
    Keeps exceptAlarms s (applyReportHouse st r s) := by
  cases hh : (planOf s).servedHouse st with
  | none =>
    rw [applyReportHouse_none hh]
    exact (noteItems_keeps st r.alarms s).coarsen fun _ => rfl
  | some h =>
    rw [applyReportHouse_some hh]
    exact (((applyPumpEntries_keeps h r.pumps s).coarsen fun _ => rfl).trans
      ((applyItems_keeps h r.alarms _).coarsen fun _ => rfl)).trans
      ((applyInterlock_keeps h r.interlock _).coarsen fun _ => rfl)

/-- A REPORT with its contents taken by every block (R151 steps 1 to 3). -/
def contentsTaken (st : Station) (r : Report) (s : State) : State := applyReportHouse st r (levelled st r s)

/-- The event of a good REPORT, up to its end. -/
def afterReport (st : Station) (r : Report) (s : State) : State := finish (deliverReport st r s)

/-- Behind the contents come the survey and the poll-due (R81, R151, R156). -/
theorem deliverReport_eq (st : Station) (r : Report) (s : State) :
    deliverReport st r s = setPollDue (.station st) (leaveAwaited st true (contentsTaken st r s)) := rfl

theorem setPollDue_station (st : Station) (s : State) :
    setPollDue (.station st) s =
      updStation st (fun k => { k with pollDue := some (now s + (planOf s).stations[st].pollInterval) }) s := rfl

theorem afterReport_keeps (st : Station) (r : Report) (s : State) :
    Keeps exceptStations (contentsTaken st r s) (afterReport st r s) := by
  have delivered : Keeps exceptStations (contentsTaken st r s) (deliverReport st r s) := by
    rw [deliverReport_eq, setPollDue_station]
    exact (leaveAwaited_on st true (Follows.refl _)).keeps.trans (updStation_keeps st _ _)
  exact delivered.trans (finish_keeps _)

section
variable (st : Station) (r : Report) (s : State)

theorem afterReport_outline : Keeps exceptDelivery s (afterReport st r s) :=
  ((levelled_keeps st r s).trans ((applyReportHouse_keeps st r _).coarsen fun _ => rfl)).trans
    ((afterReport_keeps st r s).coarsen fun _ => rfl)

/-- The station is ONLINE with its next poll due; the other stations stay (R156, R161). -/
theorem afterReport_stations :
    (standing (afterReport st r s)).stations = (standing s).stations.set st
      { answeredStation (now s) s.bus.stations[st] with
        pollDue := some (now s + (planOf s).stations[st].pollInterval) } := by
  let u := leaveAwaited st true (contentsTaken st r s)
  have awaited : Follows (contentsTaken st r s) u := leaveAwaited_on st true (Follows.refl _)
  have contents : Keeps exceptContents (goodReply st s) u :=
    (((applyLevels_keeps st r.channels _).coarsen fun _ => rfl).trans
      ((applyReportHouse_keeps st r _).coarsen fun _ => rfl)).follows awaited
  have all : Keeps exceptDelivery s u :=
    ((goodReply_keeps st s).coarsen fun _ => rfl).trans (contents.coarsen fun _ => rfl)
  have heard : (standing u).stations = (standing s).stations.set st (answeredStation (now s) s.bus.stations[st]) :=
    calc (standing u).stations
      _ = (standing (goodReply st s)).stations := contents.stations fun _ => rfl
      _ = (standing (updStation st (heardStation (now s)) s)).stations :=
          congrArg Standing.stations (goodReply_follows st s).standing
      _ = _ := standing_updStation_stations st _ s
  have here : untagged u.bus.stations[st] = answeredStation (now s) s.bus.stations[st] := by
    have := congrArg (fun v : Vector StationLive 12 => v[st]) heard
    simpa [standing] using this
  rw [afterReport, finish_standing, deliverReport_eq, setPollDue_station, all.plan, all.uptime,
    standing_updStation_stations, heard, Vector.set_set, ← here]
  rfl

/-- Each tank takes the entry that applies to it (R18, R19). -/
theorem afterReport_levels (k : Tank) :
    (afterReport st r s).levels[k] = if k ∈ tanksOf s st then reportedLevel s r.channels k else s.levels[k] := by
  have later : (afterReport st r s).levels = (levelled st r s).levels :=
    ((afterReport_keeps st r s).levels fun _ => rfl).trans ((applyReportHouse_keeps st r _).levels fun _ => rfl)
  have heard : Keeps exceptDelivery s (goodReply st s) := (goodReply_keeps st s).coarsen fun _ => rfl
  have before : (goodReply st s).levels = s.levels := (goodReply_keeps st s).levels fun _ => rfl
  have tanks : tanksOf (goodReply st s) st = tanksOf s st := by simp only [tanksOf, heard.plan]
  have level : reportedLevel (goodReply st s) r.channels k = reportedLevel s r.channels k := by
    simp only [reportedLevel, entryFor, heard.plan, heard.uptime, before]
  rw [later, levelled, applyLevels_levels, tanks, level, before]

/-! ### The alarm items by what the station serves -/

/-- Before the alarm items come, nothing has moved the protection records or the note sets. -/
theorem levelled_alarms :
    (levelled st r s).protection = s.protection ∧ (levelled st r s).noteSets = s.noteSets := by
  have heard := goodReply_keeps st s
  have levels := applyLevels_keeps st r.channels (goodReply st s)
  exact ⟨(levels.protection fun _ => rfl).trans (heard.protection fun _ => rfl),
    (levels.noteSets fun _ => rfl).trans (heard.noteSets fun _ => rfl)⟩

/-- Behind the contents nothing moves them any more. -/
theorem afterReport_alarms :
    (afterReport st r s).protection = (contentsTaken st r s).protection ∧
      (afterReport st r s).noteSets = (contentsTaken st r s).noteSets :=
  ⟨(afterReport_keeps st r s).protection fun _ => rfl, (afterReport_keeps st r s).noteSets fun _ => rfl⟩

variable {st s}

/-- A station that serves no house takes its note set; the protection records stay (R133). -/
theorem afterReport_none (none_served : (planOf s).servedHouse st = none) :
    (afterReport st r s).protection = s.protection ∧
      (afterReport st r s).noteSets = s.noteSets.set st (noteCodes s r.alarms) := by
  obtain ⟨protection, noteSets⟩ := levelled_alarms st r s
  obtain ⟨protection', noteSets'⟩ := afterReport_alarms st r s
  have plan := (levelled_keeps st r s).plan
  have taken : contentsTaken st r s = noteItems st r.alarms (levelled st r s) :=
    applyReportHouse_none (by rw [plan]; exact none_served)
  rw [protection', noteSets', taken, noteItems_noteSets, noteSets, noteCodes_of_plan plan, ← protection]
  exact ⟨(noteItems_keeps st r.alarms _).protection fun _ => rfl, rfl⟩

/-- A REPORT of the station that serves a house, taken up to its pump entries (R51). -/
def entriesTaken (h : House) (st : Station) (r : Report) (s : State) : State :=
  applyPumpEntries h r.pumps (levelled st r s)

theorem entriesTaken_outline (h : House) : Keeps exceptDelivery s (entriesTaken h st r s) :=
  (levelled_keeps st r s).trans ((applyPumpEntries_keeps h r.pumps _).coarsen fun _ => rfl)

theorem entriesTaken_alarms (h : House) :
    (entriesTaken h st r s).protection = s.protection ∧ (entriesTaken h st r s).noteSets = s.noteSets := by
  obtain ⟨protection, noteSets⟩ := levelled_alarms st r s
  have entries : Keeps exceptReports (levelled st r s) (entriesTaken h st r s) := applyPumpEntries_keeps h r.pumps _
  exact ⟨(entries.protection fun _ => rfl).trans protection, (entries.noteSets fun _ => rfl).trans noteSets⟩

variable {h : House} (served : (planOf s).servedHouse st = some h)
include served

/-- A station's house takes the alarm items and the interlock flag behind the pump entries (R151 step 3). -/
theorem contentsTaken_some :
    contentsTaken st r s = applyInterlock h r.interlock (applyItems h r.alarms (entriesTaken h st r s)) :=
  applyReportHouse_some (by rw [(levelled_keeps st r s).plan]; exact served)

theorem contentsTaken_keeps : Keeps (exceptHouse h) (entriesTaken h st r s) (contentsTaken st r s) := by
  rw [contentsTaken_some r served]
  exact (applyItems_keeps h r.alarms _).trans (applyInterlock_keeps h r.interlock _)

/-- Nothing but the house's own record moves of the protection records and the note sets. -/
theorem afterReport_others :
    (afterReport st r s).noteSets = s.noteSets ∧
      ∀ g : House, g ≠ h → (afterReport st r s).protection[g] = s.protection[g] := by
  obtain ⟨protection, noteSets⟩ := entriesTaken_alarms (st := st) (s := s) r h
  obtain ⟨protection', noteSets'⟩ := afterReport_alarms st r s
  have items := contentsTaken_keeps r served
  rw [noteSets', protection', ← noteSets, ← protection]
  exact ⟨items.noteSets fun _ => rfl, fun _ hg => items.others hg⟩

/-- The interlock flag becomes that of the REPORT; the list and its flag are those its alarm items leave (R141). -/
theorem afterReport_record :
    (afterReport st r s).protection[h].interlock = r.interlock ∧
      (afterReport st r s).protection[h].alarms =
        (applyItems h r.alarms (entriesTaken h st r s)).protection[h].alarms ∧
      (afterReport st r s).protection[h].listFull =
        (applyItems h r.alarms (entriesTaken h st r s)).protection[h].listFull := by
  have record : (afterReport st r s).protection[h] =
      { (applyItems h r.alarms (entriesTaken h st r s)).protection[h] with interlock := r.interlock } := by
    simp [(afterReport_alarms st r s).1, contentsTaken_some r served, applyInterlock_protection]
  exact ⟨by rw [record], by rw [record], by rw [record]⟩

/-- The list and its flag are those of R128 and R129 for the state before the REPORT. -/
theorem afterReport_list :
    (afterReport st r s).protection[h].alarms = keptAlarms s h r.alarms ++ enteredAlarms s h r.alarms ∧
      ((afterReport st r s).protection[h].listFull = true ↔
        (s.protection[h].listFull = true ∨
          freshCodes s h r.alarms ≠ [] ∧ 8 < s.protection[h].alarms.length + (freshCodes s h r.alarms).length) ∧
        8 ≤ (keptAlarms s h r.alarms).length + (enteredAlarms s h r.alarms).length) := by
  have before := entriesTaken_outline (st := st) (s := s) r h
  have protection := (entriesTaken_alarms (st := st) (s := s) r h).1
  obtain ⟨kept, fresh, entered⟩ := alarms_congr before.plan before.uptime protection h r.alarms
  obtain ⟨-, alarms, listFull⟩ := afterReport_record r served
  rw [alarms, listFull, ← kept, ← entered, ← fresh, ← protection]
  exact applyItems_list h r.alarms (entriesTaken h st r s)

/-- The pumps that the REPORT names have its entries as their last reported states (R51). -/
theorem afterReport_reported (p : Pump) (rep : Reported) (hp : houseOf p = h)
    (hcount : positionOf p < (planOf s).houses[h].pumpCount) (hrep : r.pumps[positionOf p]? = some rep) :
    (afterReport st r s).pumps[p].lastReported = some rep ∧
      (afterReport st r s).pumps[p].lastReportedAt = some (now s) := by
  have levels := levelled_keeps st r s
  obtain ⟨state, at_uptime⟩ := applyPumpEntries_reported hp (by rw [levels.plan]; exact hcount) hrep
  obtain ⟨items, items_at⟩ := (contentsTaken_keeps r served).reported (fun _ => rfl) p
  obtain ⟨ends, ends_at⟩ := (afterReport_keeps st r s).reported (fun _ => rfl) p
  rw [levels.uptime] at at_uptime
  exact ⟨(ends.trans items).trans state, (ends_at.trans items_at).trans at_uptime⟩

end

/-- Settles O39: the frame passes its tests, and each part of the state after the REPORT is that of its lemma. -/
theorem reportIsDelivered : Obligations.ReportIsDelivered := by
  intro s f st body r running waiting poll unit parsed pl uptime
  refine ⟨afterReport st r (busFreed s), exec_report_good running.2 waiting poll unit parsed,
    (afterReport_outline st r (busFreed s)).records, ?_, fun k => ?_, fun none_served => ?_, fun h served => ?_⟩
  · rw [(afterReport_outline st r (busFreed s)).standing_eq, afterReport_stations]
    rfl
  · rw [afterReport_levels]
    cases last : (r.channels.filter fun e => e.channel == pl.tanks[k].channel.val).getLast? with
    | none =>
      rw [reportedLevel_none (s := busFreed s) last, ite_self]
      rfl
    | some e =>
      rw [reportedLevel_some (s := busFreed s) last]
      exact if_congr mem_tanksOf rfl rfl
  · obtain ⟨protection, noteSets⟩ := afterReport_none (s := busFreed s) r none_served
    refine ⟨protection, fun k hk => ?_, fun c => ?_⟩
    · have : st.val ≠ k.val := fun e => hk (Fin.ext e.symm)
      exact (congrArg (fun v : Vector (List Code) 12 => v[k]) noteSets).trans (by simp [this, busFreed])
    · have here : (afterReport st r (busFreed s)).noteSets[st] = noteCodes s r.alarms :=
        (congrArg (fun v : Vector (List Code) 12 => v[st]) noteSets).trans (Vector.getElem_set_self _)
      rw [here]
      exact mem_noteCodes s r.alarms c
  · obtain ⟨noteSets, others⟩ := afterReport_others (s := busFreed s) r served
    obtain ⟨alarms, listFull⟩ := afterReport_list (s := busFreed s) r served
    obtain ⟨interlock, -, -⟩ := afterReport_record (s := busFreed s) r served
    exact ⟨noteSets, interlock, alarms, listFull, others, afterReport_reported (s := busFreed s) r served⟩

end Sys2Proof.Machine
end

section
/-! SUPPORT. What re-booking a house writes (R87, R88): the bookings of its RUNNING and STOPPING pumps, at the present
booking count, the two sums, and what a change of the sums calls for. -/

namespace Sys2Proof.Machine

theorem mem_pumpsOf : ∀ {p : Pump} {h : House}, p ∈ pumpsOf h ↔ houseOf p = h := by decide

/-- No pump's state differs between two states. -/
def SameStates (s t : State) : Prop := ∀ p : Pump, t.pumps[p].state = s.pumps[p].state

theorem SameStates.of_pumps {s t : State} (h : t.pumps = s.pumps) : SameStates s t := fun p => by rw [h]

theorem SameStates.pumpsIn {s t : State} (h : SameStates s t) (k : House) (f : PumpState → Bool) :
    pumpsIn t k f = pumpsIn s k f := by
  unfold Machine.pumpsIn
  exact List.filter_congr fun p _ => by rw [h p]

theorem SameStates.bookingCount {s t : State} (h : SameStates s t) (k : House) : bookingCount t k = bookingCount s k := by
  unfold Machine.bookingCount
  rw [h.pumpsIn]

theorem planOf_of_banks {s t : State} (h : t.banks = s.banks) : planOf t = planOf s := by
  simp only [planOf, bankOf, h]

theorem tableOf_of_banks {s t : State} (h : t.banks = s.banks) : tableOf t = tableOf s := by
  simp only [tableOf, bankOf, h]

theorem drawB_of_banks {s t : State} (h : t.banks = s.banks) (p : Pump) (m : Nat) : drawB t p m = drawB s p m := by
  simp only [drawB, tableOf_of_banks h]

theorem chargeS_of_banks {s t : State} (h : t.banks = s.banks) (p : Pump) (m : Nat) :
    chargeS t p m = chargeS s p m := by
  simp only [chargeS, tableOf_of_banks h]

/-! ### The sums -/

/-- What recomputing the sums may write (R88). -/
structure Sums (sums : State → State) : Prop where
  writes : ∀ s, ∃ c f n b, sums s =
    { s with
      feeder := { s.feeder with committed := c, committedForShed := f }
      work := { s.work with passes := n, shedTest := b } }

@[simp] theorem sums_resum : Sums resum := ⟨fun _ => ⟨_, _, _, _, rfl⟩⟩

@[simp] theorem sums_resumQuietly : Sums resumQuietly := ⟨fun _ => ⟨_, _, _, _, rfl⟩⟩

/-- What a re-booking may write. -/
structure Bookings (s t : State) : Prop where
  writes : ∃ v c f n b, t =
    { s with
      pumps := v, feeder := { s.feeder with committed := c, committedForShed := f }
      work := { s.work with passes := n, shedTest := b } }

theorem Bookings.refl (s : State) : Bookings s s := ⟨_, _, _, _, _, rfl⟩

theorem Bookings.trans {s t u : State} (a : Bookings s t) (b : Bookings t u) : Bookings s u := by
  obtain ⟨_, _, _, _, _, rfl⟩ := a
  obtain ⟨_, _, _, _, _, rfl⟩ := b
  exact ⟨_, _, _, _, _, rfl⟩

theorem Sums.bookings {sums : State → State} (h : Sums sums) (s : State) : Bookings s (sums s) := by
  obtain ⟨_, _, _, _, eq⟩ := h.writes s
  exact ⟨_, _, _, _, _, eq⟩

theorem Sums.pumps {sums : State → State} (h : Sums sums) (s : State) : (sums s).pumps = s.pumps := by
  obtain ⟨_, _, _, _, eq⟩ := h.writes s
  rw [eq]

theorem Bookings.banks {s t : State} (h : Bookings s t) : t.banks = s.banks := by
  obtain ⟨_, _, _, _, _, rfl⟩ := h.writes
  rfl

/-! ### A house re-booked -/

/-- A pump's record after a re-booking of a house (R87). -/
def rebooked (s : State) (h : House) (p : Pump) (r : PumpLive) : PumpLive :=
  if houseOf p = h ∧ (r.state = .running ∨ r.state = .stopping) then
    { r with booking := drawB s p (bookingCount s h) }
  else r

theorem rebooked_congr {s t : State} (states : SameStates s t) (banks : t.banks = s.banks) (h : House) (p : Pump)
    (r : PumpLive) : rebooked t h p r = rebooked s h p r := by
  simp only [rebooked, drawB_of_banks banks, states.bookingCount h]

theorem rebooked_drawing {s : State} {h : House} {p : Pump} {r : PumpLive} (house : houseOf p = h)
    (drawing : r.state = .running ∨ r.state = .stopping) :
    rebooked s h p r = { r with booking := drawB s p (bookingCount s h) } := if_pos ⟨house, drawing⟩

theorem rebooked_idle {s : State} {h : House} {p : Pump} {r : PumpLive} (running : r.state ≠ .running)
    (stopping : r.state ≠ .stopping) : rebooked s h p r = r := if_neg (by tauto)

theorem rebooked_elsewhere {s : State} {h : House} {p : Pump} {r : PumpLive} (house : houseOf p ≠ h) :
    rebooked s h p r = r := if_neg (by tauto)

/-- A re-booking writes the booking alone. -/
theorem rebooked_booking (s : State) (h : House) (p : Pump) (r : PumpLive) :
    ∃ b, rebooked s h p r = { r with booking := b } ∧ (b = r.booking ∨ r.state = .running ∨ r.state = .stopping) := by
  unfold rebooked
  split
  · next c => exact ⟨_, rfl, .inr c.2⟩
  · exact ⟨_, rfl, .inl rfl⟩

@[simp] theorem rebooked_state (s : State) (h : House) (p : Pump) (r : PumpLive) :
    (rebooked s h p r).state = r.state := by
  obtain ⟨_, eq, -⟩ := rebooked_booking s h p r
  rw [eq]

theorem rebookPump_bookings {sums : State → State} (hs : Sums sums) (m : Nat) (s : State) (p : Pump) :
    Bookings s (rebookPump sums m s p) := by
  unfold rebookPump
  dsimp only
  split
  · exact Bookings.trans ⟨_, _, _, _, _, rfl⟩ (hs.bookings _)
  · exact Bookings.refl s

theorem rebookPump_get {sums : State → State} (hs : Sums sums) (m : Nat) (s : State) (q p : Pump) :
    (rebookPump sums m s q).pumps[p] =
      if q = p ∧ (s.pumps[p].state = .running ∨ s.pumps[p].state = .stopping) then
        { s.pumps[p] with booking := drawB s p m }
      else s.pumps[p] := by
  unfold rebookPump
  dsimp only
  by_cases e : q = p
  · subst e
    by_cases c : s.pumps[q].state = .running ∨ s.pumps[q].state = .stopping
    · rw [if_pos (by simpa using c), if_pos ⟨rfl, c⟩, hs.pumps, updPump_self]
    · rw [if_neg (by simpa using c), if_neg (by tauto)]
  · rw [if_neg (c := q = p ∧ _) (by tauto)]
    split
    · simp only [hs.pumps, updPump_get, if_neg e]
    · rfl

theorem foldl_bookings {α : Type} {f : State → α → State} (hf : ∀ s x, Bookings s (f s x)) (xs : List α) (s : State) :
    Bookings s (xs.foldl f s) := by
  induction xs generalizing s with
  | nil => exact Bookings.refl s
  | cons x xs ih => exact (hf s x).trans (ih _)

theorem rebook_bookings {sums : State → State} (hs : Sums sums) (h : House) (s : State) : Bookings s (rebook sums h s) :=
  foldl_bookings (fun s p => rebookPump_bookings hs _ s p) _ s

/-- A house re-booked (R87): each of its RUNNING and STOPPING pumps takes its draw at the present booking count. -/
theorem rebook_get {sums : State → State} (hs : Sums sums) (h : House) (s : State) (p : Pump) :
    (rebook sums h s).pumps[p] = rebooked s h p s.pumps[p] := by
  have apart : ∀ (s' : State) (q p : Pump), id q ≠ p →
      (rebookPump sums (bookingCount s h) s' q).pumps[p] = s'.pumps[p] := fun s' q p hq => by
    rw [rebookPump_get hs, if_neg (fun x => hq x.1)]
  unfold rebook
  by_cases e : houseOf p = h
  · obtain ⟨before, first, last⟩ := foldl_get_of_mem (rebookPump sums (bookingCount s h)) id (fun s p => s.pumps[p])
      apart (mem_pumpsOf.mpr e) (by rw [List.map_id]; exact pumpsOf_nodup h) s
    simp only [id] at first last
    have banks : (before.foldl (rebookPump sums (bookingCount s h)) s).banks = s.banks :=
      (foldl_bookings (fun s p => rebookPump_bookings hs _ s p) _ s).banks
    rw [last, rebookPump_get hs, first, drawB_of_banks banks, rebooked]
    simp only [e, true_and]
  · rw [rebooked_elsewhere e]
    exact foldl_get_of_notMem (rebookPump sums (bookingCount s h)) id (fun s p => s.pumps[p]) apart
      (by rw [List.map_id]; exact fun x => e (mem_pumpsOf.mp x)) s

theorem rebook_states {sums : State → State} (hs : Sums sums) (h : House) (s : State) :
    SameStates s (rebook sums h s) := fun p => by rw [rebook_get hs, rebooked_state]

/-! ### A changed pump -/

theorem pumpChanged_writes (p : Pump) (s : State) : ∃ v c f n b, pumpChanged p s =
    { s with
      pumps := v, feeder := { s.feeder with committed := c, committedForShed := f }
      work := { s.work with notices := s.work.notices.set (houseOf p) true, passes := n, shedTest := b } } := by
  obtain ⟨v, c, f, n, b, eq⟩ := ((sums_resum.bookings s).trans (rebook_bookings sums_resum (houseOf p) (resum s))).writes
  refine ⟨v, c, f, n, b, ?_⟩
  unfold pumpChanged
  rw [eq]
  rfl

/-- What a change of a pump leads to: its house is re-booked (R35, R87). -/
@[simp] theorem pumpChanged_get (q p : Pump) (s : State) :
    (pumpChanged q s).pumps[p] = rebooked s (houseOf q) p s.pumps[p] := by
  rw [pumpChanged, notice_pumps, rebook_get sums_resum]
  exact rebooked_congr (fun _ => rfl) rfl _ _ _

theorem pumpChanged_states (p : Pump) (s : State) : SameStates s (pumpChanged p s) := fun q => by
  rw [pumpChanged_get, rebooked_state]

theorem pumpChanged_sums (p : Pump) (s : State) : SumsHold (pumpChanged p s) := by
  have fold : ∀ (m : Nat) (ps : List Pump) (s : State), SumsHold s → SumsHold (ps.foldl (rebookPump resum m) s) := by
    intro m ps
    induction ps with
    | nil => exact fun s h => h
    | cons q ps ih =>
      intro s h
      refine ih _ ?_
      unfold rebookPump
      dsimp only
      split
      · exact resum_sums _
      · exact h
  have sums := fold (bookingCount (resum s) (houseOf p)) (pumpsOf (houseOf p)) (resum s) (resum_sums s)
  rw [← rebook] at sums
  unfold pumpChanged
  generalize rebook resum (houseOf p) (resum s) = t at sums
  exact sums

section
variable (p : Pump) (s : State)

@[simp] theorem pumpChanged_time : (pumpChanged p s).time = s.time := by
  obtain ⟨_, _, _, _, _, eq⟩ := pumpChanged_writes p s
  rw [eq]

@[simp] theorem pumpChanged_banks : (pumpChanged p s).banks = s.banks := by
  obtain ⟨_, _, _, _, _, eq⟩ := pumpChanged_writes p s
  rw [eq]

@[simp] theorem pumpChanged_bus : (pumpChanged p s).bus = s.bus := by
  obtain ⟨_, _, _, _, _, eq⟩ := pumpChanged_writes p s
  rw [eq]

@[simp] theorem pumpChanged_houses : (pumpChanged p s).houses = s.houses := by
  obtain ⟨_, _, _, _, _, eq⟩ := pumpChanged_writes p s
  rw [eq]

@[simp] theorem pumpChanged_survey : (pumpChanged p s).survey = s.survey := by
  obtain ⟨_, _, _, _, _, eq⟩ := pumpChanged_writes p s
  rw [eq]

@[simp] theorem pumpChanged_protection : (pumpChanged p s).protection = s.protection := by
  obtain ⟨_, _, _, _, _, eq⟩ := pumpChanged_writes p s
  rw [eq]

@[simp] theorem pumpChanged_eventQueue : (pumpChanged p s).eventQueue = s.eventQueue := by
  obtain ⟨_, _, _, _, _, eq⟩ := pumpChanged_writes p s
  rw [eq]

@[simp] theorem pumpChanged_queue : (pumpChanged p s).feeder.queue = s.feeder.queue := by
  obtain ⟨_, _, _, _, _, eq⟩ := pumpChanged_writes p s
  rw [eq]

@[simp] theorem pumpChanged_meter : (pumpChanged p s).feeder.meter = s.feeder.meter := by
  obtain ⟨_, _, _, _, _, eq⟩ := pumpChanged_writes p s
  rw [eq]

@[simp] theorem pumpChanged_cap : (pumpChanged p s).feeder.cap = s.feeder.cap := by
  obtain ⟨_, _, _, _, _, eq⟩ := pumpChanged_writes p s
  rw [eq]

@[simp] theorem pumpChanged_notices :
    (pumpChanged p s).work.notices = s.work.notices.set (houseOf p) true := by
  obtain ⟨_, _, _, _, _, eq⟩ := pumpChanged_writes p s
  rw [eq]

@[simp] theorem pumpChanged_surveyEnd : (pumpChanged p s).work.surveyEnd = s.work.surveyEnd := by
  obtain ⟨_, _, _, _, _, eq⟩ := pumpChanged_writes p s
  rw [eq]

@[simp] theorem pumpChanged_busEnded : (pumpChanged p s).work.busEnded = s.work.busEnded := by
  obtain ⟨_, _, _, _, _, eq⟩ := pumpChanged_writes p s
  rw [eq]

end

end Sys2Proof.Machine
end

section
/-! SUPPORT. What the operations of the Pump Table write (R35, R38, R42, R45, R53): the whole record of the pump, and
nothing of any other pump but its booking. -/

namespace Sys2Proof.Machine

/-! ### The permit -/

theorem releasePermit_writes (p : Pump) (s : State) : ∃ n, releasePermit p s =
    { s with
      pumps := s.pumps.set p { s.pumps[p] with permit := none, permitRelease := none }
      work := { s.work with passes := n } } := by
  unfold releasePermit
  dsimp only
  split
  · exact ⟨_, rfl⟩
  · exact ⟨_, rfl⟩

section
variable (p : Pump) (s : State)

@[simp] theorem releasePermit_pumps :
    (releasePermit p s).pumps = s.pumps.set p { s.pumps[p] with permit := none, permitRelease := none } := by
  obtain ⟨_, eq⟩ := releasePermit_writes p s
  rw [eq]

@[simp] theorem releasePermit_time : (releasePermit p s).time = s.time := by
  obtain ⟨_, eq⟩ := releasePermit_writes p s
  rw [eq]

@[simp] theorem releasePermit_banks : (releasePermit p s).banks = s.banks := by
  obtain ⟨_, eq⟩ := releasePermit_writes p s
  rw [eq]

@[simp] theorem releasePermit_bus : (releasePermit p s).bus = s.bus := by
  obtain ⟨_, eq⟩ := releasePermit_writes p s
  rw [eq]

@[simp] theorem releasePermit_houses : (releasePermit p s).houses = s.houses := by
  obtain ⟨_, eq⟩ := releasePermit_writes p s
  rw [eq]

@[simp] theorem releasePermit_survey : (releasePermit p s).survey = s.survey := by
  obtain ⟨_, eq⟩ := releasePermit_writes p s
  rw [eq]

@[simp] theorem releasePermit_protection : (releasePermit p s).protection = s.protection := by
  obtain ⟨_, eq⟩ := releasePermit_writes p s
  rw [eq]

@[simp] theorem releasePermit_feeder : (releasePermit p s).feeder = s.feeder := by
  obtain ⟨_, eq⟩ := releasePermit_writes p s
  rw [eq]

@[simp] theorem releasePermit_eventQueue : (releasePermit p s).eventQueue = s.eventQueue := by
  obtain ⟨_, eq⟩ := releasePermit_writes p s
  rw [eq]

@[simp] theorem releasePermit_notices : (releasePermit p s).work.notices = s.work.notices := by
  obtain ⟨_, eq⟩ := releasePermit_writes p s
  rw [eq]

@[simp] theorem releasePermit_surveyEnd : (releasePermit p s).work.surveyEnd = s.work.surveyEnd := by
  obtain ⟨_, eq⟩ := releasePermit_writes p s
  rw [eq]

@[simp] theorem releasePermit_busEnded : (releasePermit p s).work.busEnded = s.work.busEnded := by
  obtain ⟨_, eq⟩ := releasePermit_writes p s
  rw [eq]

end

/-! ### Out of service -/

/-- A pump's record in ISOLATED, its flags gone (R53, R54). -/
def isolatedRecord (r : PumpLive) : PumpLive :=
  { outRecord .isolated none r with isolatePending := false, protectPending := false, faultPending := none }

/-- A pump's record in a stopped state once isolate-pending has been acted on (R53). -/
def isolateActed (r : PumpLive) : PumpLive := if r.isolatePending then isolatedRecord r else r

/-- A pump's record in LOCAL, its flags acted on (R53). -/
def localRecord (r : PumpLive) : PumpLive :=
  isolateActed { outRecord .localControl none r with faultPending := none }

/-- A pump's record in FAULTED, its flags acted on (R52, R53). -/
def faultedRecord (cause : FaultCause) (r : PumpLive) : PumpLive :=
  isolateActed { outRecord .faulted (some cause) r with faultPending := none }

/-- A pump's record in REST or READY once its flags have been acted on (R53). -/
def stopActed (r : PumpLive) : PumpLive :=
  match r.faultPending with
  | some cause => faultedRecord cause r
  | none => isolateActed r

theorem takeOut_pumps (p : Pump) (st : PumpState) (s : State) :
    (takeOut p st s).pumps = s.pumps.set p (outRecord st none s.pumps[p]) := by
  simp [takeOut, leaveDuty, outRecord]

theorem enterIsolated_pumps (p : Pump) (s : State) :
    (enterIsolated p s).pumps = s.pumps.set p (isolatedRecord s.pumps[p]) := by
  simp [enterIsolated, takeOut_pumps, isolatedRecord]

theorem set_same (s : State) (p : Pump) : s.pumps = s.pumps.set p s.pumps[p] := by simp

theorem actIsolate_pumps (p : Pump) (s : State) :
    (actIsolate p s).pumps = s.pumps.set p (isolateActed s.pumps[p]) := by
  unfold actIsolate isolateActed
  split
  · exact enterIsolated_pumps p s
  · exact set_same s p

theorem enterLocal_pumps (p : Pump) (s : State) :
    (enterLocal p s).pumps = s.pumps.set p (localRecord s.pumps[p]) := by
  simp [enterLocal, actIsolate_pumps, takeOut_pumps, localRecord]

theorem enterFaulted_pumps (p : Pump) (cause : FaultCause) (s : State) :
    (enterFaulted p cause s).pumps = s.pumps.set p (faultedRecord cause s.pumps[p]) := by
  simp [enterFaulted, actIsolate_pumps, raisePump, takeOut_pumps, faultedRecord, outRecord]

theorem actStopped_pumps (p : Pump) (s : State) :
    (actStopped p s).pumps = s.pumps.set p (stopActed s.pumps[p]) := by
  unfold actStopped stopActed
  cases s.pumps[p].faultPending with
  | some cause => exact enterFaulted_pumps p cause s
  | none => exact actIsolate_pumps p s

/-! ### Rest and admissions undone -/

theorem enterRest_pumps (p : Pump) (s : State) :
    (enterRest p s).pumps = s.pumps.set p (restRecord (now s) (planOf s).pumps[p].minOff s.pumps[p]) := by
  simp [enterRest, restRecord, pumpPlan]

/-- A pump's record in REST where its min off is over (R38). -/
def restPassed (uptime : Nat) (r : PumpLive) : PumpLive :=
  if r.state == .rest && (r.minOffUntil.all fun t => decide (t ≤ uptime)) then
    { r with state := .ready, minOffUntil := none }
  else r

theorem passRest_pumps (p : Pump) (s : State) :
    (passRest p s).pumps = s.pumps.set p (restPassed (now s) s.pumps[p]) := by
  unfold passRest restPassed
  dsimp only
  split
  · rfl
  · exact set_same s p

/-- A pump's record with its admission undone and nothing booked (R42). -/
def undoneRecord (r : PumpLive) : PumpLive :=
  { unadmitted r with permit := none, permitRelease := none, booking := 0, admittedM := none, windowEnd := none }

theorem undoAdmission_pumps (p : Pump) (s : State) :
    (undoAdmission p s).pumps = s.pumps.set p (undoneRecord s.pumps[p]) := by
  simp [undoAdmission, undoneRecord, unadmitted]

theorem withdrawStart_pumps (p : Pump) (s : State) :
    (withdrawStart p s).pumps = s.pumps.set p (undoneRecord s.pumps[p]) := by
  simp [withdrawStart, undoAdmission_pumps]

/-! ### A change of one pump, with its house re-booked -/

/-- A pump has taken a record, and its house has been re-booked (R35, R87). -/
def Turned (q : Pump) (r : PumpLive) (s t : State) : Prop :=
  ∀ p : Pump, t.pumps[p] = rebooked t (houseOf q) p (if q = p then r else s.pumps[p])

section
variable {q : Pump} {r : PumpLive} {s t u : State}

theorem get_of_set (h : u.pumps = s.pumps.set q r) (p : Pump) : u.pumps[p] = if q = p then r else s.pumps[p] := by
  by_cases e : q = p
  · subst e
    simp [h]
  · have : q.val ≠ p.val := fun x => e (Fin.ext x)
    simp [h, e, this]

theorem Turned.of_changed (h : u.pumps = s.pumps.set q r) : Turned q r s (pumpChanged q u) := fun p => by
  rw [pumpChanged_get, rebooked_congr (pumpChanged_states q u) (pumpChanged_banks q u), get_of_set h]

theorem Turned.congr (h : Turned q r s t) (pumps : u.pumps = t.pumps) (banks : u.banks = t.banks) :
    Turned q r s u := fun p => by
  rw [rebooked_congr (SameStates.of_pumps pumps) banks, ← h p]
  simp only [pumps]

theorem Turned.self (h : Turned q r s t) : t.pumps[q] = rebooked t (houseOf q) q r := by
  rw [h q, if_pos rfl]

theorem Turned.other (h : Turned q r s t) {p : Pump} (hp : q ≠ p) :
    t.pumps[p] = rebooked t (houseOf q) p s.pumps[p] := by
  rw [h p, if_neg hp]

theorem Turned.state (h : Turned q r s t) (p : Pump) :
    t.pumps[p].state = if q = p then r.state else s.pumps[p].state := by
  rw [h p, rebooked_state]
  split <;> rfl

end

/-- The record of a pump whose stop begins (R45). -/
def stopRecord (cause : StopCause) (r : PumpLive) : PumpLive :=
  { r with
    permit := none, permitRelease := none, state := .stopping, windowEnd := none, stopCause := some cause
    isolatePending := r.isolatePending || cause == .isolate }

theorem beginStop_turned (cause : StopCause) (q : Pump) (s : State) :
    Turned q (stopRecord cause s.pumps[q]) s (beginStop cause q s) := by
  unfold beginStop raisePump
  refine (Turned.of_changed ?_).congr (raise_pumps ..) (raise_banks ..)
  simp [joinOrder, stopRecord]

/-- The record of an ORDERED pump that a PROTECT stop withdraws, its flags acted on (R45, R53). -/
def withdrawnRecord (r : PumpLive) : PumpLive :=
  stopActed { undoneRecord r with state := .ready, stopCause := none }

theorem protectOrdered_turned (q : Pump) (s : State) (waits : orderInFlight s q = false) :
    Turned q (withdrawnRecord s.pumps[q]) s (protectOrdered q s) := by
  unfold protectOrdered
  rw [if_neg (by simp [waits])]
  refine Turned.of_changed ?_
  simp [actStopped_pumps, raisePump, withdrawStart_pumps, withdrawnRecord]

theorem queuePump_turned (q : Pump) (s : State) : Turned q { s.pumps[q] with state := .queued } s (queuePump q s) :=
  Turned.of_changed rfl

/-- The record of a QUEUED pump that leaves the Start Queue, its flags acted on (R40, R53). -/
def unqueuedRecord (r : PumpLive) : PumpLive :=
  stopActed { r with state := .ready, admittedM := none, stopCause := none }

theorem unqueue_turned (q : Pump) (s : State) (queued : s.pumps[q].state = .queued) :
    Turned q (unqueuedRecord s.pumps[q]) s (unqueue q s) := by
  unfold unqueue
  rw [if_pos (by simpa using queued)]
  refine Turned.of_changed ?_
  simp [actStopped_pumps, unqueuedRecord]

theorem unqueue_of_ne {q : Pump} {s : State} (h : s.pumps[q].state ≠ .queued) : unqueue q s = s :=
  if_neg (by simpa using h)

end Sys2Proof.Machine
end

section
/-! SUPPORT. What an operation on one pump does to the Start Queue (R92, R94): it leaves the other pumps' states, drops
at most the pump's own entry, and makes no pump QUEUED. -/

namespace Sys2Proof.Machine

/-! ### The queue holds the QUEUED -/

/-- The entries of the other pumps. -/
def entriesBut (p : Pump) (es : List StartEntry) : List StartEntry := es.filter fun e => e.pump != p

theorem entriesBut_entriesBut (p : Pump) (es : List StartEntry) : entriesBut p (entriesBut p es) = entriesBut p es := by
  simp [entriesBut]

theorem mem_entriesBut {p : Pump} {es : List StartEntry} {e : StartEntry} :
    e ∈ entriesBut p es ↔ e ∈ es ∧ e.pump ≠ p := by simp [entriesBut]

section
variable {p : Pump} {s t u : State}

/-- Whether the queue holds the QUEUED depends on the states and the queue alone. -/
theorem QueueHoldsTheQueued.congr (h : QueueHoldsTheQueued s) (states : SameStates s t)
    (queue : t.feeder.queue = s.feeder.queue) : QueueHoldsTheQueued t := by
  obtain ⟨entries, pumps, nodup⟩ := h
  refine ⟨fun e he => ?_, fun p hp => ?_, by rwa [queue]⟩
  · rw [queue] at he
    rw [states]
    exact entries e he
  · rw [states] at hp
    rw [queue]
    exact pumps p hp

/-- A pump that is not QUEUED has no entry. -/
theorem QueueHoldsTheQueued.absent (h : QueueHoldsTheQueued s) (hp : s.pumps[p].state ≠ .queued) :
    ∀ e ∈ s.feeder.queue, e.pump ≠ p := fun e he eq => hp (eq ▸ (h.1 e he).1)

theorem entriesBut_of_absent {es : List StartEntry} (h : ∀ e ∈ es, e.pump ≠ p) : entriesBut p es = es :=
  List.filter_eq_self.mpr fun e he => by simpa using h e he

/-- A pump that leaves the queue and is not QUEUED any more. -/
theorem QueueHoldsTheQueued.left (h : QueueHoldsTheQueued s)
    (others : ∀ q : Pump, q ≠ p → t.pumps[q].state = s.pumps[q].state) (hp : t.pumps[p].state ≠ .queued)
    (queue : t.feeder.queue = entriesBut p s.feeder.queue) : QueueHoldsTheQueued t := by
  obtain ⟨entries, pumps, nodup⟩ := h
  refine ⟨fun e he => ?_, fun q hq => ?_, ?_⟩
  · rw [queue, mem_entriesBut] at he
    rw [others _ he.2]
    exact entries e he.1
  · have apart : q ≠ p := fun e => hp (e ▸ hq)
    rw [others _ apart] at hq
    obtain ⟨e, he, rfl⟩ := pumps q hq
    exact ⟨e, by rw [queue, mem_entriesBut]; exact ⟨he, apart⟩, rfl⟩
  · rw [queue]
    exact nodup.sublist (List.filter_sublist.map _)

end

/-! ### One pump handled -/

/-- `t` comes from `s` by operations on a pump: no other pump's state moves, no entry but its own leaves the Start Queue,
and it is not made QUEUED. -/
structure Handles (p : Pump) (s t : State) : Prop where
  others : ∀ q : Pump, q ≠ p → t.pumps[q].state = s.pumps[q].state
  queue : t.feeder.queue = s.feeder.queue ∨ t.feeder.queue = entriesBut p s.feeder.queue
  unqueued : s.pumps[p].state ≠ .queued → t.pumps[p].state ≠ .queued

section
variable {p : Pump} {s t u : State}

theorem Handles.refl (p : Pump) (s : State) : Handles p s s := ⟨fun _ _ => rfl, .inl rfl, id⟩

theorem Handles.trans (a : Handles p s t) (b : Handles p t u) : Handles p s u := by
  refine ⟨fun q hq => (b.others q hq).trans (a.others q hq), ?_, fun h => b.unqueued (a.unqueued h)⟩
  rcases b.queue with hb | hb <;> rcases a.queue with ha | ha <;> rw [hb, ha]
  · exact .inl rfl
  · exact .inr rfl
  · exact .inr rfl
  · exact .inr (entriesBut_entriesBut _ _)

/-- A pump that is not QUEUED may be handled. -/
theorem Handles.keeps (a : Handles p s t) (hp : s.pumps[p].state ≠ .queued) (h : QueueHoldsTheQueued s) :
    QueueHoldsTheQueued t := by
  have own : entriesBut p s.feeder.queue = s.feeder.queue := entriesBut_of_absent (h.absent hp)
  refine h.left a.others (a.unqueued hp) ?_
  rcases a.queue with hq | hq
  · rw [hq, own]
  · exact hq

theorem Handles.of_states (states : SameStates s t) (queue : t.feeder.queue = s.feeder.queue) : Handles p s t :=
  ⟨fun q _ => states q, .inl queue, fun h => by rwa [states]⟩

theorem Handles.of_pumps (pumps : t.pumps = s.pumps) (queue : t.feeder.queue = s.feeder.queue) : Handles p s t :=
  Handles.of_states (SameStates.of_pumps pumps) queue

/-- A pump's record replaced by one that is not QUEUED. -/
theorem Handles.of_set {r : PumpLive} (pumps : t.pumps = s.pumps.set p r)
    (queue : t.feeder.queue = s.feeder.queue ∨ t.feeder.queue = entriesBut p s.feeder.queue)
    (state : s.pumps[p].state ≠ .queued → r.state ≠ .queued) : Handles p s t := by
  refine ⟨fun q hq => ?_, queue, fun h => ?_⟩
  · rw [get_of_set pumps, if_neg (Ne.symm hq)]
  · rw [get_of_set pumps, if_pos rfl]
    exact state h

theorem Handles.updPump (a : Handles p s t) (f : PumpLive → PumpLive)
    (hf : ∀ r : PumpLive, r.state ≠ .queued → (f r).state ≠ .queued) : Handles p s (updPump p f t) :=
  a.trans (Handles.of_set rfl (.inl rfl) (hf _))

theorem Handles.pumpChanged (a : Handles p s t) : Handles p s (pumpChanged p t) :=
  a.trans (Handles.of_states (pumpChanged_states p t) (pumpChanged_queue p t))

theorem Handles.raise (a : Handles p s t) (k : EventKind) (v w : Nat) : Handles p s (raisePump k p v w t) :=
  a.trans (Handles.of_pumps rfl rfl)

theorem Handles.releasePermit (a : Handles p s t) : Handles p s (releasePermit p t) :=
  a.trans (Handles.of_set (releasePermit_pumps p t) (.inl (by simp)) id)

theorem Handles.joinTransmit (a : Handles p s t) (u : BusUnit) (c : TxClass) (o : Option Order) :
    Handles p s (joinTransmit u c o t) := a.trans (Handles.of_pumps (by simp) (by simp))

end

section
variable (p : Pump) (s : State)

theorem takeOut_queue (st : PumpState) : (takeOut p st s).feeder.queue = entriesBut p s.feeder.queue := by
  simp [takeOut, leaveDuty, leaveStartQueue, entriesBut]

theorem takeOut_handles {st : PumpState} (hst : st ≠ .queued) : Handles p s (takeOut p st s) :=
  Handles.of_set (takeOut_pumps p st s) (.inr (takeOut_queue p s st)) fun _ => hst

theorem enterIsolated_handles : Handles p s (enterIsolated p s) :=
  (takeOut_handles p s PumpState.noConfusion).updPump _ (by simp)

theorem actIsolate_handles : Handles p s (actIsolate p s) := by
  unfold actIsolate
  split
  · exact enterIsolated_handles p s
  · exact Handles.refl p s

theorem enterLocal_handles : Handles p s (enterLocal p s) :=
  ((takeOut_handles p s PumpState.noConfusion).updPump _ (by simp)).trans (actIsolate_handles p _)

theorem enterFaulted_handles (c : FaultCause) : Handles p s (enterFaulted p c s) :=
  (((takeOut_handles p s PumpState.noConfusion).updPump _ (by simp)).raise _ _ _).trans (actIsolate_handles p _)

theorem actStopped_handles : Handles p s (actStopped p s) := by
  unfold actStopped
  split
  · exact enterFaulted_handles p s _
  · exact actIsolate_handles p s

end

/-! ### A pump taken out of the queue -/

section
variable {p : Pump} {s : State}

/-- A pump may be taken out of service from every state (R35). -/
theorem QueueHoldsTheQueued.takeOut (h : QueueHoldsTheQueued s) {st : PumpState} (hst : st ≠ .queued) :
    QueueHoldsTheQueued (takeOut p st s) := by
  refine h.left (p := p) (takeOut_handles p s hst).others ?_ (takeOut_queue p s st)
  rw [get_of_set (takeOut_pumps p st s), if_pos rfl]
  exact hst

theorem takeOut_state (st : PumpState) : (takeOut p st s).pumps[p].state = st := by
  rw [get_of_set (takeOut_pumps p st s), if_pos rfl]
  rfl

theorem QueueHoldsTheQueued.enterIsolated (h : QueueHoldsTheQueued s) : QueueHoldsTheQueued (enterIsolated p s) :=
  ((Handles.refl p _).updPump _ (by simp)).keeps (by rw [takeOut_state]; exact PumpState.noConfusion) (h.takeOut PumpState.noConfusion)

theorem QueueHoldsTheQueued.actIsolate (h : QueueHoldsTheQueued s) : QueueHoldsTheQueued (actIsolate p s) := by
  unfold Machine.actIsolate
  split
  · exact h.enterIsolated
  · exact h

theorem QueueHoldsTheQueued.enterLocal (h : QueueHoldsTheQueued s) : QueueHoldsTheQueued (enterLocal p s) :=
  (((Handles.refl p _).updPump _ (by simp)).keeps (by rw [takeOut_state]; exact PumpState.noConfusion) (h.takeOut PumpState.noConfusion)).actIsolate

theorem QueueHoldsTheQueued.enterFaulted (h : QueueHoldsTheQueued s) (c : FaultCause) :
    QueueHoldsTheQueued (enterFaulted p c s) :=
  ((((Handles.refl p _).updPump _ (by simp)).raise _ _ _).keeps (by rw [takeOut_state]; exact PumpState.noConfusion)
    (h.takeOut PumpState.noConfusion)).actIsolate

theorem QueueHoldsTheQueued.pumpChanged (h : QueueHoldsTheQueued s) : QueueHoldsTheQueued (pumpChanged p s) :=
  h.congr (pumpChanged_states p s) (pumpChanged_queue p s)

/-- A pump may leave the queue for a state that is not QUEUED. -/
theorem QueueHoldsTheQueued.leave (h : QueueHoldsTheQueued s) (f : PumpLive → PumpLive)
    (hf : (f s.pumps[p]).state ≠ .queued) : QueueHoldsTheQueued (updPump p f (leaveStartQueue p s)) := by
  refine h.left (p := p) (fun q hq => ?_) ?_ rfl
  · rw [updPump_get, if_neg (Ne.symm hq)]
    rfl
  · rw [updPump_self]
    exact hf

end

end Sys2Proof.Machine
end

section
/-! SUPPORT. What taking a pump out of service writes (R35, R53): pumps, its Start Queue entry, its place in the duty list,
the passes called for, and events; and no other part of the state. -/

namespace Sys2Proof.Machine

/-- `t` comes from `s` by taking a pump out of service, or by leaving it. -/
structure Retires (p : Pump) (s t : State) : Prop where
  writes : ∃ v q hs n ev, t =
    { s with
      pumps := v, feeder := { s.feeder with queue := q }, houses := hs, work := { s.work with passes := n }
      eventQueue := ev } ∧
    (q = s.feeder.queue ∨ q = entriesBut p s.feeder.queue) ∧
    (hs = s.houses ∨ hs = (leaveDuty p s).houses)

section
variable {p : Pump} {s t u : State}

theorem leaveDuty_houses (p : Pump) (s : State) : (leaveDuty p s).houses =
    s.houses.set (houseOf p)
      { s.houses[houseOf p] with dutyList := s.houses[houseOf p].dutyList.filter fun q => q != p } := rfl

theorem leaveDuty_leaveDuty (p : Pump) (s t : State) (h : t.houses = (leaveDuty p s).houses) :
    (leaveDuty p t).houses = (leaveDuty p s).houses := by
  simp [leaveDuty_houses, h]

theorem Retires.refl (p : Pump) (s : State) : Retires p s s := ⟨_, _, _, _, _, rfl, .inl rfl, .inl rfl⟩

theorem Retires.trans (a : Retires p s t) (b : Retires p t u) : Retires p s u := by
  obtain ⟨_, q, hs, _, _, rfl, hq, hh⟩ := a
  obtain ⟨_, q', hs', _, _, rfl, hq', hh'⟩ := b
  refine ⟨_, _, _, _, _, rfl, ?_, ?_⟩
  · rcases hq' with rfl | rfl <;> rcases hq with rfl | rfl
    · exact .inl rfl
    · exact .inr rfl
    · exact .inr rfl
    · exact .inr (entriesBut_entriesBut _ _)
  · rcases hh' with rfl | rfl <;> rcases hh with rfl | rfl
    · exact .inl rfl
    · exact .inr rfl
    · exact .inr rfl
    · exact .inr (leaveDuty_leaveDuty _ _ _ rfl)

theorem Retires.time (a : Retires p s t) : t.time = s.time := by obtain ⟨_, _, _, _, _, rfl, -⟩ := a; rfl
theorem Retires.banks (a : Retires p s t) : t.banks = s.banks := by obtain ⟨_, _, _, _, _, rfl, -⟩ := a; rfl
theorem Retires.bus (a : Retires p s t) : t.bus = s.bus := by obtain ⟨_, _, _, _, _, rfl, -⟩ := a; rfl
theorem Retires.survey (a : Retires p s t) : t.survey = s.survey := by obtain ⟨_, _, _, _, _, rfl, -⟩ := a; rfl
theorem Retires.protection (a : Retires p s t) : t.protection = s.protection := by
  obtain ⟨_, _, _, _, _, rfl, -⟩ := a; rfl
theorem Retires.meter (a : Retires p s t) : t.feeder.meter = s.feeder.meter := by
  obtain ⟨_, _, _, _, _, rfl, -⟩ := a; rfl
theorem Retires.cap (a : Retires p s t) : t.feeder.cap = s.feeder.cap := by
  obtain ⟨_, _, _, _, _, rfl, -⟩ := a; rfl
theorem Retires.notices (a : Retires p s t) : t.work.notices = s.work.notices := by
  obtain ⟨_, _, _, _, _, rfl, -⟩ := a; rfl
theorem Retires.surveyEnd (a : Retires p s t) : t.work.surveyEnd = s.work.surveyEnd := by
  obtain ⟨_, _, _, _, _, rfl, -⟩ := a; rfl
theorem Retires.busEnded (a : Retires p s t) : t.work.busEnded = s.work.busEnded := by
  obtain ⟨_, _, _, _, _, rfl, -⟩ := a; rfl
theorem Retires.queue (a : Retires p s t) :
    t.feeder.queue = s.feeder.queue ∨ t.feeder.queue = entriesBut p s.feeder.queue := by
  obtain ⟨_, _, _, _, _, rfl, h, -⟩ := a; exact h
theorem Retires.houses (a : Retires p s t) : t.houses = s.houses ∨ t.houses = (leaveDuty p s).houses := by
  obtain ⟨_, _, _, _, _, rfl, -, h⟩ := a; exact h

theorem Retires.updPump (a : Retires p s t) (f : PumpLive → PumpLive) : Retires p s (updPump p f t) :=
  a.trans ⟨_, _, _, _, _, rfl, .inl rfl, .inl rfl⟩

theorem Retires.raise (a : Retires p s t) (k : EventKind) (v w : Nat) : Retires p s (raisePump k p v w t) :=
  a.trans ⟨_, _, _, _, _, rfl, .inl rfl, .inl rfl⟩

theorem Retires.releasePermit (a : Retires p s t) : Retires p s (releasePermit p t) := by
  obtain ⟨n, eq⟩ := releasePermit_writes p t
  rw [eq]
  exact a.trans ⟨_, _, _, _, _, rfl, .inl rfl, .inl rfl⟩

end

section
variable (p : Pump) (s : State)

theorem leaveStartQueue_retires : Retires p s (leaveStartQueue p s) := ⟨_, _, _, _, _, rfl, .inr rfl, .inl rfl⟩

theorem leaveDuty_retires : Retires p s (leaveDuty p s) := ⟨_, _, _, _, _, rfl, .inl rfl, .inr rfl⟩

theorem takeOut_retires (st : PumpState) : Retires p s (takeOut p st s) :=
  ((leaveStartQueue_retires p s).releasePermit.trans (leaveDuty_retires p _)).updPump _

theorem enterIsolated_retires : Retires p s (enterIsolated p s) := (takeOut_retires p s _).updPump _

theorem actIsolate_retires : Retires p s (actIsolate p s) := by
  unfold actIsolate
  split
  · exact enterIsolated_retires p s
  · exact Retires.refl p s

theorem enterLocal_retires : Retires p s (enterLocal p s) :=
  ((takeOut_retires p s _).updPump _).trans (actIsolate_retires p _)

theorem enterFaulted_retires (c : FaultCause) : Retires p s (enterFaulted p c s) :=
  (((takeOut_retires p s _).updPump _).raise _ _ _).trans (actIsolate_retires p _)

theorem actStopped_retires : Retires p s (actStopped p s) := by
  unfold actStopped
  split
  · exact enterFaulted_retires p s _
  · exact actIsolate_retires p s

theorem undoAdmission_retires : Retires p s (undoAdmission p s) := (Retires.refl p s).releasePermit.updPump _

end

end Sys2Proof.Machine
end

section
/-! SUPPORT. The work of an event as a run of steps (R62, R82, R96, R101): what each piece of it does to the pumps, the
Start Queue, the duty lists and the bus is one of the steps below, and an invariant of the steps is one of the work. -/

namespace Sys2Proof.Machine

/-! ### What the standing part decides -/

section
variable {s t : State}

theorem planOf_of_standing (h : standing t = standing s) : planOf t = planOf s :=
  planOf_of_banks (congrArg Standing.banks h)

theorem now_of_standing (h : standing t = standing s) : now t = now s :=
  congrArg (fun x : Standing => x.time.uptime) h

/-- A house calls for PROTECT stops: it is evaluated, and its protection or suction level says so (R70). -/
def Protects (s : State) (h : House) : Prop := houseInUse s h = true ∧ stopCauseFor s h = .protect

theorem stopCauseFor_of_standing (h : standing t = standing s) (k : House) : stopCauseFor t k = stopCauseFor s k := by
  have protection : t.protection = s.protection := congrArg Standing.protection h
  have hydraulics : t.hydraulics = s.hydraulics := congrArg Standing.hydraulics h
  simp only [stopCauseFor, protection, hydraulics]

theorem houseInUse_of_standing (h : standing t = standing s) (k : House) : houseInUse t k = houseInUse s k := by
  simp only [houseInUse, planOf_of_standing h]

theorem protects_of_standing (h : standing t = standing s) (k : House) : Protects t k ↔ Protects s k := by
  simp only [Protects, stopCauseFor_of_standing h, houseInUse_of_standing h]

end

/-! ### The steps -/

/-- `t` comes from `s` by a step that writes no pump, Start Queue entry, duty list, bus or survey, and a shed phase only
where it is DUE. -/
structure Quiet (s t : State) : Prop where
  standing : standing t = standing s
  pumps : t.pumps = s.pumps
  queue : t.feeder.queue = s.feeder.queue
  duty : ∀ h : House, t.houses[h].dutyList = s.houses[h].dutyList
  bus : t.bus = s.bus
  survey : t.survey = s.survey
  meter : s.feeder.meter.phase ≠ .due → t.feeder.meter = s.feeder.meter
  surveyEnd : t.work.surveyEnd = true → s.work.surveyEnd = true
  notices : ∀ h : House, s.work.notices[h] = true → t.work.notices[h] = true
  records : s.eventQueue.records <+: t.eventQueue.records
  bounded : s.eventQueue.records.length ≤ 128 → t.eventQueue.records.length ≤ 128

/-- A step of the work of an event other than an admission. `adopting` says that the survey may end in it, and `loose` that
PROTECT stops may go to a house that does not call for them. -/
inductive Stir (adopting loose : Prop) : State → State → Prop
  | quiet {s t} (h : Quiet s t) : Stir adopting loose s t
  | stop {s} (cause : StopCause) (q : Pump) (running : s.pumps[q].state = .running ∨ s.pumps[q].state = .starting) :
    Stir adopting loose s (beginStop cause q s)
  | withdraw {s} (q : Pump) (ordered : s.pumps[q].state = .ordered) (waits : orderInFlight s q = false)
    (protects : loose ∨ Protects s (houseOf q)) : Stir adopting loose s (protectOrdered q s)
  | mark {s} (q : Pump)
    (held : s.pumps[q].state = .unconfirmed ∨ s.pumps[q].state = .ordered ∧ orderInFlight s q = true) :
    Stir adopting loose s (updPump q (fun r => { r with protectPending := true }) s)
  | aggravate {s} (q : Pump) (stopping : s.pumps[q].state = .stopping) :
    Stir adopting loose s (updPump q (fun r => { r with stopCause := some .protect }) s)
  | queue {s} (q : Pump) (ready : eligible s q = true) : Stir adopting loose s (queuePump q s)
  | unqueue {s} (q : Pump) (queued : s.pumps[q].state = .queued) : Stir adopting loose s (unqueue q s)
  | adopt {s} (q : Pump) (allowed : adopting) (unconfirmed : s.pumps[q].state = .unconfirmed) :
    Stir adopting loose s (adoptAtSurveyEnd s q)
  | rebook {s} (h : House) (allowed : adopting) : Stir adopting loose s (rebook resum h s)
  | surveyed {s} (allowed : adopting) :
    Stir adopting loose s { s with survey := { s.survey with running := false } }

/-- A run of steps. -/
abbrev Stirs (adopting loose : Prop) : State → State → Prop := Relation.ReflTransGen (Stir adopting loose)

section
variable {adopting loose : Prop} {s t u : State}

theorem Quiet.follows (h : Quiet s t) : Follows s t :=
  ⟨h.standing, fun _ => by rw [h.bus], h.records, h.bounded, fun p => by rw [h.pumps]; exact PumpFollows.refl _⟩

theorem Stir.follows (h : Stir adopting loose s t) : Follows s t := by
  have start := Follows.refl s
  cases h with
  | quiet h => exact h.follows
  | stop cause q _ => exact beginStop_on cause q start
  | withdraw q _ _ _ => exact protectOrdered_on q start
  | mark q _ => exact updPump_on _ _ (fun _ => by constructor <;> simp) start
  | aggravate q _ => exact updPump_on _ _ (fun _ => by constructor <;> simp) start
  | queue q _ => exact queuePump_on q start
  | unqueue q _ => exact unqueue_on q start
  | adopt q _ _ => exact adoptAtSurveyEnd_on q start
  | rebook h _ => exact rebook_on resum_on h start
  | surveyed _ => exact start.of_parts rfl rfl rfl rfl

theorem Stirs.follows (h : Stirs adopting loose s t) : Follows s t := by
  induction h with
  | refl => exact Follows.refl s
  | tail _ step ih => exact ih.trans step.follows

theorem Quiet.stirs (h : Quiet s t) : Stirs adopting loose s t := .single (.quiet h)

theorem Stirs.quiet (a : Stirs adopting loose s t) (h : Quiet t u) : Stirs adopting loose s u := .tail a (.quiet h)

/-- A step that writes the Event Queue, what is handed on and the feeder's own sums alone. -/
theorem Quiet.of_parts (standing : Machine.standing t = Machine.standing s) (pumps : t.pumps = s.pumps)
    (queue : t.feeder.queue = s.feeder.queue) (houses : t.houses = s.houses) (bus : t.bus = s.bus)
    (survey : t.survey = s.survey) (meter : t.feeder.meter = s.feeder.meter) (events : t.eventQueue = s.eventQueue)
    (surveyEnd : t.work.surveyEnd = true → s.work.surveyEnd = true)
    (notices : ∀ h : House, s.work.notices[h] = true → t.work.notices[h] = true) : Quiet s t :=
  ⟨standing, pumps, queue, fun _ => by rw [houses], bus, survey, fun _ => meter, surveyEnd, notices, by rw [events],
    by rw [events]; exact id⟩

theorem quiet_raise (k : EventKind) (a : Option House) (b : Option Pump) (c : Option Tank) (v w : Nat) (s : State) :
    Quiet s (raise k a b c v w s) :=
  have h := raise_on k a b c v w (Follows.refl s)
  ⟨rfl, rfl, rfl, fun _ => rfl, rfl, rfl, fun _ => rfl, id, fun _ => id, h.records, h.bounded⟩

theorem quiet_updHouse (k : House) (f : HouseLive → HouseLive)
    (hf : ∀ r, houseSettings (f r) = houseSettings r ∧ (f r).dutyList = r.dutyList) (s : State) :
    Quiet s (updHouse k f s) := by
  refine ⟨(updHouse_on k f (fun r => (hf r).1) (Follows.refl s)).standing, rfl, rfl, fun h => ?_, rfl, rfl, fun _ => rfl, id,
    fun _ => id, List.prefix_refl _, id⟩
  simp only [updHouse_houses, Fin.getElem_fin, Vector.getElem_set]
  split
  · next e => simp only [(hf _).2, e]
  · rfl

/-- A house's notice handed on. -/
theorem quiet_notice (k : House) (s : State) : Quiet s (notice k s) :=
  .of_parts rfl rfl rfl rfl rfl rfl rfl rfl id fun h hn => by
    simp only [notice, Fin.getElem_fin, Vector.getElem_set]
    split
    · rfl
    · exact hn

theorem quiet_resum (s : State) : Quiet s (resum s) := .of_parts rfl rfl rfl rfl rfl rfl rfl rfl id fun _ => id

theorem quiet_callShedTest (s : State) : Quiet s (callShedTest s) := .of_parts rfl rfl rfl rfl rfl rfl rfl rfl id fun _ => id

theorem quiet_triggerPass (s : State) : Quiet s (triggerPass s) := .of_parts rfl rfl rfl rfl rfl rfl rfl rfl id fun _ => id

/-! ### Stops -/

theorem issueStop_stirs (cause : StopCause) (q : Pump) (s : State)
    (hc : cause = .protect → loose ∨ Protects s (houseOf q)) : Stirs adopting loose s (issueStop cause q s) := by
  unfold issueStop
  split
  case h_1 run => exact .single (.stop cause q (.inl run))
  case h_2 start => exact .single (.stop cause q (.inr start))
  case h_3 ordered =>
    split
    · next protect =>
      cases flight : orderInFlight s q with
      | false => exact .single (.withdraw q ordered flight (hc (by simpa using protect)))
      | true =>
        unfold protectOrdered
        rw [if_pos flight]
        exact .single (.mark q (.inr ⟨ordered, flight⟩))
    · exact .refl
  case h_4 unconfirmed =>
    split
    · exact .single (.mark q (.inl unconfirmed))
    · exact .refl
  case h_5 stopping =>
    split
    · exact .single (.aggravate q stopping)
    · exact .refl
  all_goals exact .refl

theorem foldl_stirs {α : Type} (f : State → α → State) (xs : List α) (s : State)
    (hf : ∀ u, ∀ x ∈ xs, standing u = standing s → Stirs adopting loose u (f u x)) :
    Stirs adopting loose s (xs.foldl f s) := by
  induction xs generalizing s with
  | nil => exact .refl
  | cons x xs ih =>
    have first := hf s x List.mem_cons_self rfl
    refine first.trans (ih (f s x) fun u y hy hu => hf u y (List.mem_cons_of_mem _ hy) ?_)
    rw [hu, first.follows.standing]

/-! ### The shed test -/

theorem quiet_markEpisode (s : State) : Quiet s (markEpisode s) := by
  have opened (b : Bool) (k : EventKind) (v w : Nat) :
      Quiet s (raisePart k v w { s with feeder := { s.feeder with overCap := b } }) :=
    have h := raisePart_on k v w ((Follows.refl s).of_parts (u := { s with feeder := { s.feeder with overCap := b } })
      rfl rfl rfl rfl)
    ⟨rfl, rfl, rfl, fun _ => rfl, rfl, rfl, fun _ => rfl, id, fun _ => id, h.records, h.bounded⟩
  have same : Quiet s s := .of_parts rfl rfl rfl rfl rfl rfl rfl rfl id fun _ => id
  unfold markEpisode
  split
  · split
    · exact same
    · exact opened true _ _ _
  · split
    · exact opened false _ _ _
    · exact same

theorem protectOrdered_meter (q : Pump) (s : State) : (protectOrdered q s).feeder.meter = s.feeder.meter := by
  unfold protectOrdered
  split
  · rfl
  · simp [(actStopped_retires q _).meter, raisePump, withdrawStart, (undoAdmission_retires q _).meter]

theorem beginStop_meter (cause : StopCause) (q : Pump) (s : State) :
    (beginStop cause q s).feeder.meter = s.feeder.meter := by
  simp [beginStop, raisePump, joinOrder]

theorem issueStop_meter (cause : StopCause) (q : Pump) (s : State) :
    (issueStop cause q s).feeder.meter = s.feeder.meter := by
  unfold issueStop
  split
  case h_1 => exact beginStop_meter cause q s
  case h_2 => exact beginStop_meter cause q s
  case h_3 =>
    split
    · exact protectOrdered_meter q s
    · rfl
  case h_4 => split <;> rfl
  case h_5 => split <;> rfl
  all_goals rfl

/-- The phase leaves DUE. -/
theorem quiet_leaveDue (til : Option Nat) (due : s.feeder.meter.phase = .due) :
    Quiet s (updMeter (fun r => { r with phase := .settling, phaseUntil := til }) s) :=
  ⟨(updMeter_on _ (fun _ => rfl) (Follows.refl s)).standing, rfl, rfl, fun _ => rfl, rfl, rfl, fun h => absurd due h, id,
    fun _ => id, List.prefix_refl _, id⟩

theorem meterShed_stirs (s : State) : Stirs adopting loose s (meterShed s) := by
  unfold meterShed
  split
  · next due =>
    simp only [Bool.and_eq_true, beq_iff_eq] at due
    split
    · exact .refl
    · next p _ =>
      refine Stirs.quiet (Stirs.quiet (issueStop_stirs .meterShed p s (by simp)) (quiet_raise ..)) (quiet_leaveDue _ ?_)
      exact (congrArg MeterRecord.phase (issueStop_meter .meterShed p s)).trans due.1
  · exact .refl

theorem shedLoop_stirs (n : Nat) (s : State) : Stirs adopting loose s (shedLoop n s) := by
  induction n generalizing s with
  | zero => exact .refl
  | succ n ih =>
    unfold shedLoop
    split
    · split
      · exact .refl
      · next p _ => exact (Stirs.quiet (issueStop_stirs .shed p s (by simp)) (quiet_raise ..)).trans (ih _)
    · exact .refl

theorem shedTest_stirs (s : State) : Stirs adopting loose s (shedTest s) := by
  unfold shedTest
  split
  · exact .refl
  · exact (((quiet_markEpisode s).stirs.trans (meterShed_stirs _)).trans (shedLoop_stirs 8 _)).trans
      (quiet_markEpisode _).stirs

/-! ### An evaluation -/

theorem raiseHousePumps_stirs (h : House) (want : Nat) (s : State) :
    Stirs adopting loose s (raiseHousePumps h want s) := by
  refine foldl_stirs _ _ _ fun u q _ _ => ?_
  unfold raiseStep
  split
  · next c =>
    simp only [Bool.and_eq_true] at c
    exact .single (.queue q c.2)
  · exact .refl

theorem shortfallTest_stirs (h : House) (want : Nat) (s : State) : Stirs adopting loose s (shortfallTest h want s) := by
  unfold shortfallTest
  dsimp only
  split
  · split
    · exact .refl
    · exact Stirs.quiet (quiet_updHouse _ _ (fun _ => by constructor <;> rfl) s).stirs (quiet_raise ..)
  · exact (quiet_updHouse _ _ (fun _ => by constructor <;> rfl) s).stirs

theorem unqueue_stirs (q : Pump) (s : State) : Stirs adopting loose s (unqueue q s) := by
  by_cases queued : s.pumps[q].state = .queued
  · exact .single (.unqueue q queued)
  · rw [unqueue_of_ne queued]

theorem withdrawQueued_stirs (h : House) (want n : Nat) (s : State) :
    Stirs adopting loose s (withdrawQueued h want n s) := by
  induction n generalizing s with
  | zero => exact .refl
  | succ n ih =>
    unfold withdrawQueued
    split
    · split
      · exact .refl
      · exact (unqueue_stirs _ s).trans (ih _)
    · exact .refl

theorem protectHouse_stirs {h : House} {s : State} (protects : loose ∨ Protects s h) :
    Stirs adopting loose s (protectHouse h s) :=
  foldl_stirs _ _ _ fun u q hq hu => issueStop_stirs .protect q u fun _ => by
    rw [mem_pumpsOf.mp hq, protects_of_standing hu]
    exact protects

theorem isolateStop_stirs (h : House) (s : State) : Stirs adopting loose s (isolateStop h s) := by
  unfold isolateStop
  split
  · split
    · exact .refl
    · exact issueStop_stirs .isolate _ s (by simp)
  · exact .refl

theorem surplusStop_stirs (h : House) (want : Nat) {cause : StopCause} (hc : cause ≠ .protect) (s : State) :
    Stirs adopting loose s (surplusStop h want cause s) := by
  unfold surplusStop
  split
  · split
    · exact .refl
    · exact issueStop_stirs cause _ s fun e => absurd e hc
  · exact .refl

theorem lowerHouse_stirs {h : House} (want : Nat) {s : State} (inUse : loose ∨ houseInUse s h = true) :
    Stirs adopting loose s (lowerHouse h want s) := by
  unfold lowerHouse
  split
  · exact .refl
  · split
    · next protect => exact protectHouse_stirs (inUse.imp_right fun used => ⟨used, protect⟩)
    · next other => exact (isolateStop_stirs h s).trans (surplusStop_stirs h want other _)

/-- An evaluation up to its stops (R62). -/
def raised (h : House) (s : State) : State :=
  withdrawQueued h (wantOf s h).value 4
    (if inhibited s h then updHouse h (fun r => { r with want := (wantOf s h).value, limit := (wantOf s h).limit }) s
     else
      raiseHousePumps h (wantOf s h).value
        (updHouse h (fun r => { r with want := (wantOf s h).value, limit := (wantOf s h).limit }) s) |>
        shortfallTest h (wantOf s h).value)

theorem evaluateHouse_eq (h : House) (s : State) :
    evaluateHouse h s = lowerHouse h (wantOf s h).value (raised h s) := rfl

theorem raised_stirs (h : House) (s : State) : Stirs adopting loose s (raised h s) := by
  have stored := quiet_updHouse h
    (fun r => { r with want := (wantOf s h).value, limit := (wantOf s h).limit }) (fun _ => by constructor <;> rfl) s
  unfold raised
  refine Relation.ReflTransGen.trans ?_ (withdrawQueued_stirs h _ 4 _)
  split
  · exact stored.stirs
  · exact (stored.stirs.trans (raiseHousePumps_stirs h _ _)).trans (shortfallTest_stirs h _ _)

theorem evaluateHouse_stirs {h : House} {s : State} (inUse : loose ∨ houseInUse s h = true) :
    Stirs adopting loose s (evaluateHouse h s) := by
  have before : Stirs adopting loose s (raised h s) := raised_stirs h s
  rw [evaluateHouse_eq]
  refine before.trans (lowerHouse_stirs _ ?_)
  rwa [houseInUse_of_standing before.follows.standing]

/-! ### The end of the survey -/

theorem adoptAtSurveyEnd_stirs (q : Pump) (s : State) (allowed : adopting) :
    Stirs adopting loose s (adoptAtSurveyEnd s q) := by
  by_cases unconfirmed : s.pumps[q].state = .unconfirmed
  · exact .single (.adopt q allowed unconfirmed)
  · have same : adoptAtSurveyEnd s q = s := if_neg (by simp only [Bool.and_eq_true, beq_iff_eq]; tauto)
    rw [same]

theorem noticeAll_stirs (hs : List House) (s : State) : Stirs adopting loose s (noticeAll hs s) :=
  foldl_stirs _ _ _ fun u h _ _ => (quiet_notice h u).stirs

theorem endSurvey_stirs (s : State) (allowed : adopting) : Stirs adopting loose s (endSurvey s) := by
  unfold endSurvey
  dsimp only
  refine Relation.ReflTransGen.trans (b := (pumpsInUse s).foldl adoptAtSurveyEnd s)
    (foldl_stirs _ _ _ fun u q _ _ => adoptAtSurveyEnd_stirs q u allowed) ?_
  refine Relation.ReflTransGen.head (.surveyed allowed) ?_
  refine Stirs.quiet ((Stirs.quiet (Stirs.quiet ((Stirs.quiet .refl (quiet_raise ..)).trans
    (foldl_stirs _ _ _ fun u h _ _ => .single (.rebook h allowed))) (quiet_resum _)) (quiet_callShedTest _)).trans
    (noticeAll_stirs _ _)) (quiet_triggerPass _)

end

end Sys2Proof.Machine
end

section
/-! SUPPORT. The Start Queue through the work of an event (R92, R94): each step of it, and each admission, keeps the queue
holding the QUEUED pumps and no others. -/

namespace Sys2Proof.Machine

section
variable {q : Pump} {r : PumpLive} {s t u : State}

/-- A pump that turns to a record that is not QUEUED, its entry gone. -/
theorem QueueHoldsTheQueued.turned (h : QueueHoldsTheQueued s) (turned : Turned q r s t) (state : r.state ≠ .queued)
    (queue : t.feeder.queue = entriesBut q s.feeder.queue) : QueueHoldsTheQueued t :=
  h.left (p := q) (fun p hp => by rw [turned.state, if_neg (Ne.symm hp)]) (by rw [turned.state, if_pos rfl]; exact state)
    queue

/-! ### Stops -/

theorem stopActed_state (r : PumpLive) : (stopActed r).state = r.state ∨ (stopActed r).state = .faulted ∨
    (stopActed r).state = .isolated := by
  have acted (r : PumpLive) : (isolateActed r).state = r.state ∨ (isolateActed r).state = .isolated := by
    unfold isolateActed
    split
    · exact .inr rfl
    · exact .inl rfl
  unfold stopActed
  split
  · rcases acted { outRecord .faulted (some _) r with faultPending := none } with e | e
    · exact .inr (.inl e)
    · exact .inr (.inr e)
  · rcases acted r with e | e
    · exact .inl e
    · exact .inr (.inr e)

theorem stopActed_unqueued (hr : r.state ≠ .queued) : (stopActed r).state ≠ .queued := by
  rcases stopActed_state r with e | e | e <;> rw [e]
  · exact hr
  all_goals exact PumpState.noConfusion

theorem unqueue_queue (queued : s.pumps[q].state = .queued) :
    (unqueue q s).feeder.queue = entriesBut q s.feeder.queue := by
  unfold unqueue
  rw [if_pos (by simpa using queued), pumpChanged_queue]
  have left : (updPump q (fun r => { r with state := .ready, admittedM := none, stopCause := none })
      (leaveStartQueue q s)).feeder.queue = entriesBut q s.feeder.queue := rfl
  rcases (actStopped_retires q _).queue with e | e <;> rw [e, left]
  exact entriesBut_entriesBut _ _

theorem QueueHoldsTheQueued.unqueue (h : QueueHoldsTheQueued s) (q : Pump) : QueueHoldsTheQueued (unqueue q s) := by
  by_cases queued : s.pumps[q].state = .queued
  · exact h.turned (unqueue_turned q s queued) (stopActed_unqueued PumpState.noConfusion) (unqueue_queue queued)
  · rwa [unqueue_of_ne queued]

/-! ### A pump queued -/

theorem insertStart_perm (s : State) (n : StartEntry) (es : List StartEntry) : (insertStart s n es).Perm (n :: es) := by
  induction es with
  | nil => exact .refl _
  | cons e es ih =>
    unfold insertStart
    split
    · exact .refl _
    · exact (ih.cons e).trans (.swap n e es)

/-- Renumbering moves no entry (R93). -/
theorem startsBeforeJoin_ids (s : State) : (startsBeforeJoin s).map (fun e => (e.pump, e.house)) =
    s.feeder.queue.map fun e => (e.pump, e.house) := by
  unfold startsBeforeJoin
  split
  · simp [renumberStarts, Function.comp_def]
  · rfl

/-- Whether the queue holds the QUEUED, by the pumps and houses of its entries, in any order. -/
theorem QueueHoldsTheQueued.of_ids {ids : List (Pump × House)}
    (perm : (s.feeder.queue.map fun e => (e.pump, e.house)).Perm ids)
    (entries : ∀ i ∈ ids, s.pumps[i.1].state = .queued ∧ i.2 = houseOf i.1)
    (pumps : ∀ p : Pump, s.pumps[p].state = .queued → ∃ i ∈ ids, i.1 = p) (nodup : (ids.map Prod.fst).Nodup) :
    QueueHoldsTheQueued s := by
  refine ⟨fun e he => ?_, fun p hp => ?_, ?_⟩
  · exact entries (e.pump, e.house) (perm.mem_iff.mp (List.mem_map.mpr ⟨e, he, rfl⟩))
  · obtain ⟨i, hi, rfl⟩ := pumps p hp
    obtain ⟨e, he, rfl⟩ := List.mem_map.mp (perm.mem_iff.mpr hi)
    exact ⟨e, he, rfl⟩
  · have := (perm.map Prod.fst).nodup_iff.mpr nodup
    simpa [Function.comp_def] using this

theorem QueueHoldsTheQueued.ids (h : QueueHoldsTheQueued s) :
    (∀ i ∈ s.feeder.queue.map fun e => (e.pump, e.house), s.pumps[i.1].state = .queued ∧ i.2 = houseOf i.1) ∧
    (∀ p : Pump, s.pumps[p].state = .queued → ∃ i ∈ s.feeder.queue.map fun e => (e.pump, e.house), i.1 = p) ∧
    ((s.feeder.queue.map fun e => (e.pump, e.house)).map Prod.fst).Nodup := by
  obtain ⟨entries, pumps, nodup⟩ := h
  refine ⟨fun i hi => ?_, fun p hp => ?_, by simpa [Function.comp_def] using nodup⟩
  · obtain ⟨e, he, rfl⟩ := List.mem_map.mp hi
    exact entries e he
  · obtain ⟨e, he, rfl⟩ := pumps p hp
    exact ⟨_, List.mem_map.mpr ⟨e, he, rfl⟩, rfl⟩

theorem queuePump_ids (q : Pump) (s : State) :
    ((queuePump q s).feeder.queue.map fun e => (e.pump, e.house)).Perm
      ((q, houseOf q) :: s.feeder.queue.map fun e => (e.pump, e.house)) := by
  have perm := (insertStart_perm s { pump := q, house := houseOf q, seq := s.feeder.nextSeq, enqueued := now s }
    (startsBeforeJoin s)).map fun e => (e.pump, e.house)
  rw [List.map_cons, startsBeforeJoin_ids] at perm
  unfold queuePump
  rw [pumpChanged_queue]
  exact perm

theorem QueueHoldsTheQueued.queuePump (h : QueueHoldsTheQueued s) (idle : s.pumps[q].state ≠ .queued) :
    QueueHoldsTheQueued (queuePump q s) := by
  obtain ⟨entries, pumps, nodup⟩ := h.ids
  refine QueueHoldsTheQueued.of_ids (queuePump_ids q s) (fun i hi => ?_) (fun p hp => ?_) ?_
  · rw [(queuePump_turned q s).state]
    rcases List.mem_cons.mp hi with rfl | hi
    · exact ⟨if_pos rfl, rfl⟩
    · have := entries i hi
      have apart : q ≠ i.1 := by
        rintro rfl
        exact idle this.1
      rw [if_neg apart]
      exact this
  · rw [(queuePump_turned q s).state] at hp
    by_cases e : q = p
    · exact ⟨_, List.mem_cons_self, e⟩
    · rw [if_neg e] at hp
      obtain ⟨i, hi, rfl⟩ := pumps p hp
      exact ⟨i, List.mem_cons_of_mem _ hi, rfl⟩
  · rw [List.map_cons, List.nodup_cons]
    refine ⟨fun hm => ?_, nodup⟩
    obtain ⟨i, hi, e⟩ := List.mem_map.mp hm
    have own : i.1 = q := e
    exact idle (own ▸ (entries i hi).1)

/-! ### An admission -/

theorem rebook_queue {sums : State → State} (hs : Sums sums) (h : House) (s : State) :
    (rebook sums h s).feeder.queue = s.feeder.queue := by
  obtain ⟨_, _, _, _, _, eq⟩ := (rebook_bookings hs h s).writes
  rw [eq]

/-- The record of an admitted pump (R40). -/
def admittedRecord (s : State) (p : Pump) : PumpLive :=
  admittedFields (now s) (freePermit s) (bookingCount s (houseOf p) + 1) (chargeS s p (bookingCount s (houseOf p) + 1))
    s.pumps[p]

/-- An admitted pump, its house re-booked (R89, R98). -/
theorem admitPump_turned (q : Pump) (s : State) : Turned q (admittedRecord s q) s (admitPump q s) := by
  intro p
  unfold admitPump
  dsimp only
  generalize eo : updPump q _ (leaveStartQueue q s) = ordered
  generalize er : (if houseRuns s (houseOf q) then ordered else rotateLead q ordered) = rotated
  have pumps : (resumQuietly rotated).pumps = s.pumps.set q (admittedRecord s q) := by
    rw [resumQuietly_pumps, ← er, ← eo]
    split <;> rfl
  have written (t : State) : (raisePump .admitted q (needOf s q).toNat ((freePermit s).getD 65535)
      (joinOrder q .start (notice (houseOf q) t))).pumps = t.pumps := by simp [raisePump, joinOrder]
  have banks (t : State) : (raisePump .admitted q (needOf s q).toNat ((freePermit s).getD 65535)
      (joinOrder q .start (notice (houseOf q) t))).banks = t.banks := by simp [raisePump, joinOrder]
  rw [rebooked_congr (SameStates.of_pumps (written _)) (banks _),
    rebooked_congr (rebook_states sums_resumQuietly _ _) (rebook_bookings sums_resumQuietly _ _).banks,
    ← get_of_set pumps, ← rebook_get sums_resumQuietly]
  simp only [written]

theorem admitPump_queue (q : Pump) (s : State) : (admitPump q s).feeder.queue = entriesBut q s.feeder.queue := by
  unfold admitPump
  simp only [raisePump, raise_feeder, joinOrder, joinTransmit_feeder, notice_feeder]
  rw [rebook_queue sums_resumQuietly]
  split <;> rfl

theorem QueueHoldsTheQueued.admitPump (h : QueueHoldsTheQueued s) (q : Pump) : QueueHoldsTheQueued (admitPump q s) :=
  h.turned (admitPump_turned q s) PumpState.noConfusion (admitPump_queue q s)

/-! ### The survey's end -/

theorem beginStop_handles (c : StopCause) (p : Pump) (s : State) : Handles p s (beginStop c p s) :=
  ((((Handles.refl p s).releasePermit.updPump _ (by simp)).joinTransmit _ _ _).pumpChanged).raise _ _ _

theorem withdrawStart_handles (p : Pump) (s : State) : Handles p s (withdrawStart p s) := by
  have withdrawn : Handles p s (withdrawOrder p s) := Handles.of_pumps rfl rfl
  unfold withdrawStart undoAdmission
  exact withdrawn.releasePermit.updPump _ (by simp)

theorem protectOrdered_handles (p : Pump) (s : State) : Handles p s (protectOrdered p s) := by
  unfold protectOrdered
  split
  · exact (Handles.refl p s).updPump _ (by simp)
  · exact ((((withdrawStart_handles p s).updPump _ (by simp)).raise _ _ _).trans (actStopped_handles p _)).pumpChanged

theorem issueStop_handles (c : StopCause) (p : Pump) (s : State) : Handles p s (issueStop c p s) := by
  have same := Handles.refl p s
  unfold issueStop
  split
  case h_1 => exact beginStop_handles c p s
  case h_2 => exact beginStop_handles c p s
  case h_3 =>
    split
    · exact protectOrdered_handles p s
    · exact same
  case h_4 =>
    split
    · exact same.updPump _ (by simp)
    · exact same
  case h_5 =>
    split
    · exact same.updPump _ (by simp)
    · exact same
  all_goals exact same

theorem actStarted_handles (p : Pump) (s : State) : Handles p s (actStarted p s) := by
  unfold actStarted
  dsimp only
  split
  · exact ((Handles.refl p s).updPump _ (by simp)).trans (issueStop_handles _ p _)
  · exact Handles.refl p s

theorem faultFromReport_handles (p : Pump) (c : FaultCause) (s : State) : Handles p s (faultFromReport p c s) :=
  (enterFaulted_handles p s c).pumpChanged

theorem localFromReport_handles (p : Pump) (s : State) : Handles p s (localFromReport p s) :=
  (enterLocal_handles p s).pumpChanged

theorem adoptSurveyed_handles (p : Pump) (rep : Reported) (s : State) : Handles p s (adoptSurveyed p rep s) := by
  have same := Handles.refl p s
  unfold adoptSurveyed
  dsimp only
  split
  · refine Handles.trans (Handles.raise (Handles.pumpChanged (same.updPump _ ?_)) _ _ _) (actStarted_handles p _)
    simp [adoptedFields]
  · refine Handles.pumpChanged (Handles.trans (Handles.raise (same.releasePermit.updPump _ ?_) _ _ _) (actStopped_handles p _))
    simp
  · exact (faultFromReport_handles p _ s).raise _ _ _
  · exact (localFromReport_handles p s).raise _ _ _

theorem adoptAtSurveyEnd_handles (p : Pump) (s : State) : Handles p s (adoptAtSurveyEnd s p) := by
  unfold adoptAtSurveyEnd
  dsimp only
  split
  · split
    · exact Handles.refl p s
    · exact adoptSurveyed_handles p _ s
  · exact Handles.refl p s

/-! ### The steps of the work -/

/-- Every step of the work keeps the Start Queue. -/
theorem Stir.queued {adopting loose : Prop} (step : Stir adopting loose s t) (h : QueueHoldsTheQueued s) :
    QueueHoldsTheQueued t := by
  cases step with
  | quiet quiet => exact h.congr (SameStates.of_pumps quiet.pumps) quiet.queue
  | stop c q running => exact (beginStop_handles c q s).keeps (by rcases running with e | e <;> rw [e] <;> exact PumpState.noConfusion) h
  | withdraw q ordered _ _ => exact (protectOrdered_handles q s).keeps (by rw [ordered]; exact PumpState.noConfusion) h
  | mark q held =>
    exact ((Handles.refl q s).updPump _ (by simp)).keeps
      (by rcases held with e | ⟨e, -⟩ <;> rw [e] <;> exact PumpState.noConfusion) h
  | aggravate q stopping =>
    exact ((Handles.refl q s).updPump _ (by simp)).keeps (by rw [stopping]; exact PumpState.noConfusion) h
  | queue q ready =>
    refine h.queuePump ?_
    simp only [eligible, Bool.and_eq_true, beq_iff_eq] at ready
    rw [ready.1]
    exact PumpState.noConfusion
  | unqueue q _ => exact h.unqueue q
  | adopt q _ unconfirmed =>
    exact (adoptAtSurveyEnd_handles q s).keeps (by rw [unconfirmed]; exact PumpState.noConfusion) h
  | rebook k _ => exact h.congr (rebook_states sums_resum k s) (rebook_queue sums_resum k s)
  | surveyed _ => exact h.congr (fun _ => rfl) rfl

theorem Stirs.queued {adopting loose : Prop} (run : Stirs adopting loose s t) (h : QueueHoldsTheQueued s) :
    QueueHoldsTheQueued t := by
  induction run with
  | refl => exact h
  | tail _ step ih => exact step.queued ih

end

end Sys2Proof.Machine
end

section
/-! SUPPORT. The work of an event as an invariant sees it (R62, R82, R96, R101): steps, and admissions of QUEUED pumps. A
house that calls for PROTECT stops and has been told so has no admission before it is evaluated, and none after (R97). -/

namespace Sys2Proof.Machine

/-- A house that calls for PROTECT stops is about to be evaluated, or has no QUEUED pump. -/
def Guarded (g : House) (s : State) : Prop :=
  Protects s g → s.work.notices[g] = true ∨ ∀ q : Pump, houseOf q = g → s.pumps[q].state ≠ .queued

/-! ### Notices -/

/-- No notice is taken back. -/
def Louder (s t : State) : Prop := ∀ g : House, s.work.notices[g] = true → t.work.notices[g] = true

section
variable {p q : Pump} {s t u : State}

theorem Louder.refl (s : State) : Louder s s := fun _ => id
theorem Louder.trans (a : Louder s t) (b : Louder t u) : Louder s u := fun g h => b g (a g h)
theorem Louder.of_eq (h : t.work.notices = s.work.notices) : Louder s t := fun g => by rw [h]; exact id

theorem Louder.changed (a : Louder s t) (p : Pump) : Louder s (pumpChanged p t) := a.trans fun g h => by
  rw [pumpChanged_notices]
  simp only [Fin.getElem_fin, Vector.getElem_set]
  split
  · rfl
  · exact h

theorem Louder.upd (a : Louder s t) (p : Pump) (f : PumpLive → PumpLive) : Louder s (updPump p f t) := a

theorem Louder.raised (a : Louder s t) (k : EventKind) (p : Pump) (v w : Nat) : Louder s (raisePump k p v w t) := a

theorem Louder.retired (a : Louder s t) (r : Retires p t u) : Louder s u := a.trans (Louder.of_eq r.notices)

theorem Louder.released (a : Louder s t) (p : Pump) : Louder s (releasePermit p t) :=
  a.trans (Louder.of_eq (releasePermit_notices p t))

theorem pumpChanged_notice (p : Pump) (s : State) : (pumpChanged p s).work.notices[houseOf p] = true := by
  rw [pumpChanged_notices]
  simp

theorem beginStop_louder (c : StopCause) (p : Pump) (s : State) : Louder s (beginStop c p s) := by
  refine Louder.raised (Louder.changed (Louder.of_eq ?_) p) _ p _ _
  simp [joinOrder]

theorem protectOrdered_louder (p : Pump) (s : State) : Louder s (protectOrdered p s) := by
  unfold protectOrdered
  split
  · exact Louder.refl s
  · refine Louder.changed (Louder.retired (Louder.raised (Louder.upd (Louder.of_eq ?_) p _) _ p _ _) (actStopped_retires p _)) p
    simp [withdrawStart, (undoAdmission_retires p _).notices, withdrawOrder]

theorem issueStop_louder (c : StopCause) (p : Pump) (s : State) : Louder s (issueStop c p s) := by
  have same := Louder.refl s
  unfold issueStop
  split
  case h_1 => exact beginStop_louder c p s
  case h_2 => exact beginStop_louder c p s
  case h_3 =>
    split
    · exact protectOrdered_louder p s
    · exact same
  case h_4 => split <;> exact same
  case h_5 => split <;> exact same
  all_goals exact same

theorem actStarted_louder (p : Pump) (s : State) : Louder s (actStarted p s) := by
  unfold actStarted
  dsimp only
  split
  · exact Louder.trans ((Louder.refl s).upd p _) (issueStop_louder _ p _)
  · exact Louder.refl s

theorem adoptSurveyed_louder (p : Pump) (rep : Reported) (s : State) : Louder s (adoptSurveyed p rep s) := by
  have same := Louder.refl s
  unfold adoptSurveyed
  dsimp only
  split
  · exact Louder.trans (((same.upd p _).changed p).raised _ p _ _) (actStarted_louder p _)
  · exact Louder.changed (Louder.retired (((same.released p).upd p _).raised _ p _ _) (actStopped_retires p _)) p
  · exact Louder.raised (Louder.changed (same.retired (enterFaulted_retires p _ _)) p) _ p _ _
  · exact Louder.raised (Louder.changed (same.retired (enterLocal_retires p _)) p) _ p _ _

theorem adoptAtSurveyEnd_louder (p : Pump) (s : State) : Louder s (adoptAtSurveyEnd s p) := by
  unfold adoptAtSurveyEnd
  dsimp only
  split
  · split
    · exact Louder.refl s
    · exact adoptSurveyed_louder p _ s
  · exact Louder.refl s

theorem unqueue_louder (p : Pump) (s : State) : Louder s (unqueue p s) := by
  have left : Louder s (leaveStartQueue p s) := Louder.of_eq rfl
  unfold unqueue
  split
  · exact ((left.upd p _).retired (actStopped_retires p _)).changed p
  · exact Louder.refl s

theorem queuePump_louder (p : Pump) (s : State) : Louder s (queuePump p s) := by
  have joined : Louder s (joinStart p s) := Louder.of_eq rfl
  exact (joined.upd p _).changed p

theorem rebook_notices {sums : State → State} (hs : Sums sums) (h : House) (s : State) :
    (rebook sums h s).work.notices = s.work.notices := by
  obtain ⟨_, _, _, _, _, eq⟩ := (rebook_bookings hs h s).writes
  rw [eq]

theorem admitPump_louder (p : Pump) (s : State) : Louder s (admitPump p s) := fun g h => by
  unfold admitPump
  dsimp only
  simp only [raisePump, raise_work, joinOrder, joinTransmit_work, notice, rebook_notices sums_resumQuietly, Fin.getElem_fin,
    Vector.getElem_set]
  split
  · rfl
  · split <;> exact h

theorem Stir.louder {adopting loose : Prop} (step : Stir adopting loose s t) : Louder s t := by
  cases step with
  | quiet quiet => exact quiet.notices
  | stop c q _ => exact beginStop_louder c q s
  | withdraw q _ _ _ => exact protectOrdered_louder q s
  | mark q _ => exact Louder.of_eq rfl
  | aggravate q _ => exact Louder.of_eq rfl
  | queue q _ => exact queuePump_louder q s
  | unqueue q _ => exact unqueue_louder q s
  | adopt q _ _ => exact adoptAtSurveyEnd_louder q s
  | rebook k _ => exact Louder.of_eq (rebook_notices sums_resum k s)
  | surveyed _ => exact Louder.refl s

/-! ### Guarded houses -/

/-- A pump that a step queues has its house evaluated. -/
theorem Stir.newly {adopting loose : Prop} (step : Stir adopting loose s t) (p : Pump) (hp : t.pumps[p].state = .queued) :
    s.pumps[p].state = .queued ∨ t.work.notices[houseOf p] = true := by
  have handled {q : Pump} {t : State} (handles : Handles q s t) (hp : t.pumps[p].state = .queued) :
      s.pumps[p].state = .queued := by
    by_cases e : p = q
    · subst e
      by_contra hn
      exact handles.unqueued hn hp
    · rwa [handles.others p e] at hp
  cases step with
  | quiet quiet => exact .inl (by rwa [quiet.pumps] at hp)
  | stop c q _ => exact .inl (handled (beginStop_handles c q s) hp)
  | withdraw q _ _ _ => exact .inl (handled (protectOrdered_handles q s) hp)
  | mark q _ => exact .inl (handled (q := q) ((Handles.refl q s).updPump _ (by simp)) hp)
  | aggravate q _ => exact .inl (handled (q := q) ((Handles.refl q s).updPump _ (by simp)) hp)
  | queue q _ =>
    rw [(queuePump_turned q s).state] at hp
    split at hp
    · next e =>
      subst e
      exact .inr (pumpChanged_notice q _)
    · exact .inl hp
  | unqueue q queued =>
    rw [(unqueue_turned q s queued).state] at hp
    split at hp
    · exact absurd hp (stopActed_unqueued PumpState.noConfusion)
    · exact .inl hp
  | adopt q _ _ => exact .inl (handled (adoptAtSurveyEnd_handles q s) hp)
  | rebook k _ => exact .inl (by rwa [rebook_states sums_resum k s p] at hp)
  | surveyed _ => exact .inl hp

theorem Guarded.of_parts {g : House} (h : Guarded g s) (standing : standing t = standing s) (louder : Louder s t)
    (newly : ∀ p : Pump, t.pumps[p].state = .queued → s.pumps[p].state = .queued ∨ t.work.notices[houseOf p] = true) :
    Guarded g t := fun protects => by
  rcases h ((protects_of_standing standing g).mp protects) with notice | none
  · exact .inl (louder g notice)
  · by_cases told : t.work.notices[g] = true
    · exact .inl told
    · refine .inr fun q hq queued => ?_
      rcases newly q queued with e | e
      · exact none q hq e
      · exact told (hq ▸ e)

theorem Stir.guarded {adopting loose : Prop} {g : House} (step : Stir adopting loose s t) (h : Guarded g s) :
    Guarded g t := h.of_parts step.follows.standing step.louder step.newly

theorem Stirs.guarded {adopting loose : Prop} {g : House} (run : Stirs adopting loose s t) (h : Guarded g s) :
    Guarded g t := by
  induction run with
  | refl => exact h
  | tail _ step ih => exact step.guarded ih

theorem admitPump_guarded {g : House} (h : Guarded g s) (q : Pump) : Guarded g (admitPump q s) :=
  h.of_parts (admit_on q (Follows.refl s)).standing (admitPump_louder q s) fun p hp => by
    rw [(admitPump_turned q s).state] at hp
    split at hp
    · cases hp
    · exact .inl hp

/-! ### The survey's end is called for by an answer alone -/

theorem beginStop_surveyEnd (c : StopCause) (q : Pump) (s : State) :
    (beginStop c q s).work.surveyEnd = s.work.surveyEnd := by
  simp [beginStop, raisePump, joinOrder]

theorem protectOrdered_surveyEnd (q : Pump) (s : State) : (protectOrdered q s).work.surveyEnd = s.work.surveyEnd := by
  unfold protectOrdered
  split
  · rfl
  · rw [pumpChanged_surveyEnd, (actStopped_retires q _).surveyEnd]
    simp [raisePump, withdrawStart, (undoAdmission_retires q _).surveyEnd, withdrawOrder]

theorem unqueue_surveyEnd (q : Pump) (s : State) : (unqueue q s).work.surveyEnd = s.work.surveyEnd := by
  unfold unqueue
  split
  · rw [pumpChanged_surveyEnd, (actStopped_retires q _).surveyEnd]
    rfl
  · rfl

theorem queuePump_surveyEnd (q : Pump) (s : State) : (queuePump q s).work.surveyEnd = s.work.surveyEnd :=
  pumpChanged_surveyEnd q _

theorem admitPump_surveyEnd (q : Pump) (s : State) : (admitPump q s).work.surveyEnd = s.work.surveyEnd := by
  unfold admitPump
  obtain ⟨_, _, _, _, _, eq⟩ := (rebook_bookings sums_resumQuietly (houseOf q) (resumQuietly
    (if houseRuns s (houseOf q) then
      updPump q (admittedFields (now s) (freePermit s) (bookingCount s (houseOf q) + 1)
        (chargeS s q (bookingCount s (houseOf q) + 1))) (leaveStartQueue q s)
    else rotateLead q (updPump q (admittedFields (now s) (freePermit s) (bookingCount s (houseOf q) + 1)
        (chargeS s q (bookingCount s (houseOf q) + 1))) (leaveStartQueue q s))))).writes
  dsimp only
  rw [eq]
  simp only [raisePump, raise_work, joinOrder, joinTransmit_work, notice]
  split <;> rfl

theorem Stir.surveyEnd {adopting loose : Prop} (step : Stir adopting loose s t) (closed : ¬adopting)
    (h : s.work.surveyEnd = false) : t.work.surveyEnd = false := by
  cases step with
  | quiet quiet =>
    cases e : t.work.surveyEnd with
    | false => rfl
    | true => rw [quiet.surveyEnd e] at h; exact h
  | stop c q _ => rwa [beginStop_surveyEnd]
  | withdraw q _ _ _ => rwa [protectOrdered_surveyEnd]
  | mark q _ => exact h
  | aggravate q _ => exact h
  | queue q _ => rwa [queuePump_surveyEnd]
  | unqueue q _ => rwa [unqueue_surveyEnd]
  | adopt q allowed _ => exact absurd allowed closed
  | rebook k allowed => exact absurd allowed closed
  | surveyed allowed => exact absurd allowed closed

end

end Sys2Proof.Machine
end

section
/-! SUPPORT. The work of an event keeps an invariant that its steps and its admissions keep; and a house that calls for
PROTECT stops has no QUEUED pump once it has been evaluated (R63, R69). -/

namespace Sys2Proof.Machine

section
variable {g h : House} {s t u : State}

/-! ### The evaluation of a house that calls for PROTECT stops -/

theorem wantOf_protects (protects : stopCauseFor s h = .protect) : (wantOf s h).value = 0 := by
  have held : (holdingLimit s h).isSome := by
    unfold stopCauseFor at protects
    unfold holdingLimit
    split at protects
    · next c =>
      simp only [Bool.or_eq_true] at c
      grind
    · split at protects <;> cases protects
  unfold wantOf
  split
  · rfl
  · next none => rw [none] at held; cases held

theorem raiseHousePumps_zero (h : House) (s : State) : raiseHousePumps h 0 s = s := by
  unfold raiseHousePumps
  have walk : ∀ ps : List Pump, ps.foldl (raiseStep h 0) s = s := by
    intro ps
    induction ps with
    | nil => rfl
    | cons p ps ih => rwa [List.foldl_cons, raiseStep, if_neg (by simp)]
  exact walk _

/-- The QUEUED pumps of a house. -/
abbrev queuedIn (s : State) (h : House) : List Pump := pumpsIn s h fun st => st == .queued

theorem mem_queuedIn {p : Pump} : p ∈ queuedIn s h ↔ houseOf p = h ∧ s.pumps[p].state = .queued := by
  simp [pumpsIn, mem_pumpsOf]

theorem youngestQueued_mem {e : StartEntry} (he : youngestQueued s h = some e) : e ∈ s.feeder.queue ∧ e.house = h := by
  have walk : ∀ (es : List StartEntry) (b : Option StartEntry), (∀ d, b = some d → d ∈ s.feeder.queue ∧ d.house = h) →
      (∀ d ∈ es, d ∈ s.feeder.queue ∧ d.house = h) →
      es.foldl (fun best e => match best with
        | none => some e
        | some b => if startAge s e < startAge s b then some e else some b) b = some e →
      e ∈ s.feeder.queue ∧ e.house = h := by
    intro es
    induction es with
    | nil => exact fun b hb _ e => hb _ e
    | cons d es ih =>
      intro b hb hes
      rw [List.foldl_cons]
      refine ih _ (fun x hx => ?_) fun x hx => hes x (List.mem_cons_of_mem _ hx)
      have hd := hes d List.mem_cons_self
      cases b with
      | none => cases hx; exact hd
      | some b =>
        dsimp only at hx
        split at hx <;> cases hx
        · exact hd
        · exact hb _ rfl
  refine walk _ none (by simp) (fun d hd => ?_) he
  simpa using List.mem_filter.mp hd

theorem youngestQueued_none (hn : youngestQueued s h = none) : ∀ e ∈ s.feeder.queue, e.house ≠ h := by
  have walk : ∀ (es : List StartEntry) (b : Option StartEntry),
      es.foldl (fun best e => match best with
        | none => some e
        | some b => if startAge s e < startAge s b then some e else some b) b = none → b = none ∧ es = [] := by
    intro es
    induction es with
    | nil => exact fun b hb => ⟨hb, rfl⟩
    | cons d es ih =>
      intro b hb
      rw [List.foldl_cons] at hb
      have := (ih _ hb).1
      cases b with
      | none => cases this
      | some b => dsimp only at this; split at this <;> cases this
  have empty := (walk _ none hn).2
  intro e he house
  have : e ∈ s.feeder.queue.filter fun e => e.house == h := List.mem_filter.mpr ⟨he, by simpa using house⟩
  rw [empty] at this
  cases this

theorem queuedIn_unqueue {p : Pump} (hp : p ∈ queuedIn s h) :
    (queuedIn (unqueue p s) h).length < (queuedIn s h).length := by
  obtain ⟨house, queued⟩ := mem_queuedIn.mp hp
  have turned := unqueue_turned p s queued
  have idle : (unqueue p s).pumps[p].state ≠ .queued := by
    rw [turned.state, if_pos rfl]
    exact stopActed_unqueued PumpState.noConfusion
  have sub : (queuedIn (unqueue p s) h).Sublist (queuedIn s h) := by
    refine List.monotone_filter_right _ fun q hq => ?_
    simp only [beq_iff_eq] at hq ⊢
    rw [turned.state] at hq
    split at hq
    · next e =>
      subst e
      exact queued
    · exact hq
  refine lt_of_le_of_ne sub.length_le fun e => ?_
  have same := sub.eq_of_length e
  rw [← same, mem_queuedIn] at hp
  exact idle hp.2

theorem withdrawQueued_none (n : Nat) (hq : QueueHoldsTheQueued s) (few : (queuedIn s h).length ≤ n) :
    queuedIn (withdrawQueued h 0 n s) h = [] := by
  induction n generalizing s with
  | zero => exact List.length_eq_zero_iff.mp (Nat.le_zero.mp few)
  | succ n ih =>
    unfold withdrawQueued
    split
    · split
      · next none =>
        rw [List.eq_nil_iff_forall_not_mem]
        intro p hp
        obtain ⟨house, queued⟩ := mem_queuedIn.mp hp
        obtain ⟨e, he, rfl⟩ := hq.2.1 p queued
        exact youngestQueued_none none e he ((hq.1 e he).2.trans house)
      · next e he =>
        obtain ⟨mem, house⟩ := youngestQueued_mem he
        obtain ⟨queued, own⟩ := hq.1 e mem
        refine ih (hq.unqueue e.pump) ?_
        have := queuedIn_unqueue (mem_queuedIn.mpr ⟨own.symm.trans house, queued⟩)
        omega
    · next none =>
      have zero : onCount s h = 0 := by omega
      rw [List.eq_nil_iff_forall_not_mem]
      intro p hp
      obtain ⟨house, queued⟩ := mem_queuedIn.mp hp
      have : p ∈ pumpsIn s h countsOn := List.mem_filter.mpr ⟨mem_pumpsOf.mpr house, by rw [queued]; rfl⟩
      rw [onCount, List.length_eq_zero_iff] at zero
      rw [zero] at this
      cases this

theorem pumpsOf_length : ∀ h : House, (pumpsOf h).length = 4 := by decide

theorem lowerHouse_unqueued {p : Pump} (want : Nat) (protects : stopCauseFor s h = .protect)
    (hp : s.pumps[p].state ≠ .queued) : (lowerHouse h want s).pumps[p].state ≠ .queued := by
  have walk : ∀ (qs : List Pump) (s : State), s.pumps[p].state ≠ .queued →
      (qs.foldl (fun s q => issueStop .protect q s) s).pumps[p].state ≠ .queued := by
    intro qs
    induction qs with
    | nil => exact fun s hp => hp
    | cons q qs ih =>
      intro s hp
      refine ih _ ?_
      have handles := issueStop_handles .protect q s
      by_cases e : p = q
      · subst e
        exact handles.unqueued hp
      · rwa [handles.others p e]
  unfold lowerHouse
  split
  · exact hp
  · rw [protects]
    exact walk _ s hp

/-- A house that calls for PROTECT stops is left with no QUEUED pump by its evaluation. -/
theorem evaluateHouse_protects (hq : QueueHoldsTheQueued s) (protects : stopCauseFor s h = .protect) (p : Pump)
    (house : houseOf p = h) : (evaluateHouse h s).pumps[p].state ≠ .queued := by
  have run : Stirs False True s (raised h s) := raised_stirs h s
  rw [evaluateHouse_eq]
  refine lowerHouse_unqueued _ ((stopCauseFor_of_standing run.follows.standing h).trans protects) fun queued => ?_
  unfold raised at queued
  rw [wantOf_protects protects, raiseHousePumps_zero] at queued
  have none (t : State) (ht : QueueHoldsTheQueued t) (queued : (withdrawQueued h 0 4 t).pumps[p].state = .queued) : False := by
    have few : (queuedIn t h).length ≤ 4 := (List.length_filter_le _ _).trans (pumpsOf_length h).le
    have mem := mem_queuedIn.mpr ⟨house, queued⟩
    rw [withdrawQueued_none 4 ht few] at mem
    cases mem
  refine none _ ?_ queued
  have stored (f : HouseLive → HouseLive) : QueueHoldsTheQueued (updHouse h f s) := hq.congr (fun _ => rfl) rfl
  split
  · exact stored _
  · exact (shortfallTest_stirs (adopting := False) (loose := False) h _ _).queued (stored _)

end

/-! ### An invariant kept by the work -/

/-- `P` is kept by the steps of the work, and by the admission of a QUEUED pump; not of a pump of the houses `G` while its
house calls for PROTECT stops. -/
structure Kept (adopting : Prop) (G : House → Prop) (P : State → Prop) : Prop where
  stir : ∀ {s t : State}, QueueHoldsTheQueued s → Stir adopting False s t → P s → P t
  admitted : ∀ {s : State} (q : Pump), QueueHoldsTheQueued s → s.pumps[q].state = .queued →
    (G (houseOf q) → ¬Protects s (houseOf q)) → P s → P (admitPump q s)
  reworked : ∀ {s : State} (w : Work), P s → P { s with work := w }

/-- An invariant that holds, with the Start Queue and the survey's end that go with it. -/
structure Held (adopting : Prop) (P : State → Prop) (s : State) : Prop where
  holds : P s
  queued : QueueHoldsTheQueued s
  closed : ¬adopting → s.work.surveyEnd = false

/-- An invariant that holds, with what makes the work keep it. -/
structure Holding (adopting : Prop) (G : House → Prop) (P : State → Prop) (s : State) : Prop extends
    Held adopting P s where
  guarded : ∀ g, G g → Guarded g s

section
variable {adopting : Prop} {G : House → Prop} {P : State → Prop} {s t : State}

theorem Held.stirs (kept : Kept adopting G P) (h : Held adopting P s) (run : Stirs adopting False s t) :
    Held adopting P t := by
  induction run with
  | refl => exact h
  | tail _ step ih =>
    exact ⟨kept.stir ih.queued step ih.holds, step.queued ih.queued, fun c => step.surveyEnd c (ih.closed c)⟩

theorem Holding.stirs (kept : Kept adopting G P) (h : Holding adopting G P s) (run : Stirs adopting False s t) :
    Holding adopting G P t := ⟨h.toHeld.stirs kept run, fun g hg => run.guarded (h.guarded g hg)⟩

theorem Holding.admitted (kept : Kept adopting G P) (h : Holding adopting G P s) {q : Pump}
    (queued : s.pumps[q].state = .queued) (free : G (houseOf q) → ¬Protects s (houseOf q)) :
    Holding adopting G P (admitPump q s) :=
  ⟨⟨kept.admitted q h.queued queued free h.holds, h.queued.admitPump q,
    fun c => (admitPump_surveyEnd q s).trans (h.closed c)⟩, fun g hg => admitPump_guarded (h.guarded g hg) q⟩

theorem quiet_recordPass (r : PassRecord) (s : State) : Quiet s (recordPass r s) :=
  .of_parts rfl rfl rfl rfl rfl rfl rfl rfl id fun _ => id

theorem Holding.passWalk (kept : Kept adopting G P) (es : List StartEntry) (admitted skipped : Nat)
    (h : Holding adopting G P s) (queued : ∀ e ∈ es, s.pumps[e.pump].state = .queued) (nodup : (es.map (·.pump)).Nodup)
    (free : ∀ e ∈ es, G (houseOf e.pump) → ¬Protects s (houseOf e.pump)) :
    Holding adopting G P (passWalk es admitted skipped s) := by
  induction es generalizing admitted skipped s with
  | nil => exact h.stirs kept (quiet_recordPass _ s).stirs
  | cons e es ih =>
    obtain ⟨apart, nodup⟩ := List.nodup_cons.mp nodup
    unfold Machine.passWalk
    split
    · exact ih _ _ h (fun d hd => queued d (List.mem_cons_of_mem _ hd)) nodup
        fun d hd => free d (List.mem_cons_of_mem _ hd)
    · split
      · refine ih _ _ (h.admitted kept (queued e List.mem_cons_self) (free e List.mem_cons_self)) (fun d hd => ?_) nodup
          fun d hd hg => ?_
        · rw [(admitPump_turned e.pump s).state,
            if_neg fun same => apart (List.mem_map.mpr ⟨d, hd, same.symm⟩)]
          exact queued d (List.mem_cons_of_mem _ hd)
        · rw [protects_of_standing (admit_on e.pump (Follows.refl s)).standing]
          exact free d (List.mem_cons_of_mem _ hd) hg
      · exact h.stirs kept (quiet_recordPass _ s).stirs

theorem Holding.admissionPass (kept : Kept adopting G P) (h : Holding adopting G P s)
    (told : ∀ g, G g → s.work.notices[g] = false) : Holding adopting G P (admissionPass s) := by
  unfold Machine.admissionPass
  split
  · exact h.stirs kept (quiet_recordPass _ s).stirs
  · refine h.passWalk kept _ _ _ (fun e he => (h.queued.1 e he).1) h.queued.2.2 fun e he hg protects => ?_
    rcases h.guarded _ hg protects with notice | none
    · rw [told _ hg] at notice
      cases notice
    · exact none e.pump rfl (h.queued.1 e he).1

/-- What is handed on changed, but for the notices. -/
theorem Holding.reworked (kept : Kept adopting G P) (h : Holding adopting G P s) (w : Work)
    (notices : ∀ g, G g → s.work.notices[g] = true → w.notices[g] = true)
    (closed : ¬adopting → s.work.surveyEnd = false → w.surveyEnd = false) :
    Holding adopting G P { s with work := w } :=
  ⟨⟨kept.reworked w h.holds, h.queued.congr (fun _ => rfl) rfl, fun c => closed c (h.closed c)⟩, fun g hg protects => (h.guarded g hg protects).imp_left (notices g hg)⟩

theorem Holding.takeNotice (kept : Kept adopting G P) (h : Holding adopting G P s) (k : House) :
    Holding adopting G P (takeNotice k s) := by
  have held : Held adopting P { s with work := { s.work with notices := s.work.notices.set k false } } :=
    ⟨kept.reworked _ h.holds, h.queued.congr (fun _ => rfl) rfl, h.closed⟩
  have others (g : House) (hg : G g) (hk : g ≠ k) :
      Guarded g { s with work := { s.work with notices := s.work.notices.set k false } } := fun protects =>
    (h.guarded g hg protects).imp_left fun told => by
      have apart : k.val ≠ g.val := fun e => hk (Fin.ext e.symm)
      simpa [apart] using told
  unfold Machine.takeNotice
  dsimp only
  split
  · next used =>
    have run := evaluateHouse_stirs (adopting := adopting) (loose := False) (.inr used)
    refine ⟨held.stirs kept run, fun g hg => ?_⟩
    by_cases own : g = k
    · subst own
      exact fun protects => .inr (evaluateHouse_protects held.queued
        ((protects_of_standing run.follows.standing g).mp protects).2)
    · exact run.guarded (others g hg own)
  · next unused =>
    refine ⟨held, fun g hg => ?_⟩
    by_cases own : g = k
    · subst own
      exact fun protects => absurd protects.1 unused
    · exact others g hg own

theorem Holding.workStep (kept : Kept adopting G P) (h : Holding adopting G P s) (step : workStep s = some t) :
    Holding adopting G P t := by
  unfold Machine.workStep at step
  split at step
  · next surveyEnd =>
    cases step
    have allowed : adopting := by
      by_contra c
      rw [h.closed c] at surveyEnd
      cases surveyEnd
    exact (h.reworked kept { s.work with surveyEnd := false } (fun _ _ => id) fun _ _ => rfl).stirs kept
      (endSurvey_stirs _ allowed)
  · split at step
    · cases step
      exact (h.reworked kept { s.work with shedTest := false } (fun _ _ => id) fun _ => id).stirs kept (shedTest_stirs _)
    · split at step
      · cases step
        exact h.takeNotice kept _
      · next none =>
        split at step
        · cases step
        · cases step
          refine (h.reworked kept { s.work with passes := s.work.passes - 1 } (fun _ _ => id) fun _ => id).admissionPass kept
            fun g _ => ?_
          have := List.find?_eq_none.mp none g (List.mem_finRange g)
          simpa using this

theorem Holding.settle (kept : Kept adopting G P) (n : Nat) (h : Holding adopting G P s) :
    P (settle n s) ∧ QueueHoldsTheQueued (settle n s) := by
  induction n generalizing s with
  | zero => exact ⟨kept.reworked _ h.holds, h.queued.congr (fun _ => rfl) rfl⟩
  | succ n ih =>
    unfold Machine.settle
    split
    · exact ⟨h.holds, h.queued⟩
    · next t step => exact ih ((h.workStep kept step).stirs kept (quiet_resum t).stirs)

/-- The work of an event keeps an invariant. -/
theorem Holding.settleAll (kept : Kept adopting G P) (h : Holding adopting G P s) :
    P (settleAll s) ∧ QueueHoldsTheQueued (settleAll s) := (h.stirs kept (quiet_resum s).stirs).settle kept _

end

/-- The end of an event keeps the Start Queue (R94). -/
theorem QueueHoldsTheQueued.finish {s : State} (h : QueueHoldsTheQueued s) : QueueHoldsTheQueued (finish s) := by
  have kept : Kept True (fun _ => False) fun _ => True := ⟨fun _ _ _ => trivial, fun _ _ _ _ _ => trivial, fun _ _ => trivial⟩
  have settled := (Holding.settleAll kept (s := s) ⟨⟨trivial, h, fun c => absurd trivial c⟩, fun _ => False.elim⟩).2
  refine settled.congr (SameStates.of_pumps (busGoesOn_pumps (settleAll s))) ?_
  exact congrArg Feeder.queue (busGoesOn_feeder (settleAll s))

end Sys2Proof.Machine
end

section
/-! SUPPORT. The blocks that stand aside of the pumps: the Level Tracker, the Timetable Unit, the records of the Protection
Unit and the supervision of stations write neither a pump, nor the Start Queue, nor a duty list, nor what waits for the bus. -/

namespace Sys2Proof.Machine

/-- `t` comes from `s` by blocks that stand aside of the pumps. -/
structure Aside (s t : State) : Prop where
  writes : ∃ lv hy pr ns tt cap st m ev no ps sh ta tb, t =
    { s with
      levels := lv, hydraulics := hy, protection := pr, noteSets := ns, timetable := tt
      feeder := { s.feeder with cap := cap }
      bus := { s.bus with stations := st, meter := m }
      eventQueue := ev
      work := { s.work with notices := no, passes := ps, shedTest := sh }
      banks := { s.banks with
        a := { s.banks.a with plan := { s.banks.a.plan with timetable := ta } }
        b := { s.banks.b with plan := { s.banks.b.plan with timetable := tb } } } }
  louder : Louder s t
  records : s.eventQueue.records <+: t.eventQueue.records

section
variable {s t u : State}

theorem Aside.refl (s : State) : Aside s s :=
  ⟨⟨_, _, _, _, _, _, _, _, _, _, _, _, _, _, rfl⟩, Louder.refl s, List.prefix_refl _⟩

theorem Aside.trans (a : Aside s t) (b : Aside t u) : Aside s u := by
  refine ⟨?_, a.louder.trans b.louder, a.records.trans b.records⟩
  obtain ⟨_, _, _, _, _, _, _, _, _, _, _, _, _, _, rfl⟩ := a.writes
  obtain ⟨_, _, _, _, _, _, _, _, _, _, _, _, _, _, rfl⟩ := b.writes
  exact ⟨_, _, _, _, _, _, _, _, _, _, _, _, _, _, rfl⟩

/-! ### What stands -/

theorem Aside.pumps (a : Aside s t) : t.pumps = s.pumps := by
  obtain ⟨_, _, _, _, _, _, _, _, _, _, _, _, _, _, rfl⟩ := a.writes; rfl
theorem Aside.time (a : Aside s t) : t.time = s.time := by
  obtain ⟨_, _, _, _, _, _, _, _, _, _, _, _, _, _, rfl⟩ := a.writes; rfl
theorem Aside.houses (a : Aside s t) : t.houses = s.houses := by
  obtain ⟨_, _, _, _, _, _, _, _, _, _, _, _, _, _, rfl⟩ := a.writes; rfl
theorem Aside.queue (a : Aside s t) : t.feeder.queue = s.feeder.queue := by
  obtain ⟨_, _, _, _, _, _, _, _, _, _, _, _, _, _, rfl⟩ := a.writes; rfl
theorem Aside.meter (a : Aside s t) : t.feeder.meter = s.feeder.meter := by
  obtain ⟨_, _, _, _, _, _, _, _, _, _, _, _, _, _, rfl⟩ := a.writes; rfl
theorem Aside.survey (a : Aside s t) : t.survey = s.survey := by
  obtain ⟨_, _, _, _, _, _, _, _, _, _, _, _, _, _, rfl⟩ := a.writes; rfl
theorem Aside.surveyEnd (a : Aside s t) : t.work.surveyEnd = s.work.surveyEnd := by
  obtain ⟨_, _, _, _, _, _, _, _, _, _, _, _, _, _, rfl⟩ := a.writes; rfl
theorem Aside.busEnded (a : Aside s t) : t.work.busEnded = s.work.busEnded := by
  obtain ⟨_, _, _, _, _, _, _, _, _, _, _, _, _, _, rfl⟩ := a.writes; rfl
theorem Aside.busQueue (a : Aside s t) : t.bus.queue = s.bus.queue := by
  obtain ⟨_, _, _, _, _, _, _, _, _, _, _, _, _, _, rfl⟩ := a.writes; rfl
theorem Aside.flight (a : Aside s t) : t.bus.flight = s.bus.flight := by
  obtain ⟨_, _, _, _, _, _, _, _, _, _, _, _, _, _, rfl⟩ := a.writes; rfl
theorem Aside.active (a : Aside s t) : t.banks.active = s.banks.active := by
  obtain ⟨_, _, _, _, _, _, _, _, _, _, _, _, _, _, rfl⟩ := a.writes; rfl
theorem Aside.inReset (a : Aside s t) : t.inReset = s.inReset := by
  obtain ⟨_, _, _, _, _, _, _, _, _, _, _, _, _, _, rfl⟩ := a.writes; rfl
theorem Aside.link (a : Aside s t) : t.link = s.link := by
  obtain ⟨_, _, _, _, _, _, _, _, _, _, _, _, _, _, rfl⟩ := a.writes; rfl

/-- The plan in force stands but for its timetable, whose entries count their runs (R117). -/
theorem Aside.plan (a : Aside s t) : ∃ tt, planOf t = { planOf s with timetable := tt } := by
  obtain ⟨_, _, _, _, _, _, _, _, _, _, _, _, ta, tb, rfl⟩ := a.writes
  rcases h : s.banks.active with _ | (_ | _)
  · exact ⟨clearPlan.timetable, by simp only [planOf, h]⟩
  · exact ⟨ta, by simp only [planOf, bankOf, h]⟩
  · exact ⟨tb, by simp only [planOf, bankOf, h]⟩

theorem Aside.table (a : Aside s t) : tableOf t = tableOf s := by
  obtain ⟨_, _, _, _, _, _, _, _, _, _, _, _, _, _, rfl⟩ := a.writes
  rcases h : s.banks.active with _ | (_ | _) <;> simp only [tableOf, bankOf, h]

theorem Aside.queued (a : Aside s t) (h : QueueHoldsTheQueued s) : QueueHoldsTheQueued t :=
  h.congr (SameStates.of_pumps a.pumps) a.queue

/-! ### The record updates -/

theorem Aside.of_writes (a : Aside s t)
    (h : ∃ lv hy pr ns tt cap st m no ps sh ta tb, u =
      { t with
        levels := lv, hydraulics := hy, protection := pr, noteSets := ns, timetable := tt
        feeder := { t.feeder with cap := cap }
        bus := { t.bus with stations := st, meter := m }
        work := { t.work with notices := no, passes := ps, shedTest := sh }
        banks := { t.banks with
          a := { t.banks.a with plan := { t.banks.a.plan with timetable := ta } }
          b := { t.banks.b with plan := { t.banks.b.plan with timetable := tb } } } })
    (louder : Louder t u) : Aside s u := by
  refine a.trans ⟨?_, louder, ?_⟩
  · obtain ⟨_, _, _, _, _, _, _, _, _, _, _, _, _, rfl⟩ := h
    exact ⟨_, _, _, _, _, _, _, _, _, _, _, _, _, _, rfl⟩
  · obtain ⟨_, _, _, _, _, _, _, _, _, _, _, _, _, rfl⟩ := h
    exact List.prefix_refl _

theorem Aside.raise (a : Aside s t) (k : EventKind) (h : Option House) (p : Option Pump) (c : Option Tank) (v w : Nat) :
    Aside s (raise k h p c v w t) :=
  a.trans ⟨⟨_, _, _, _, _, _, _, _, _, _, _, _, _, _, rfl⟩, Louder.refl t,
    (raise_on k h p c v w (Follows.refl t)).records⟩

theorem Aside.raiseHouse (a : Aside s t) (k : EventKind) (h : House) (v w : Nat) : Aside s (raiseHouse k h v w t) :=
  a.raise ..

theorem Aside.raisePart (a : Aside s t) (k : EventKind) (v w : Nat) : Aside s (raisePart k v w t) := a.raise ..

theorem Aside.notice (a : Aside s t) (h : House) : Aside s (notice h t) :=
  a.of_writes ⟨_, _, _, _, _, _, _, _, _, _, _, _, _, rfl⟩ (quiet_notice h t).notices

theorem Aside.callShedTest (a : Aside s t) : Aside s (callShedTest t) :=
  a.of_writes ⟨_, _, _, _, _, _, _, _, _, _, _, _, _, rfl⟩ (Louder.refl t)

theorem Aside.triggerPass (a : Aside s t) : Aside s (triggerPass t) :=
  a.of_writes ⟨_, _, _, _, _, _, _, _, _, _, _, _, _, rfl⟩ (Louder.refl t)

theorem Aside.updHydraulics (a : Aside s t) (h : House) (f : Hydraulics → Hydraulics) : Aside s (updHydraulics h f t) :=
  a.of_writes ⟨_, _, _, _, _, _, _, _, _, _, _, _, _, rfl⟩ (Louder.refl t)

theorem Aside.updLevel (a : Aside s t) (k : Tank) (f : LevelRecord → LevelRecord) : Aside s (updLevel k f t) :=
  a.of_writes ⟨_, _, _, _, _, _, _, _, _, _, _, _, _, rfl⟩ (Louder.refl t)

theorem Aside.updProtection (a : Aside s t) (h : House) (f : Protection → Protection) : Aside s (updProtection h f t) :=
  a.of_writes ⟨_, _, _, _, _, _, _, _, _, _, _, _, _, rfl⟩ (Louder.refl t)

theorem Aside.updStation (a : Aside s t) (k : Station) (f : StationLive → StationLive) : Aside s (updStation k f t) :=
  a.of_writes ⟨_, _, _, _, _, _, _, _, _, _, _, _, _, rfl⟩ (Louder.refl t)

theorem Aside.updMeterUnit (a : Aside s t) (f : MeterUnit → MeterUnit) : Aside s (updMeterUnit f t) :=
  a.of_writes ⟨_, _, _, _, _, _, _, _, _, _, _, _, _, rfl⟩ (Louder.refl t)

theorem Aside.updActiveEntry (a : Aside s t) (e : Entry) (f : TimetableEntry → TimetableEntry) :
    Aside s (updActiveEntry e f t) := by
  unfold Machine.updActiveEntry
  split
  · exact a
  · next k _ => cases k <;> exact a.of_writes ⟨_, _, _, _, _, _, _, _, _, _, _, _, _, rfl⟩ (Louder.refl t)

theorem Aside.withTimetable (a : Aside s t) (tt : Timetable) : Aside s { t with timetable := tt } :=
  a.of_writes ⟨_, _, _, _, _, _, _, _, _, _, _, _, _, rfl⟩ (Louder.refl t)

theorem Aside.withNoteSets (a : Aside s t) (ns : Vector (List Code) 12) : Aside s { t with noteSets := ns } :=
  a.of_writes ⟨_, _, _, _, _, _, _, _, _, _, _, _, _, rfl⟩ (Louder.refl t)

theorem Aside.withCap (a : Aside s t) (c : Nat) : Aside s { t with feeder := { t.feeder with cap := c } } :=
  a.of_writes ⟨_, _, _, _, _, _, _, _, _, _, _, _, _, rfl⟩ (Louder.refl t)

theorem Aside.foldl {α : Type} {f : State → α → State} (hf : ∀ t x, Aside t (f t x)) (xs : List α) (a : Aside s t) :
    Aside s (xs.foldl f t) := by
  induction xs generalizing t with
  | nil => exact a
  | cons x xs ih => exact ih (a.trans (hf t x))

end

/-! ### The Level Tracker -/

section
variable (s : State)

theorem applyFinding_aside (h : House) (c : Condition) (f : Finding) : Aside s (applyFinding h c f s) := by
  unfold applyFinding raiseCondition
  dsimp only
  split
  · exact ((Aside.refl s).updHydraulics h _).raise ..
  · split
    · exact ((Aside.refl s).updHydraulics h _).raise ..
    · exact (Aside.refl s).updHydraulics h _

theorem deliveryUpdate_aside (h : House) (k : Tank) : Aside s (deliveryUpdate h k s) := by
  unfold deliveryUpdate
  dsimp only
  exact ((applyFinding_aside s _ _ _).trans (applyFinding_aside _ _ _ _)).updHydraulics h _

theorem updateHouseLevels_aside (k : Tank) (h : House) : Aside s (updateHouseLevels k s h) := by
  have suction : Aside s (if (planOf s).houses[h].suction == some k then suctionUpdate h k s else s) := by
    split
    · exact applyFinding_aside s _ _ _
    · exact Aside.refl s
  have delivery (u : State) : Aside u (if (planOf s).houses[h].delivery == k then deliveryUpdate h k u else u) := by
    split
    · exact deliveryUpdate_aside u h k
    · exact Aside.refl u
  have both := suction.trans (delivery _)
  unfold updateHouseLevels noticeIfChanged
  dsimp only
  generalize (if (planOf s).houses[h].delivery == k then _ else _) = u at both ⊢
  split
  · exact both
  · exact both.notice h

theorem levelUpdate_aside (k : Tank) : Aside s (levelUpdate k s) :=
  (Aside.refl s).foldl (fun t h => updateHouseLevels_aside t k h) _

theorem applyEntry_aside (entries : List ChannelEntry) (k : Tank) : Aside s (applyEntry entries s k) := by
  unfold applyEntry
  split
  · exact Aside.refl s
  · split
    · unfold failLevel
      split
      · exact Aside.refl s
      · exact ((Aside.refl s).updLevel k _).raise ..
    · unfold acceptLevel
      dsimp only
      split
      · exact ((Aside.refl s).updLevel k _).raise ..
      · exact (Aside.refl s).updLevel k _

theorem applyLevels_aside (st : Station) (entries : List ChannelEntry) : Aside s (applyLevels st entries s) :=
  ((Aside.refl s).foldl (fun t k => applyEntry_aside t entries k) _).foldl (fun t k => levelUpdate_aside t k) _

theorem holdLevel_aside (k : Tank) : Aside s (holdLevel s k) := by
  unfold holdLevel
  split
  · exact ((Aside.refl s).updLevel k _).trans (levelUpdate_aside _ k)
  · exact Aside.refl s

theorem silenceLevels_aside (st : Station) : Aside s (silenceLevels st s) :=
  (Aside.refl s).foldl (fun t k => holdLevel_aside t k) _

theorem levelBecomesStale_aside (k : Tank) : Aside s (levelBecomesStale k s) := by
  unfold levelBecomesStale
  dsimp only
  exact (((Aside.refl s).updLevel k _).raise ..).trans (levelUpdate_aside _ k)

theorem conditionActivates_aside (h : House) (c : Condition) : Aside s (conditionActivates h c s) := by
  unfold conditionActivates raiseCondition
  dsimp only
  exact (((Aside.refl s).updHydraulics h _).raise ..).notice h

theorem keepLevel_aside (k : Tank) : Aside s (keepLevel k s) := by
  unfold keepLevel
  dsimp only
  split
  · exact Aside.refl s
  · split
    · split
      · exact (Aside.refl s).updLevel k _
      · exact ((Aside.refl s).updLevel k _).raise ..
    · exact Aside.refl s

theorem carryLevel_aside (old : Plan) (k : Tank) : Aside s (carryLevel old s k) := by
  unfold carryLevel
  dsimp only
  split
  · exact keepLevel_aside s k
  · exact (Aside.refl s).updLevel k _

theorem resetCondition_aside (old : Plan) (h : House) (c : Condition) : Aside s (resetCondition old h c s) := by
  unfold resetCondition raiseCondition
  dsimp only
  split
  · exact Aside.refl s
  · split
    · exact ((Aside.refl s).updHydraulics h _).raise ..
    · exact (Aside.refl s).updHydraulics h _

theorem carryHydraulics_aside (old : Plan) (h : House) : Aside s (carryHydraulics old s h) := by
  unfold carryHydraulics
  dsimp only
  split
  · exact (((resetCondition_aside s old h _).trans (resetCondition_aside _ old h _)).trans
      (resetCondition_aside _ old h _)).updHydraulics h _
  · exact (Aside.refl s).updHydraulics h _

theorem carryLevels_aside (old : Plan) : Aside s (carryLevels old s) :=
  (((Aside.refl s).foldl (fun t k => carryLevel_aside t old k) _).foldl (fun t h => carryHydraulics_aside t old h) _).foldl
    (fun t k => levelUpdate_aside t k) _

/-! ### The Timetable Unit -/

theorem takeCap_aside (c : Nat) : Aside s (takeCap c s) := by
  unfold takeCap
  dsimp only
  split
  · exact Aside.refl s
  · split
    · exact (((Aside.refl s).withCap c).triggerPass).callShedTest
    · exact ((Aside.refl s).withCap c).callShedTest

theorem reevaluateCap_aside : Aside s (reevaluateCap s) := by
  unfold reevaluateCap
  dsimp only
  split
  · refine Aside.trans ?_ (takeCap_aside _ _)
    split
    · exact (Aside.refl s).withTimetable _
    · exact ((Aside.refl s).withTimetable _).raisePart ..
  · exact Aside.refl s

theorem addWindow_aside (e : Entry) (til : Nat) : Aside s (addWindow e til s) := by
  unfold addWindow
  dsimp only
  split
  · exact (Aside.refl s).withTimetable _
  · exact ((Aside.refl s).withTimetable _).notice _

theorem spendRun_aside (e : Entry) : Aside s (spendRun e s) := by
  unfold spendRun
  dsimp only
  split
  · split
    · exact ((Aside.refl s).updActiveEntry e _).raiseHouse ..
    · exact (Aside.refl s).updActiveEntry e _
  · exact Aside.refl s

theorem tryStart_aside (e : Entry) (til marking : Nat) : Aside s (tryStart e til marking s) := by
  unfold tryStart
  dsimp only
  split
  · exact (Aside.refl s).raiseHouse ..
  · split
    · exact ((addWindow_aside s e til).raiseHouse ..).trans (spendRun_aside _ e)
    · exact (Aside.refl s).raiseHouse ..

theorem markFired_aside (e : Entry) : Aside s (markFired e s) := (Aside.refl s).withTimetable _

theorem fireMinute_aside (day : Day) (minute : Nat) : Aside s (fireMinute day minute s) := by
  refine (Aside.refl s).foldl (fun t e => ?_) _
  unfold fireStep
  dsimp only
  split
  · exact (markFired_aside t e).trans (tryStart_aside _ _ _ _)
  · exact Aside.refl t

theorem joinToday_aside (n : NetTime) (e : Entry) : Aside s (joinToday n e s) := by
  unfold joinToday
  dsimp only
  split
  · split
    · exact markFired_aside s e
    · split
      · exact (markFired_aside s e).trans (tryStart_aside _ _ _ _)
      · exact markFired_aside s e
  · exact Aside.refl s

theorem joinYesterday_aside (n : NetTime) (e : Entry) : Aside s (joinYesterday n e s) := by
  unfold joinYesterday
  dsimp only
  split
  · exact tryStart_aside s _ _ _
  · exact Aside.refl s

theorem reestablish_aside : Aside s (reestablish s) := by
  unfold reestablish
  split
  · exact Aside.refl s
  · split
    · refine (Aside.refl s).foldl (fun t e => ?_) _
      unfold reestablishStep
      split
      · exact (joinToday_aside t _ e).trans (joinYesterday_aside _ _ e)
      · exact Aside.refl t
    · exact Aside.refl s

theorem forwardStep_aside (old : Nat) (n : NetTime) (e : Entry) : Aside s (forwardStep old n s e) := by
  unfold forwardStep
  dsimp only
  split
  · split
    · exact (markFired_aside s e).trans (tryStart_aside _ _ _ _)
    · exact (markFired_aside s e).raiseHouse ..
  · exact Aside.refl s

theorem applyJump_aside (kind : JumpKind) (old : Option NetTime) (new : NetTime) :
    Aside s (applyJump kind old new s) := by
  cases kind with
  | first => exact reestablish_aside s
  | dayChange => exact Aside.trans ((Aside.refl s).withTimetable _) (reestablish_aside _)
  | forward => exact (Aside.refl s).foldl (fun t e => forwardStep_aside t _ _ e) _
  | backward => exact Aside.refl s
  | same => exact Aside.refl s

theorem endWindow_aside (w : ActiveWindow) (marking : Nat) : Aside s (endWindow w marking s) :=
  (((Aside.refl s).withTimetable _).raiseHouse ..).notice _

theorem crossMinute_aside (day : Day) (minute : Nat) : Aside s (crossMinute day minute s) := by
  unfold crossMinute
  dsimp only
  split
  · split
    · exact (fireMinute_aside s day minute).trans (reevaluateCap_aside _)
    · exact fireMinute_aside s day minute
  · exact Aside.refl s

theorem crossMidnight_aside (day : Day) : Aside s (crossMidnight day s) := by
  unfold crossMidnight
  split
  · exact (Aside.trans ((Aside.refl s).withTimetable _) (fireMinute_aside _ day 0)).trans (reevaluateCap_aside _)
  · exact Aside.refl s

theorem carryTimetable_aside (old : Plan) : Aside s (carryTimetable old s) := by
  unfold carryTimetable endWindows carryMarks
  exact ((((Aside.refl s).foldl (fun t w => endWindow_aside t w 1) _).withTimetable _).trans
    (reestablish_aside _)).trans (reevaluateCap_aside _)

/-! ### The records of the Protection Unit -/

theorem takeItem_aside (h : House) (i : AlarmItem) : Aside s (takeItem h s i) := by
  unfold takeItem dropItem
  split
  · exact Aside.refl s
  · split
    · exact Aside.refl s
    · split
      · exact (Aside.refl s).updProtection h _
      · split
        · exact Aside.refl s
        · exact ((Aside.refl s).updProtection h _).raiseHouse ..

theorem beginPeriod_aside (h : House) (c : Code) : Aside s (beginPeriod h c s) := by
  unfold beginPeriod
  exact ((Aside.refl s).updProtection h _).raiseHouse ..

theorem becomeClear_aside (h : House) (marking : Nat) : Aside s (becomeClear h marking s) := by
  unfold becomeClear
  exact (((Aside.refl s).updProtection h _).raiseHouse ..).notice h

theorem noteItems_aside (st : Station) (items : List AlarmItem) : Aside s (noteItems st items s) := by
  unfold noteItems
  exact ((Aside.refl s).foldl (fun t c => (Aside.refl t).raisePart ..) _).withNoteSets _

theorem interlockOff_aside (h : House) : Aside s (interlockOff h s) := by
  unfold interlockOff
  split
  · exact (((Aside.refl s).updProtection h _).raiseHouse ..).notice h
  · exact Aside.refl s

theorem carryAllProtection_aside (old : Plan) : Aside s (carryAllProtection old s) := by
  refine Aside.withNoteSets ((Aside.refl s).foldl (fun t h => ?_) _) _
  unfold carryProtection keepProtection
  split
  · dsimp only
    split
    · exact ((Aside.refl t).updProtection h _).raiseHouse ..
    · exact (Aside.refl t).updProtection h _
  · exact (Aside.refl t).updProtection h _

/-! ### The supervision of stations -/

theorem noticeServed_aside (st : Station) : Aside s (noticeServed st s) := by
  unfold noticeServed
  split
  · exact Aside.refl s
  · exact (Aside.refl s).notice _

theorem goodReply_aside (st : Station) : Aside s (goodReply st s) := by
  unfold goodReply
  dsimp only
  split
  · exact (Aside.refl s).updStation st _
  · exact (((Aside.refl s).updStation st _).raise ..).trans (noticeServed_aside _ st)

theorem setPollDue_aside (unit : BusUnit) : Aside s (setPollDue unit s) := by
  unfold setPollDue
  split
  · exact (Aside.refl s).updStation _ _
  · exact (Aside.refl s).updMeterUnit _

theorem clearPollDue_aside (unit : BusUnit) : Aside s (clearPollDue unit s) := by
  unfold clearPollDue
  split
  · exact (Aside.refl s).updStation _ _
  · exact (Aside.refl s).updMeterUnit _

end

end Sys2Proof.Machine
end

section
/-! SUPPORT. The Start Queue through the events of one pump (R35, R92, R94): what an order, a report, an alarm or a request
does to a pump keeps the queue. -/

namespace Sys2Proof.Machine

section
variable {p : Pump} {s t : State}

theorem QueueHoldsTheQueued.of_same (h : QueueHoldsTheQueued s) (pumps : t.pumps = s.pumps)
    (queue : t.feeder.queue = s.feeder.queue) : QueueHoldsTheQueued t := h.congr (SameStates.of_pumps pumps) queue

theorem QueueHoldsTheQueued.notice (h : QueueHoldsTheQueued s) (k : House) : QueueHoldsTheQueued (notice k s) :=
  h.of_same (notice_pumps k s) (by rw [notice_feeder])

theorem QueueHoldsTheQueued.raise (h : QueueHoldsTheQueued s) (k : EventKind) (a : Option House) (b : Option Pump)
    (c : Option Tank) (v w : Nat) : QueueHoldsTheQueued (raise k a b c v w s) :=
  h.of_same (raise_pumps ..) (by rw [raise_feeder])

theorem QueueHoldsTheQueued.raisePart (h : QueueHoldsTheQueued s) (k : EventKind) (v w : Nat) :
    QueueHoldsTheQueued (raisePart k v w s) := h.raise ..

theorem QueueHoldsTheQueued.triggerPass (h : QueueHoldsTheQueued s) : QueueHoldsTheQueued (triggerPass s) :=
  h.of_same (triggerPass_pumps s) (by rw [triggerPass_feeder])

theorem QueueHoldsTheQueued.callShedTest (h : QueueHoldsTheQueued s) : QueueHoldsTheQueued (callShedTest s) :=
  h.of_same (callShedTest_pumps s) (by rw [callShedTest_feeder])

theorem QueueHoldsTheQueued.updHouse (h : QueueHoldsTheQueued s) (k : House) (f : HouseLive → HouseLive) :
    QueueHoldsTheQueued (updHouse k f s) := h.of_same (updHouse_pumps k f s) (by rw [updHouse_feeder])

theorem QueueHoldsTheQueued.foldl {α : Type} {f : State → α → State}
    (hf : ∀ t x, QueueHoldsTheQueued t → QueueHoldsTheQueued (f t x)) (xs : List α) (h : QueueHoldsTheQueued s) :
    QueueHoldsTheQueued (xs.foldl f s) := by
  induction xs generalizing s with
  | nil => exact h
  | cons x xs ih => exact ih (hf s x h)

theorem QueueHoldsTheQueued.dropHouseQueue (h : QueueHoldsTheQueued s) (k : House) :
    QueueHoldsTheQueued (dropHouseQueue k s) := h.foldl (fun _ q ht => ht.unqueue q) _

/-! ### Operations that leave the other pumps alone -/

theorem Handles.callShedTest (a : Handles p s t) : Handles p s (callShedTest t) := a.trans (Handles.of_pumps rfl rfl)

theorem enterRest_handles (p : Pump) (s : State) : Handles p s (enterRest p s) := by
  unfold enterRest
  exact (Handles.refl p s).releasePermit.updPump _ (by simp)

theorem passRest_handles (p : Pump) (s : State) : Handles p s (passRest p s) := by
  unfold passRest
  dsimp only
  split
  · exact (Handles.refl p s).updPump _ (by simp)
  · exact Handles.refl p s

theorem settleRest_handles (p : Pump) (s : State) : Handles p s (settleRest p s) :=
  ((actStopped_handles p s).trans (passRest_handles p _)).pumpChanged

theorem joinDuty_handles (p : Pump) (s : State) : Handles p s (joinDuty p s) := Handles.of_pumps rfl rfl

theorem requestUrgent_handles (p : Pump) (u : BusUnit) (s : State) : Handles p s (requestUrgent u s) := by
  unfold requestUrgent
  split
  · exact Handles.of_pumps rfl rfl
  · exact (Handles.refl p s).joinTransmit _ _ _

theorem restWithEvent_handles (k : EventKind) (p : Pump) (v w : Nat) (s : State) :
    Handles p s (settleRest p (raisePump k p v w (enterRest p s))) :=
  ((enterRest_handles p s).raise _ _ _).trans (settleRest_handles p _)

theorem withdrawOrder_handles (p : Pump) (s : State) : Handles p s (withdrawOrder p s) := Handles.of_pumps rfl rfl

theorem adopt_handles (p : Pump) (before : PumpState) (s : State) : Handles p s (adopt p before s) := by
  have left : Handles p s (leaveStartQueue p s) :=
    ⟨fun _ _ => rfl, .inr rfl, id⟩
  unfold adopt
  dsimp only
  exact ((((left.updPump _ (by simp [adoptedFields]))).pumpChanged).raise _ _ _).trans (actStarted_handles p _)

theorem resolve_handles (p : Pump) (rep : Reported) (s : State) : Handles p s (resolve p rep s) := by
  have running (r : PumpLive) : (resolvedRunning s p r).state ≠ .queued := by
    unfold resolvedRunning
    split <;> exact PumpState.noConfusion
  unfold resolve
  cases rep with
  | run =>
    exact ((((Handles.refl p s).releasePermit.updPump _ fun r _ => running r).pumpChanged).raise _ _ _).trans
      (actStarted_handles p _)
  | stop => exact restWithEvent_handles _ p _ _ s
  | trip => exact (faultFromReport_handles p _ s).raise _ _ _
  | localControl => exact (localFromReport_handles p s).raise _ _ _

theorem reportStopped_handles (p : Pump) (rep : Reported) (s : State) : Handles p s (reportStopped p rep s) := by
  unfold reportStopped
  cases rep with
  | run => exact adopt_handles p _ s
  | stop => exact Handles.refl p s
  | trip => exact faultFromReport_handles p _ s
  | localControl => exact localFromReport_handles p s

theorem reportOrdered_handles (p : Pump) (rep : Reported) (s : State) : Handles p s (reportOrdered p rep s) := by
  unfold reportOrdered
  cases rep with
  | run => exact (withdrawStart_handles p s).trans (adopt_handles p _ _)
  | stop => exact Handles.refl p s
  | trip => exact (withdrawStart_handles p s).trans (faultFromReport_handles p _ _)
  | localControl => exact (withdrawStart_handles p s).trans (localFromReport_handles p _)

theorem reportStarting_handles (p : Pump) (rep : Reported) (s : State) : Handles p s (reportStarting p rep s) := by
  unfold reportStarting
  cases rep with
  | run => exact Handles.refl p s
  | stop => exact faultFromReport_handles p _ s
  | trip => exact faultFromReport_handles p _ s
  | localControl => exact localFromReport_handles p s

theorem reportRunning_handles (p : Pump) (rep : Reported) (s : State) : Handles p s (reportRunning p rep s) := by
  unfold reportRunning
  cases rep with
  | run => exact Handles.refl p s
  | stop => exact restWithEvent_handles _ p _ _ s
  | trip => exact faultFromReport_handles p _ s
  | localControl => exact localFromReport_handles p s

theorem reportStopping_handles (p : Pump) (rep : Reported) (s : State) : Handles p s (reportStopping p rep s) := by
  have withdrawn : Handles p s (withdrawStop p s) := (withdrawOrder_handles p s).callShedTest
  unfold reportStopping
  cases rep with
  | run => exact Handles.refl p s
  | stop => exact withdrawn.trans (restWithEvent_handles _ p _ _ _)
  | trip => exact withdrawn.trans (faultFromReport_handles p _ _)
  | localControl => exact withdrawn.trans (localFromReport_handles p _)

theorem reportLocal_handles (p : Pump) (rep : Reported) (s : State) : Handles p s (reportLocal p rep s) := by
  have joined := joinDuty_handles p s
  unfold reportLocal
  cases rep with
  | run =>
    exact (((joined.updPump _ (by simp [adoptedFields])).pumpChanged).raise _ _ _).trans (actStarted_handles p _)
  | stop => exact joined.trans (restWithEvent_handles _ p _ _ _)
  | trip => exact faultFromReport_handles p _ s
  | localControl => exact Handles.refl p s

theorem noteRunning_handles (p : Pump) (before : PumpState) (s : State) : Handles p s (noteRunning p before s) := by
  unfold noteRunning
  split
  · exact Handles.refl p s
  · exact (Handles.refl p s).raise _ _ _

theorem reportFaulted_handles (p : Pump) (rep : Reported) (s : State) : Handles p s (reportFaulted p rep s) := by
  unfold reportFaulted
  cases rep with
  | run => exact noteRunning_handles p _ s
  | stop => exact Handles.refl p s
  | trip => exact Handles.refl p s
  | localControl => exact (localFromReport_handles p s).raise _ _ _

theorem reportIsolated_handles (p : Pump) (rep : Reported) (s : State) : Handles p s (reportIsolated p rep s) := by
  unfold reportIsolated
  cases rep with
  | run => exact noteRunning_handles p _ s
  | stop => exact Handles.refl p s
  | trip => exact Handles.refl p s
  | localControl => exact Handles.refl p s

/-! ### A QUEUED pump -/

theorem QueueHoldsTheQueued.faultFromReport (h : QueueHoldsTheQueued s) (p : Pump) (c : FaultCause) :
    QueueHoldsTheQueued (faultFromReport p c s) := (h.enterFaulted c).pumpChanged

theorem QueueHoldsTheQueued.localFromReport (h : QueueHoldsTheQueued s) (p : Pump) :
    QueueHoldsTheQueued (localFromReport p s) := h.enterLocal.pumpChanged

theorem QueueHoldsTheQueued.adopt (h : QueueHoldsTheQueued s) (p : Pump) (before : PumpState) :
    QueueHoldsTheQueued (adopt p before s) := by
  have running : (adoptedFields (now (leaveStartQueue p s)) s.pumps[p]).state ≠ .queued := PumpState.noConfusion
  have changed := (h.leave _ running).pumpChanged (p := p)
  have state : (Machine.pumpChanged p
      (updPump p (adoptedFields (now (leaveStartQueue p s))) (leaveStartQueue p s))).pumps[p].state ≠
      PumpState.queued := by
    rw [pumpChanged_get, rebooked_state, updPump_self]
    exact PumpState.noConfusion
  unfold Machine.adopt
  dsimp only
  exact (((Handles.refl p _).raise _ _ _).trans (actStarted_handles p _)).keeps state changed

/-- A report reconciled with a pump keeps the queue (R51, R94). -/
theorem QueueHoldsTheQueued.reconcile (h : QueueHoldsTheQueued s) (p : Pump) (rep : Reported) :
    QueueHoldsTheQueued (reconcile p rep s) := by
  have keeps {t : State} (handles : Handles p s t) {st : PumpState} (state : s.pumps[p].state = st) (hst : st ≠ .queued) :
      QueueHoldsTheQueued t := handles.keeps (by rw [state]; exact hst) h
  unfold Machine.reconcile
  split
  case h_1 => exact h
  case h_2 e => exact keeps (reportStopped_handles p rep s) e PumpState.noConfusion
  case h_3 e => exact keeps (reportStopped_handles p rep s) e PumpState.noConfusion
  case h_4 =>
    unfold reportStopped
    cases rep with
    | run => exact h.adopt p _
    | stop => exact h
    | trip => exact h.faultFromReport p _
    | localControl => exact h.localFromReport p
  case h_5 e => exact keeps (reportOrdered_handles p rep s) e PumpState.noConfusion
  case h_6 e => exact keeps (reportStarting_handles p rep s) e PumpState.noConfusion
  case h_7 e => exact keeps (reportRunning_handles p rep s) e PumpState.noConfusion
  case h_8 e => exact keeps (reportStopping_handles p rep s) e PumpState.noConfusion
  case h_9 e => exact keeps (resolve_handles p rep s) e PumpState.noConfusion
  case h_10 e => exact keeps (reportLocal_handles p rep s) e PumpState.noConfusion
  case h_11 e => exact keeps (reportFaulted_handles p rep s) e PumpState.noConfusion
  case h_12 e => exact keeps (reportIsolated_handles p rep s) e PumpState.noConfusion

/-- A change of a pump that leaves its state. -/
theorem QueueHoldsTheQueued.touch (h : QueueHoldsTheQueued s) (p : Pump) (f : PumpLive → PumpLive)
    (hf : ∀ r, (f r).state = r.state) : QueueHoldsTheQueued (updPump p f s) :=
  h.congr (fun q => by
    rw [updPump_get]
    split
    · next e => rw [hf]
    · rfl) rfl

theorem QueueHoldsTheQueued.applyPumpEntries (h : QueueHoldsTheQueued s) (k : House) (entries : List Reported) :
    QueueHoldsTheQueued (applyPumpEntries k entries s) := by
  unfold Machine.applyPumpEntries
  dsimp only
  refine QueueHoldsTheQueued.foldl (fun t x ht => ht.touch x.1 _ (fun _ => by rfl)) _ ?_
  split
  · exact h
  · exact h.foldl (fun t x ht => ht.reconcile x.1 x.2) _

/-! ### Orders -/

theorem startAccepted_handles (p : Pump) (s : State) : Handles p s (startAccepted p s) := by
  unfold startAccepted
  dsimp only
  exact ((((Handles.refl p s).updPump _ (by simp)).pumpChanged).raise _ _ _).trans (actStarted_handles p _)

theorem undoAdmission_handles (p : Pump) (s : State) : Handles p s (undoAdmission p s) := by
  unfold undoAdmission
  exact (Handles.refl p s).releasePermit.updPump _ (by simp)

theorem startRefused_handles (reason : RefuseReason) (p : Pump) (s : State) : Handles p s (startRefused reason p s) := by
  have undone := undoAdmission_handles p s
  have faulted (c : FaultCause) := undone.trans ((enterFaulted_handles p (undoAdmission p s) c).pumpChanged)
  unfold startRefused
  cases reason with
  | localControl => exact (undone.trans ((enterLocal_handles p _).pumpChanged)).raise _ _ _
  | tripped => exact (faulted _).raise _ _ _
  | interlocked => exact (faulted _).raise _ _ _
  | unknownPump => exact (faulted _).raise _ _ _

theorem startTimedOut_handles (p : Pump) (s : State) : Handles p s (startTimedOut p s) := by
  unfold startTimedOut
  exact ((((Handles.refl p s).updPump _ (by simp)).pumpChanged).raise _ _ _).trans (requestUrgent_handles p _ _)

theorem stopAccepted_handles (p : Pump) (s : State) : Handles p s (stopAccepted p s) :=
  (restWithEvent_handles _ p _ _ s).callShedTest

theorem stopRefused_handles (reason : RefuseReason) (p : Pump) (s : State) : Handles p s (stopRefused reason p s) := by
  have raised : Handles p s (raisePump .stopped p (stopCauseOf s p) (refuseCode reason) (callShedTest s)) :=
    ((Handles.refl p s).callShedTest).raise _ _ _
  unfold stopRefused
  cases reason with
  | localControl => exact raised.trans ((enterLocal_handles p _).pumpChanged)
  | tripped => exact raised.trans ((enterFaulted_handles p _ _).pumpChanged)
  | interlocked => exact ((raised.updPump _ (by simp)).pumpChanged).trans (requestUrgent_handles p _ _)
  | unknownPump => exact raised.trans ((enterFaulted_handles p _ _).pumpChanged)

theorem stopTimedOut_handles (p : Pump) (s : State) : Handles p s (stopTimedOut p s) := by
  unfold stopTimedOut stopUnresolved
  exact ((((Handles.refl p s).updPump _ (by simp)).pumpChanged).raise _ _ _).callShedTest.trans (requestUrgent_handles p _ _)

theorem QueueHoldsTheQueued.orderOutcome (h : QueueHoldsTheQueued s) (o : Order) (out : OrderOutcome) :
    QueueHoldsTheQueued (orderOutcome o out s) := by
  unfold Machine.orderOutcome startOutcome stopOutcome
  split
  · split
    · next ordered =>
      have idle : s.pumps[o.pump].state ≠ .queued := by rw [beq_iff_eq.mp ordered]; exact PumpState.noConfusion
      cases out with
      | accepted => exact (startAccepted_handles _ s).keeps idle h
      | refused reason => exact (startRefused_handles reason _ s).keeps idle h
    · exact h
  · split
    · next stopping =>
      have idle : s.pumps[o.pump].state ≠ .queued := by rw [beq_iff_eq.mp stopping]; exact PumpState.noConfusion
      cases out with
      | accepted => exact (stopAccepted_handles _ s).keeps idle h
      | refused reason => exact (stopRefused_handles reason _ s).keeps idle h
    · exact h

theorem QueueHoldsTheQueued.orderTimedOut (h : QueueHoldsTheQueued s) (o : Order) :
    QueueHoldsTheQueued (orderTimedOut o s) := by
  unfold Machine.orderTimedOut
  split
  · split
    · next ordered =>
      exact (startTimedOut_handles _ s).keeps (by rw [beq_iff_eq.mp ordered]; exact PumpState.noConfusion) h
    · exact h
  · split
    · next stopping =>
      exact (stopTimedOut_handles _ s).keeps (by rw [beq_iff_eq.mp stopping]; exact PumpState.noConfusion) h
    · exact h

/-! ### Silence, alarms, timers and requests -/

theorem QueueHoldsTheQueued.silencePump (h : QueueHoldsTheQueued s) (p : Pump) :
    QueueHoldsTheQueued (silencePump s p) := by
  unfold Machine.silencePump
  dsimp only
  split
  · next running =>
    refine ((((Handles.refl p s).releasePermit.updPump _ (by simp)).pumpChanged)).keeps ?_ h
    rcases (by simpa using running : s.pumps[p].state = .running ∨ s.pumps[p].state = .starting) with e | e <;>
      rw [e] <;> exact PumpState.noConfusion
  · exact h

theorem QueueHoldsTheQueued.tripActivated (h : QueueHoldsTheQueued s) (p : Pump) (c : Code) :
    QueueHoldsTheQueued (tripActivated p c s) := by
  have pend : QueueHoldsTheQueued (updPump p (fun r => { r with faultPending := some (.tripAlarm c) }) s) :=
    h.touch p _ (fun _ => by rfl)
  have state : (updPump p (fun r => { r with faultPending := some (.tripAlarm c) }) s).pumps[p].state = s.pumps[p].state := by
    rw [updPump_self]
  have stop {st : PumpState} (e : s.pumps[p].state = st) (hst : st ≠ .queued) : QueueHoldsTheQueued
      (issueStop .protect p (updPump p (fun r => { r with faultPending := some (.tripAlarm c) }) s)) :=
    (issueStop_handles _ p _).keeps (by rw [state, e]; exact hst) pend
  unfold Machine.tripActivated
  dsimp only
  split
  case h_1 => exact h.faultFromReport p _
  case h_2 => exact h.faultFromReport p _
  case h_3 => exact h.faultFromReport p _
  case h_4 => exact h.faultFromReport p _
  case h_5 e =>
    split
    · exact pend.touch p _ (fun _ => by rfl)
    · exact ((withdrawStart_handles p s).keeps (by rw [e]; exact PumpState.noConfusion) h).faultFromReport p _
  case h_6 e => exact stop e PumpState.noConfusion
  case h_7 e => exact stop e PumpState.noConfusion
  case h_8 => exact pend
  case h_9 => exact pend.touch p _ (fun _ => by rfl)
  case h_10 => exact h
  case h_11 => exact h
  case h_12 => exact h

theorem QueueHoldsTheQueued.isolatePump (h : QueueHoldsTheQueued s) (p : Pump) : QueueHoldsTheQueued (isolatePump p s) := by
  have pend : QueueHoldsTheQueued (Machine.notice (houseOf p) (updPump p (fun r => { r with isolatePending := true }) s)) :=
    (h.touch p (fun r => { r with isolatePending := true }) fun _ => rfl).notice (houseOf p)
  unfold Machine.isolatePump
  dsimp only
  split
  case h_1 => exact h.enterIsolated.pumpChanged
  case h_2 => exact h.enterIsolated.pumpChanged
  case h_3 => exact h.enterIsolated.pumpChanged
  case h_4 => exact h.enterIsolated.pumpChanged
  case h_5 => exact h.enterIsolated.pumpChanged
  case h_6 => exact pend
  case h_7 => exact pend
  case h_8 => exact pend
  case h_9 => exact pend
  case h_10 => exact pend
  case h_11 => exact h.notice _
  case h_12 => exact h

theorem returnByMinOff_handles (p : Pump) (s : State) : Handles p s (returnByMinOff p s) := by
  unfold returnByMinOff
  dsimp only
  refine Handles.pumpChanged (Handles.trans (Handles.trans ((Handles.refl p s).updPump _ fun r _ => ?_)
    (joinDuty_handles p _)) (actStopped_handles p _))
  dsimp only
  split <;> exact PumpState.noConfusion

theorem QueueHoldsTheQueued.restorePump (h : QueueHoldsTheQueued s) (p : Pump) : QueueHoldsTheQueued (restorePump p s) := by
  unfold Machine.restorePump
  dsimp only
  split
  · next isolated => exact (returnByMinOff_handles p s).keeps (by rw [beq_iff_eq.mp isolated]; exact PumpState.noConfusion) h
  · split
    · exact h.touch p _ (fun _ => by rfl)
    · exact h

theorem QueueHoldsTheQueued.clearPumpFault (h : QueueHoldsTheQueued s) {p : Pump} (faulted : s.pumps[p].state = .faulted)
    (c : FaultCause) : QueueHoldsTheQueued (clearPumpFault p c s) := by
  unfold Machine.clearPumpFault
  dsimp only
  exact ((returnByMinOff_handles p s).raise _ _ _).keeps (by rw [faulted]; exact PumpState.noConfusion) h

theorem QueueHoldsTheQueued.windowEnded (h : QueueHoldsTheQueued s) {p : Pump} (starting : s.pumps[p].state = .starting) :
    QueueHoldsTheQueued (windowEnded p s) := by
  unfold Machine.windowEnded
  dsimp only
  refine Handles.keeps (Handles.trans (Handles.raise ?_ _ _ _) (actStarted_handles p _))
    (by rw [starting]; exact PumpState.noConfusion) h
  exact Handles.pumpChanged ((Handles.refl p s).releasePermit.updPump _ (by simp))

theorem QueueHoldsTheQueued.minOffExpires (h : QueueHoldsTheQueued s) {p : Pump} (rest : s.pumps[p].state = .rest) :
    QueueHoldsTheQueued (minOffExpires p s) :=
  (((passRest_handles p s).trans (actStopped_handles p _)).pumpChanged).keeps
    (by rw [rest]; exact PumpState.noConfusion) h

theorem QueueHoldsTheQueued.releasePermit (h : QueueHoldsTheQueued s) (p : Pump) :
    QueueHoldsTheQueued (releasePermit p s) :=
  h.congr (fun q => by
    rw [get_of_set (releasePermit_pumps p s)]
    split
    · next e => rw [e]
    · rfl) (by simp)

end

end Sys2Proof.Machine
end

section
/-! SUPPORT. The Start Queue through every event of the part (R40, R92, R94), and the statement that every step keeps it. -/

namespace Sys2Proof.Machine

section
variable {s t : State}

/-! ### The Protection Unit -/

theorem QueueHoldsTheQueued.enterRecovery (h : QueueHoldsTheQueued s) (k : House) (c : Code) :
    QueueHoldsTheQueued (enterRecovery k c s) :=
  (((beginPeriod_aside s k c).queued h).dropHouseQueue k).notice k

theorem QueueHoldsTheQueued.activateAll (h : QueueHoldsTheQueued s) (k : House) (es : List AlarmEntry) :
    QueueHoldsTheQueued (activateAll k es s) := by
  refine QueueHoldsTheQueued.foldl (fun t e ht => ?_) _ (h.foldl (fun t e ht => ?_) _)
  · unfold lockoutActivated
    split
    · exact ht.enterRecovery k _
    · exact ht
  · have recorded (t : State) (ht : QueueHoldsTheQueued t) : QueueHoldsTheQueued (tripEffect t e) := by
      unfold tripEffect
      split
      case h_1 => exact ht.tripActivated _ _
      all_goals exact ht
    unfold activate
    dsimp only
    refine recorded _ ?_
    split
    · exact (((Aside.refl t).raise ..).updProtection k _).queued ht
    · exact ((Aside.refl t).raise ..).queued ht

theorem QueueHoldsTheQueued.listChanged (h : QueueHoldsTheQueued s) (k : House) (was : Bool) :
    QueueHoldsTheQueued (listChanged k was s) := by
  unfold Machine.listChanged
  split
  · exact (h.dropHouseQueue k).notice k
  · exact h.notice k

theorem QueueHoldsTheQueued.filterExpired (h : QueueHoldsTheQueued s) (k : House) (e : AlarmEntry) :
    QueueHoldsTheQueued (filterExpired k e s) :=
  ((((Aside.refl s).updProtection k _).queued h).activateAll k _).listChanged k _

theorem QueueHoldsTheQueued.applyItems (h : QueueHoldsTheQueued s) (k : House) (items : List AlarmItem) :
    QueueHoldsTheQueued (applyItems k items s) := by
  have taken : QueueHoldsTheQueued (items.foldl (takeItem k) s) := h.foldl (fun t i ht => (takeItem_aside t k i).queued ht) _
  unfold Machine.applyItems
  dsimp only
  have acted := ((Aside.refl _).updProtection k (dropAbsent items)).queued (taken.activateAll k
    (((items.foldl (takeItem k) s).protection[k].alarms.filter fun e =>
      e.activeAt.isNone && !(s.protection[k].alarms.any fun d => d.code == e.code))))
  split
  · exact acted.listChanged k _
  · exact acted

theorem QueueHoldsTheQueued.interlockOn (h : QueueHoldsTheQueued s) (k : House) (marking : Nat) :
    QueueHoldsTheQueued (interlockOn k marking s) := by
  unfold Machine.interlockOn
  split
  · exact h
  · exact (((((Aside.refl s).updProtection k _).raiseHouse ..).queued h).dropHouseQueue k).notice k

theorem QueueHoldsTheQueued.applyInterlock (h : QueueHoldsTheQueued s) (k : House) (flag : Bool) :
    QueueHoldsTheQueued (applyInterlock k flag s) := by
  unfold Machine.applyInterlock
  split
  · exact h.interlockOn k 0
  · exact (interlockOff_aside s k).queued h

theorem QueueHoldsTheQueued.recoveryExpired (h : QueueHoldsTheQueued s) (k : House) :
    QueueHoldsTheQueued (recoveryExpired k s) := by
  unfold Machine.recoveryExpired
  dsimp only
  split
  · split
    · unfold lockOut
      exact (((((Aside.refl s).updProtection k _).raiseHouse ..).queued h).dropHouseQueue k).notice k
    · exact (beginPeriod_aside s k _).queued h
  · exact (becomeClear_aside s k _).queued h

theorem QueueHoldsTheQueued.clearHouseRecord (h : QueueHoldsTheQueued s) (k : House) :
    QueueHoldsTheQueued (clearHouseRecord k s) := by
  have cleared := ((Aside.refl s).updProtection k
    (fun r => { r with faults := [], more := false, attempts := 0, forgiveAt := none })).queued h
  unfold Machine.clearHouseRecord
  dsimp only
  split
  · exact cleared
  · exact cleared
  · split
    · exact (becomeClear_aside _ k 1).queued cleared
    · exact cleared.enterRecovery k _

theorem QueueHoldsTheQueued.suppressHouse (h : QueueHoldsTheQueued s) (k : House) (on : Bool) :
    QueueHoldsTheQueued (suppressHouse k on s) := by
  have suppressed := ((Aside.refl s).updProtection k (fun r => { r with suppression := on })).queued h
  unfold Machine.suppressHouse
  dsimp only
  split
  · split
    · exact suppressed
    · exact suppressed.enterRecovery k _
  · exact suppressed

/-! ### The station bus -/

theorem leaveAwaited_parts (st : Station) (answering : Bool) (s : State) :
    (leaveAwaited st answering s).pumps = s.pumps ∧ (leaveAwaited st answering s).feeder = s.feeder := by
  unfold leaveAwaited
  split <;> exact ⟨rfl, rfl⟩

theorem QueueHoldsTheQueued.leaveAwaited (h : QueueHoldsTheQueued s) (st : Station) (answering : Bool) :
    QueueHoldsTheQueued (leaveAwaited st answering s) :=
  h.of_same (leaveAwaited_parts st answering s).1 (by rw [(leaveAwaited_parts st answering s).2])

theorem QueueHoldsTheQueued.becomeSilent (h : QueueHoldsTheQueued s) (st : Station) (reason : FailReason) :
    QueueHoldsTheQueued (becomeSilent st reason s) := by
  have levels := ((((Aside.refl s).updStation st (fun r => { r with state := .silent })).raise .stationSilent
    ((planOf s).servedHouse st) none none (stationAddress st) (failReasonCode reason)).trans (silenceLevels_aside _ st)).queued h
  have house (t : State) (ht : QueueHoldsTheQueued t) : QueueHoldsTheQueued (silenceHouse st t) := by
    unfold silenceHouse
    split
    · exact ht
    · exact (ht.foldl (fun _ p hu => hu.silencePump p) _).dropHouseQueue _
  exact (noticeServed_aside _ st).queued ((house _ levels).leaveAwaited st false)

theorem QueueHoldsTheQueued.failUnit (h : QueueHoldsTheQueued s) (unit : BusUnit) (reason : FailReason) :
    QueueHoldsTheQueued (failUnit unit reason s) := by
  unfold Machine.failUnit
  split
  · unfold noteFailure
    dsimp only
    have noted (st : Station) (f : StationLive → StationLive) : QueueHoldsTheQueued (updStation st f s) :=
      ((Aside.refl s).updStation st f).queued h
    split
    · exact (noted _ _).becomeSilent _ _
    · exact noted _ _
  · exact ((Aside.refl s).updMeterUnit _).queued h

theorem QueueHoldsTheQueued.stirs {loose : Prop} (h : QueueHoldsTheQueued s) (run : Stirs True loose s t) :
    QueueHoldsTheQueued t := run.queued h

theorem QueueHoldsTheQueued.meterShed (h : QueueHoldsTheQueued s) : QueueHoldsTheQueued (meterShed s) :=
  h.stirs (meterShed_stirs (loose := False) s)

theorem QueueHoldsTheQueued.updMeter (h : QueueHoldsTheQueued s) (f : MeterRecord → MeterRecord) :
    QueueHoldsTheQueued (updMeter f s) := h.of_same rfl rfl

theorem QueueHoldsTheQueued.evaluateHold (h : QueueHoldsTheQueued s) (reading : Nat) :
    QueueHoldsTheQueued (evaluateHold reading s) := by
  unfold Machine.evaluateHold endHold
  dsimp only
  split
  · split
    · exact h
    · exact (h.updMeter _).raisePart ..
  · split
    · exact ((h.updMeter _).raisePart ..).triggerPass
    · exact h

theorem QueueHoldsTheQueued.evaluatePhase (h : QueueHoldsTheQueued s) (reading : Nat) :
    QueueHoldsTheQueued (evaluatePhase reading s) := by
  have idle : QueueHoldsTheQueued (enterIdle s) := h.updMeter _
  unfold Machine.evaluatePhase
  dsimp only
  split
  · split
    · unfold beginFiltering
      dsimp only
      split
      · exact (h.updMeter _).meterShed
      · exact h.updMeter _
    · exact h
  · split
    · exact h
    · exact idle
  · split
    · exact h
    · exact idle
  · exact h

theorem QueueHoldsTheQueued.goodReading (h : QueueHoldsTheQueued s) (power : Nat) :
    QueueHoldsTheQueued (goodReading power s) := ((h.updMeter _).evaluateHold _).evaluatePhase _

theorem QueueHoldsTheQueued.applyReportHouse (h : QueueHoldsTheQueued s) (st : Station) (r : Report) :
    QueueHoldsTheQueued (applyReportHouse st r s) := by
  unfold Machine.applyReportHouse
  split
  · exact (noteItems_aside s st _).queued h
  · exact ((h.applyPumpEntries _ _).applyItems _ _).applyInterlock _ _

theorem QueueHoldsTheQueued.deliverReport (h : QueueHoldsTheQueued s) (st : Station) (r : Report) :
    QueueHoldsTheQueued (deliverReport st r s) :=
  (setPollDue_aside _ _).queued
    (((((goodReply_aside s st).trans (applyLevels_aside _ st _)).queued h).applyReportHouse st r).leaveAwaited st true)

theorem QueueHoldsTheQueued.requestUrgent (h : QueueHoldsTheQueued s) (unit : BusUnit) :
    QueueHoldsTheQueued (requestUrgent unit s) := by
  unfold Machine.requestUrgent
  split
  · exact h.of_same rfl rfl
  · exact h.of_same (by simp) (by simp)

theorem QueueHoldsTheQueued.setMainSettle (h : QueueHoldsTheQueued s) (k : House) :
    QueueHoldsTheQueued (setMainSettle k s) := h.of_same rfl rfl

theorem QueueHoldsTheQueued.houseOutcome (h : QueueHoldsTheQueued s) (k : House) (out : OrderOutcome) :
    QueueHoldsTheQueued (houseOutcome k out s) := by
  unfold Machine.houseOutcome
  split
  · exact h.setMainSettle k
  · exact h.interlockOn k 1
  all_goals exact h

theorem QueueHoldsTheQueued.deliverOrderReply (h : QueueHoldsTheQueued s) (st : Station) (o : Order) (out : OrderOutcome) :
    QueueHoldsTheQueued (deliverOrderReply st o out s) := by
  have good := (goodReply_aside s st).queued h
  unfold Machine.deliverOrderReply
  dsimp only
  refine QueueHoldsTheQueued.houseOutcome (QueueHoldsTheQueued.orderOutcome ?_ _ _) _ _
  split
  · exact good.requestUrgent _
  · exact good

theorem QueueHoldsTheQueued.deliverMeterReply (h : QueueHoldsTheQueued s) (reading : Option Nat) :
    QueueHoldsTheQueued (deliverMeterReply reading s) := by
  have good := ((Aside.refl s).updMeterUnit (fun r => { r with good := satSucc 65535 r.good })).queued h
  unfold Machine.deliverMeterReply
  refine (setPollDue_aside _ _).queued ?_
  split
  · exact good
  · exact good.goodReading _

theorem QueueHoldsTheQueued.deliverFailure (h : QueueHoldsTheQueued s) (f : Flight) (reason : FailReason) :
    QueueHoldsTheQueued (deliverFailure f reason s) := by
  unfold Machine.deliverFailure
  split
  · exact (setPollDue_aside _ _).queued (h.failUnit _ _)
  · exact (setPollDue_aside _ _).queued (h.failUnit _ _)
  · exact ((h.orderTimedOut _).setMainSettle _).failUnit _ _

theorem QueueHoldsTheQueued.endTransaction (h : QueueHoldsTheQueued s) (f : Flight) (r : Except FailReason GoodReply) :
    QueueHoldsTheQueued (endTransaction f r s) := by
  have freed : QueueHoldsTheQueued (busFreed s) := h.of_same rfl rfl
  unfold Machine.endTransaction
  dsimp only
  split
  · exact freed
  · unfold deliverOutcome
    split
    · exact freed.deliverFailure f _
    · exact freed.deliverReport _ _
    · exact freed.deliverOrderReply _ _ _
    · exact freed.deliverMeterReply _

theorem QueueHoldsTheQueued.takeBusBytes (h : QueueHoldsTheQueued s) (bs : List Byte) :
    QueueHoldsTheQueued (takeBusBytes bs s) := by
  refine h.foldl (fun t b ht => ?_) _
  unfold takeBusByte
  split
  · exact ht
  · split
    · unfold joinReply
      dsimp only
      split
      · exact ht.endTransaction _ _
      · exact ht.of_same rfl rfl
    · exact ht

theorem QueueHoldsTheQueued.requestSent (h : QueueHoldsTheQueued s) : QueueHoldsTheQueued (requestSent s) := by
  unfold Machine.requestSent
  split
  · exact h
  · split
    · exact h.of_same rfl rfl
    · exact h

theorem QueueHoldsTheQueued.replyTimedOut (h : QueueHoldsTheQueued s) : QueueHoldsTheQueued (replyTimedOut s) := by
  unfold Machine.replyTimedOut
  split
  · exact h
  · split
    · exact h.endTransaction _ _
    · exact h

theorem QueueHoldsTheQueued.busGap (h : QueueHoldsTheQueued s) : QueueHoldsTheQueued (busGap s) := by
  unfold Machine.busGap
  split
  · exact h
  · exact h.of_same rfl rfl

theorem QueueHoldsTheQueued.pollDueReached (h : QueueHoldsTheQueued s) (unit : BusUnit) :
    QueueHoldsTheQueued (pollDueReached unit s) := by
  have cleared := (clearPollDue_aside s unit).queued h
  unfold Machine.pollDueReached
  dsimp only
  split
  · exact cleared
  · unfold requestRoutine
    split
    · exact cleared
    · exact cleared.of_same (by simp) (by simp)

/-! ### Timers -/

theorem QueueHoldsTheQueued.mainSettles (h : QueueHoldsTheQueued s) (k : House) (feederFirst : Bool) :
    QueueHoldsTheQueued (mainSettles k feederFirst s) := by
  have marked : QueueHoldsTheQueued (Machine.updHouse k (fun r => { r with mainSettledAt := none }) s) := h.updHouse k _
  unfold Machine.mainSettles
  dsimp only
  split
  · have kept : Kept True (fun _ => False) fun _ => True :=
      ⟨fun _ _ _ => trivial, fun _ _ _ _ _ => trivial, fun _ _ => trivial⟩
    have held : Holding True (fun _ => False) (fun _ => True) (shedTest (Machine.updHouse k (fun r => { r with mainSettledAt := none }) s)) :=
      ⟨⟨trivial, marked.stirs (shedTest_stirs (loose := False) _), fun c => absurd trivial c⟩, fun _ => False.elim⟩
    exact (held.admissionPass kept fun _ => False.elim).queued.notice k
  · exact (marked.stirs (evaluateHouse_stirs (loose := True) (.inl trivial))).callShedTest.triggerPass

theorem QueueHoldsTheQueued.meterBecomesStale (h : QueueHoldsTheQueued s) : QueueHoldsTheQueued (meterBecomesStale s) := by
  unfold Machine.meterBecomesStale enterIdle endHold
  dsimp only
  refine QueueHoldsTheQueued.updMeter ?_ _
  split
  · exact ((((h.updMeter _).raisePart ..).updMeter _).raisePart ..).triggerPass
  · exact (h.updMeter _).raisePart ..

theorem QueueHoldsTheQueued.phaseExpired (h : QueueHoldsTheQueued s) : QueueHoldsTheQueued (phaseExpired s) := by
  have due : QueueHoldsTheQueued (enterDue s) := (h.updMeter _).meterShed
  unfold Machine.phaseExpired
  split
  · exact h
  · exact due
  · exact h
  · split
    · exact due
    · exact h.updMeter _

theorem QueueHoldsTheQueued.cross (h : QueueHoldsTheQueued s) : QueueHoldsTheQueued (cross s) := by
  unfold Machine.cross
  split
  · exact h
  · dsimp only
    have advanced : QueueHoldsTheQueued (if s.time.crossingWaits then s else advanceUptime s) := by
      split
      · exact h
      · exact h.of_same rfl rfl
    generalize (if s.time.crossingWaits then s else advanceUptime s) = a at advanced
    split
    · exact (crossMidnight_aside _ _).queued (advanced.of_same rfl rfl)
    · exact (crossMinute_aside _ _ _).queued (advanced.of_same rfl rfl)

theorem QueueHoldsTheQueued.passSecond (h : QueueHoldsTheQueued s) : QueueHoldsTheQueued (passSecond s) := by
  unfold Machine.passSecond
  dsimp only
  split <;> exact h.of_same rfl rfl

/-! ### Restarts -/

/-- A part with no QUEUED pump and an empty queue. -/
theorem QueueHoldsTheQueued.of_empty (queue : s.feeder.queue = []) (pumps : ∀ p : Pump, s.pumps[p].state ≠ .queued) :
    QueueHoldsTheQueued s := by
  refine ⟨fun e he => ?_, fun p hp => absurd hp (pumps p), ?_⟩
  · rw [queue] at he
    cases he
  · rw [queue]
    exact List.nodup_nil

theorem startRecords_queued (s : State) : QueueHoldsTheQueued (startRecords s) := by
  unfold startRecords
  dsimp only
  refine QueueHoldsTheQueued.foldl (fun t h ht => ?_) _ (QueueHoldsTheQueued.of_empty rfl fun p => ?_)
  · exact ((Aside.refl t).updHydraulics h _).queued ht
  · simp only [Fin.getElem_fin, Vector.getElem_ofFn, startPump]
    split <;> exact PumpState.noConfusion

/-- Every block's form after a restart with an active bank has an empty Start Queue and no QUEUED pump (R36, R107). -/
theorem startPlanned_queued (s : State) : QueueHoldsTheQueued (startPlanned s) := by
  have records := (reestablish_aside _).queued (startRecords_queued (startBus s))
  have cap : QueueHoldsTheQueued (startCap (reestablish (startRecords (startBus s)))) := by
    unfold startCap
    dsimp only
    generalize reestablish (startRecords (startBus s)) = t at records
    split
    · exact records.of_same rfl rfl
    · refine QueueHoldsTheQueued.raise ?_ ..
      exact records.of_same rfl rfl
  unfold startPlanned
  generalize startCap (reestablish (startRecords (startBus s))) = t at cap
  exact cap.of_same rfl rfl

theorem restartWith_queued (cause : RestartCause) (invalid : Option Nat) (s : State) :
    QueueHoldsTheQueued (restartWith cause invalid s) := by
  have cleared : QueueHoldsTheQueued (restartedFirst cause (clearBlocks cause s)) :=
    QueueHoldsTheQueued.of_empty rfl fun p => by
      have blank : (restartedFirst cause (clearBlocks cause s)).pumps[p] = blankPump := by
        simp [restartedFirst, raisePart, clearBlocks]
      rw [blank]
      exact PumpState.noConfusion
  unfold restartWith
  dsimp only
  generalize restartedFirst cause (clearBlocks cause s) = a at cleared
  refine QueueHoldsTheQueued.finish ?_
  have blocks (b : State) (hb : QueueHoldsTheQueued b) : QueueHoldsTheQueued (if planned b then startPlanned b else b) := by
    split
    · exact startPlanned_queued b
    · exact hb
  split
  · exact blocks _ cleared
  · exact blocks _ (cleared.raisePart ..)

/-! ### A swap -/

theorem QueueHoldsTheQueued.dropStation (h : QueueHoldsTheQueued s) (st : Station) : QueueHoldsTheQueued (dropStation s st) :=
  h.of_same rfl rfl

theorem QueueHoldsTheQueued.carryStations (h : QueueHoldsTheQueued s) (old : Plan) :
    QueueHoldsTheQueued (carryStations old s) := by
  refine QueueHoldsTheQueued.foldl (fun t st ht => ?_) _ (h.foldl (fun t st ht => ht.dropStation st) _)
  exact (((Aside.refl t).updStation st _).queued ht).requestUrgent _

theorem QueueHoldsTheQueued.carryPumps (h : QueueHoldsTheQueued s) (old : Plan) :
    QueueHoldsTheQueued (carryPumps old s) := by
  refine QueueHoldsTheQueued.foldl (fun t p ht => ?_) _ (h.foldl (fun t k ht => ?_) _)
  · unfold carryPump
    split
    · unfold keepPump
      split
      · exact ht.unqueue p
      · exact ht
    · split
      · exact (ht.leave (p := p) (fun _ => blankPump) PumpState.noConfusion).of_same rfl rfl
      · split
        · have ready := (ht.leave (p := p) (fun _ => { blankPump with state := .ready }) PumpState.noConfusion).of_same
            (t := joinDuty p (updPump p (fun _ => { blankPump with state := .ready }) (leaveStartQueue p t))) rfl rfl
          exact ready.requestUrgent _
        · exact ht
  · unfold carryHouse
    dsimp only
    split
    · exact ht.of_same rfl rfl
    · split <;> exact ht.of_same rfl rfl

theorem insertSorted_perm (s : State) (n : StartEntry) (es : List StartEntry) : (insertSorted s n es).Perm (n :: es) := by
  induction es with
  | nil => exact .refl _
  | cons e es ih =>
    unfold insertSorted
    split
    · exact (ih.cons e).trans (.swap n e es)
    · exact .refl _

/-- A re-sort loses and adds no entry (R95). -/
theorem resort_perm (s : State) (es : List StartEntry) : (es.foldr (insertSorted s) []).Perm es := by
  induction es with
  | nil => exact .refl _
  | cons e es ih => exact (insertSorted_perm s e _).trans (ih.cons e)

theorem QueueHoldsTheQueued.resortQueue (h : QueueHoldsTheQueued s) : QueueHoldsTheQueued (resortQueue s) := by
  obtain ⟨entries, pumps, nodup⟩ := h.ids
  exact QueueHoldsTheQueued.of_ids (s := Machine.resortQueue s) ((resort_perm s s.feeder.queue).map _) entries pumps nodup

theorem rebookAll_states (s : State) : SameStates s (rebookAll s) := fun p => by
  simp [rebookAll]

theorem QueueHoldsTheQueued.carryFeeder (h : QueueHoldsTheQueued s) : QueueHoldsTheQueued (carryFeeder s) := by
  have sorted := (h.congr (rebookAll_states s) (by simp [rebookAll, resum])).resortQueue
  have meter : QueueHoldsTheQueued (meterAtSwap (Machine.resortQueue (rebookAll s))) := by
    generalize Machine.resortQueue (rebookAll s) = t at sorted
    unfold meterAtSwap
    split
    · split
      · exact sorted
      · exact (sorted.evaluateHold _).evaluatePhase _
    · exact sorted
  exact meter.callShedTest

theorem QueueHoldsTheQueued.settleAll (h : QueueHoldsTheQueued s) : QueueHoldsTheQueued (settleAll s) := by
  have kept : Kept True (fun _ => False) fun _ => True :=
    ⟨fun _ _ _ => trivial, fun _ _ _ _ _ => trivial, fun _ _ => trivial⟩
  exact (Holding.settleAll kept ⟨⟨trivial, h, fun c => absurd trivial c⟩, fun _ => False.elim⟩).2

theorem QueueHoldsTheQueued.noticeAll (h : QueueHoldsTheQueued s) (ks : List House) :
    QueueHoldsTheQueued (noticeAll ks s) := h.foldl (fun _ k ht => ht.notice k) _

theorem QueueHoldsTheQueued.carrySurvey (h : QueueHoldsTheQueued s) (old : Plan) :
    QueueHoldsTheQueued (carrySurvey old s) := by
  unfold Machine.carrySurvey
  split
  · exact h.of_same rfl rfl
  · exact h

theorem QueueHoldsTheQueued.endSwapSurvey (h : QueueHoldsTheQueued s) : QueueHoldsTheQueued (endSwapSurvey s) :=
  h.of_same rfl rfl

theorem QueueHoldsTheQueued.swapPlanned (h : QueueHoldsTheQueued s) (old : Plan) :
    QueueHoldsTheQueued (swapPlanned old s) := by
  have carried := ((((carryAllProtection_aside _ old).queued (h.carryStations old)).carryPumps old))
  have fed := ((carryTimetable_aside _ old).queued ((carryLevels_aside _ old).queued carried)).carryFeeder
  exact (((fed.carrySurvey old).noticeAll _).triggerPass.settleAll).endSwapSurvey

theorem QueueHoldsTheQueued.takeSwap (h : QueueHoldsTheQueued s) (k : BankId) : QueueHoldsTheQueued (takeSwap k s) := by
  have active : QueueHoldsTheQueued { s with banks := { s.banks with active := some k } } := h.of_same rfl rfl
  have selected : QueueHoldsTheQueued (selectBank k s) := active.raisePart ..
  unfold Machine.takeSwap
  dsimp only
  split
  · exact QueueHoldsTheQueued.swapPlanned selected _
  · exact startPlanned_queued _

/-! ### Requests -/

theorem updBank_pumps (k : BankId) (f : Bank → Bank) (s : State) : (updBank k f s).pumps = s.pumps := by
  cases k <;> rfl

theorem updBank_feeder (k : BankId) (f : Bank → Bank) (s : State) : (updBank k f s).feeder = s.feeder := by
  cases k <;> rfl

theorem QueueHoldsTheQueued.updBank (h : QueueHoldsTheQueued s) (k : BankId) (f : Bank → Bank) :
    QueueHoldsTheQueued (updBank k f s) := h.of_same (updBank_pumps k f s) (by rw [updBank_feeder])

@[simp] theorem taken_fst (items : List Byte) (s : State) : (taken items s).1 = s := rfl

/-- A request carried out keeps the queue. -/
def KeepsQueue (carry : State → State × List Byte) : Prop := ∀ s, QueueHoldsTheQueued s → QueueHoldsTheQueued (carry s).1

theorem KeepsQueue.withLength {carry : State → State × List Byte} (h : KeepsQueue carry) (n : Nat) (body : List Byte) :
    KeepsQueue (withLength n body carry) := fun s hs => by
  unfold Machine.withLength
  split
  · exact h s hs
  · exact hs

theorem KeepsQueue.withBank {carry : BankId → State → State × List Byte} (h : ∀ k, KeepsQueue (carry k)) (body : List Byte) :
    KeepsQueue (withBank body carry) := fun s hs => by
  unfold Machine.withBank
  split
  · exact hs
  · exact h _ s hs

theorem KeepsQueue.withHouse {carry : House → State → State × List Byte} (h : ∀ k, KeepsQueue (carry k)) (body : List Byte) :
    KeepsQueue (withHouse body carry) := fun s hs => by
  unfold Machine.withHouse
  split
  · exact hs
  · split
    · exact hs
    · split
      · exact h _ s hs
      · exact hs

theorem KeepsQueue.withPump {carry : Pump → State → State × List Byte} (h : ∀ p, KeepsQueue (carry p)) (body : List Byte) :
    KeepsQueue (withPump body carry) := fun s hs => by
  unfold Machine.withPump
  split
  · exact hs
  · split
    · exact hs
    · split
      · exact h _ s hs
      · exact hs

theorem takeTime_queued (h : QueueHoldsTheQueued s) (new : NetTime) : QueueHoldsTheQueued (takeTime new s) := by
  unfold takeTime
  dsimp only
  have set : QueueHoldsTheQueued (raisePart .timeSet ((s.time.net.map fun o => o.second / 60).getD 65535)
      (jumpCode (jumpKind s.time.net new)) { s with time := { s.time with net := some new, crossingWaits := false } }) :=
    h.of_same rfl rfl
  split
  · exact (reevaluateCap_aside _).queued ((applyJump_aside _ _ _ _).queued set)
  · exact set

theorem carrySetTime_queued (body : List Byte) : KeepsQueue (carrySetTime body) :=
  KeepsQueue.withLength (fun s hs => by
    split
    · exact hs
    · split
      · exact (takeTime_queued hs _).settleAll
      · exact hs) 5 body

theorem carryTableWrite_queued (body : List Byte) : KeepsQueue (carryTableWrite body) := fun s hs => by
  unfold carryTableWrite
  split
  · exact hs
  · split
    · exact hs
    · split
      · exact hs
      · split
        · exact hs
        · unfold writeRecords
          split
          · exact hs
          · split
            · exact hs
            · split
              · exact hs
              · split
                · exact hs
                · split
                  · exact hs
                  · exact hs.updBank _ _

theorem carryTableRead_queued (body : List Byte) : KeepsQueue (carryTableRead body) :=
  KeepsQueue.withLength (fun s hs => by
    split
    · split <;> exact hs
    · exact hs
    · exact hs) 4 body

theorem carryBankClear_queued (body : List Byte) : KeepsQueue (carryBankClear body) :=
  (KeepsQueue.withBank (fun k s hs => by
    unfold clearBank
    split
    · exact hs
    · split
      · exact hs
      · exact hs.updBank _ _) body).withLength 1 body

theorem carryBankCheck_queued (body : List Byte) : KeepsQueue (carryBankCheck body) :=
  (KeepsQueue.withBank (fun k s hs => by
    unfold checkBank
    dsimp only
    split
    · exact hs
    · split
      · exact hs.updBank _ _
      · exact hs.updBank _ _) body).withLength 1 body

theorem carryBankSwap_queued (body : List Byte) : KeepsQueue (carryBankSwap body) :=
  (KeepsQueue.withBank (fun k s hs => by
    unfold swapBank
    split
    · exact hs
    · exact (hs.takeSwap k).settleAll) body).withLength 1 body

theorem carryPlanStore_queued (body : List Byte) : KeepsQueue (carryPlanStore body) :=
  KeepsQueue.withLength (fun s hs => by
    split
    · exact hs
    · split
      · exact hs
      · exact hs.of_same rfl rfl) 0 body

theorem carryHouseMode_queued (body : List Byte) : KeepsQueue (carryHouseMode body) :=
  (KeepsQueue.withHouse (fun h s hs => by
    unfold modeOf
    split
    · exact hs
    · next mode _ =>
      have moded : QueueHoldsTheQueued (takeMode h mode s) := (hs.updHouse h _).notice h
      rw [taken_fst]
      exact moded.settleAll) body).withLength 2 body

theorem carryHouseTarget_queued (body : List Byte) : KeepsQueue (carryHouseTarget body) :=
  (KeepsQueue.withHouse (fun h s hs => by
    unfold targetOf
    split
    · have targeted : QueueHoldsTheQueued (takeTarget h (fieldAt body 1 1) s) := (hs.updHouse h _).notice h
      exact targeted.settleAll
    · exact hs) body).withLength 2 body

theorem carryHouseClear_queued (body : List Byte) : KeepsQueue (carryHouseClear body) :=
  (KeepsQueue.withHouse (fun h _ hs => (hs.clearHouseRecord h).settleAll) body).withLength 1 body

theorem carryHouseSuppress_queued (body : List Byte) : KeepsQueue (carryHouseSuppress body) :=
  (KeepsQueue.withHouse (fun h s hs => by
    unfold suppressOf
    split
    · exact hs
    · exact (hs.suppressHouse h _).settleAll) body).withLength 2 body

theorem carryPumpIsolate_queued (body : List Byte) : KeepsQueue (carryPumpIsolate body) :=
  (KeepsQueue.withPump (fun p _ hs => (hs.isolatePump p).settleAll) body).withLength 1 body

theorem carryPumpRestore_queued (body : List Byte) : KeepsQueue (carryPumpRestore body) :=
  (KeepsQueue.withPump (fun p _ hs => (hs.restorePump p).settleAll) body).withLength 1 body

theorem carryPumpClear_queued (body : List Byte) : KeepsQueue (carryPumpClear body) :=
  (KeepsQueue.withPump (fun p s hs => by
    unfold clearFaultOf
    split
    · next faulted _ =>
      rw [taken_fst]
      exact (hs.clearPumpFault faulted _).settleAll
    · exact hs) body).withLength 1 body

theorem carryStateRead_queued (body : List Byte) : KeepsQueue (carryStateRead body) :=
  KeepsQueue.withLength (fun s hs => by
    split <;> exact hs) 3 body

/-- A request of every kind keeps the queue. -/
theorem carryOut_queued (kind : Nat) (body : List Byte) : KeepsQueue (carryOut kind body) := fun s hs => by
  have same : KeepsQueue fun s => taken [] s := fun _ h => h
  unfold carryOut
  split
  · exact KeepsQueue.withLength (fun _ h => h) 0 body s hs
  · exact carrySetTime_queued body s hs
  · exact carryTableWrite_queued body s hs
  · exact carryTableRead_queued body s hs
  · exact carryBankClear_queued body s hs
  · exact carryBankCheck_queued body s hs
  · exact carryBankSwap_queued body s hs
  · exact carryPlanStore_queued body s hs
  · exact carryHouseMode_queued body s hs
  · exact carryHouseTarget_queued body s hs
  · exact carryHouseClear_queued body s hs
  · exact carryHouseSuppress_queued body s hs
  · exact carryPumpIsolate_queued body s hs
  · exact carryPumpRestore_queued body s hs
  · exact carryPumpClear_queued body s hs
  · exact carryStateRead_queued body s hs
  · exact KeepsQueue.withLength (fun _ h => h) 0 body s hs
  · exact same.withLength 0 body s hs
  · exact hs

/-! ### The supervisory link -/

theorem takeRequest_queued (f : Frame) (h : QueueHoldsTheQueued s) : QueueHoldsTheQueued (takeRequest f s) := by
  have counted : QueueHoldsTheQueued (updCounters (fun c => { c with framesTaken := satSucc 65535 c.framesTaken }) s) :=
    h.of_same rfl rfl
  have carried := carryOut_queued f.kind.toNat f.body _ counted
  unfold takeRequest
  dsimp only
  generalize carryOut f.kind.toNat f.body _ = r at carried
  exact carried.of_same rfl rfl

theorem QueueHoldsTheQueued.takeNext (h : QueueHoldsTheQueued s) : QueueHoldsTheQueued (takeNext s) := by
  unfold Machine.takeNext
  split
  · exact takeRequest_queued _ (h.of_same rfl rfl)
  · exact h
  · exact h

theorem QueueHoldsTheQueued.acceptFrame (h : QueueHoldsTheQueued s) (f : Frame) : QueueHoldsTheQueued (acceptFrame f s) := by
  unfold Machine.acceptFrame
  split
  · exact h.of_same rfl rfl
  · exact QueueHoldsTheQueued.takeNext (h.of_same rfl rfl)

theorem QueueHoldsTheQueued.takeSupByte (h : QueueHoldsTheQueued s) (b : Byte) : QueueHoldsTheQueued (takeSupByte s b) := by
  have receiving (r : Receiver) : QueueHoldsTheQueued (setReceiver r s) := h.of_same rfl rfl
  unfold Machine.takeSupByte
  split
  · split
    · exact receiving _
    · exact h
  · unfold joinFrame completeFrame
    dsimp only
    split
    · exact (receiving .hunt).of_same rfl rfl
    · split
      · split
        · exact (receiving .hunt).acceptFrame _
        · exact (receiving .hunt).of_same rfl rfl
      · exact receiving _

theorem QueueHoldsTheQueued.storeCompletes (h : QueueHoldsTheQueued s) (crc : Bool) :
    QueueHoldsTheQueued (storeCompletes crc s) := by
  unfold Machine.storeCompletes
  split
  · exact h
  · split <;> exact h.of_same rfl rfl

/-! ### Every step -/

/-- An effect keeps the queue. -/
def EffectKeeps (effect : State → State) (s : State) : Prop := QueueHoldsTheQueued s → QueueHoldsTheQueued (effect s)

theorem live_queued {effect : State → State} (h : QueueHoldsTheQueued s) (keeps : EffectKeeps effect s)
    (step : live effect s = .next t) : QueueHoldsTheQueued t := by
  unfold live at step
  cases step
  split
  · exact h
  · exact (keeps h).finish

/-- Every command keeps the Start Queue (R40, R92, R94). -/
theorem exec_queued (c : Instr) (h : QueueHoldsTheQueued s) (step : exec c s = .next t) : QueueHoldsTheQueued t := by
  have request {f : Frame} (step : live (acceptFrame f) s = .next t) : QueueHoldsTheQueued t :=
    live_queued h (fun h => h.acceptFrame f) step
  have due {due : State → Bool} {effect : State → State} (keeps : due s = true → QueueHoldsTheQueued (effect s))
      (step : live (fun s => whenDue (due s) effect s) s = .next t) : QueueHoldsTheQueued t := by
    refine live_queued h (fun h => ?_) step
    unfold whenDue
    split
    · next c => exact keeps c
    · exact h
  cases c with
  | powerOn => cases step; exact restartWith_queued _ _ _
  | resetAsserted => cases step; exact h.of_same rfl rfl
  | resetLine => cases step; exact restartWith_queued _ _ _
  | hostRestart =>
    simp only [exec, execHostRestart] at step
    split at step <;> cases step
    · exact h
    · exact restartWith_queued _ _ _
  | supFrameReceived bytes =>
    exact live_queued (effect := fun s => bytes.foldl takeSupByte s) h (fun h => h.foldl (fun _ b ht => ht.takeSupByte b) _) step
  | supByteReceived byte stopBit =>
    refine live_queued (effect := fun s => if stopBit then takeSupByte s byte else brokenByte s) h (fun h => ?_) step
    dsimp only
    split
    · exact h.takeSupByte byte
    · unfold brokenByte
      split
      · exact h
      · exact h.of_same rfl rfl
  | supGapExpiry =>
    refine live_queued (effect := supGap) h (fun h => ?_) step
    unfold supGap
    split
    · exact h
    · exact h.of_same rfl rfl
  | replySent =>
    simp only [exec, execReplySent] at step
    split at step
    · cases step
      exact h
    · split at step
      · cases step
        exact restartWith_queued _ _ _
      · exact live_queued h (fun h => (h.of_same (t := { s with link := { s.link with reply := none } }) rfl rfl).takeNext) step
  | ident => exact request step
  | setTime => exact request step
  | tableWrite => exact request step
  | tableRead => exact request step
  | bankClear => exact request step
  | bankCheck => exact request step
  | bankSwap => exact request step
  | planStore => exact request step
  | houseMode => exact request step
  | houseTarget => exact request step
  | houseClear => exact request step
  | houseSuppress => exact request step
  | pumpIsolate => exact request step
  | pumpRestore => exact request step
  | pumpClear => exact request step
  | stateRead => exact request step
  | eventRead => exact request step
  | restart => exact request step
  | unknownKind => exact request step
  | minuteCrossing =>
    exact due (due := minuteIsNext) (effect := cross) (fun _ => h.cross) step
  | midnightCrossing =>
    exact due (due := midnightIsNext) (effect := cross) (fun _ => h.cross) step
  | busRequestSent => exact live_queued h (fun h => h.requestSent) step
  | busByteReceived byte => exact live_queued h (fun h => h.takeBusBytes [byte]) step
  | report bytes =>
    rw [exec_report] at step
    exact due (due := fun s => inFlight s _) (effect := takeBusBytes bytes) (fun _ => h.takeBusBytes bytes) step
  | orderReply bytes =>
    rw [exec_orderReply] at step
    exact due (due := fun s => inFlight s _) (effect := takeBusBytes bytes) (fun _ => h.takeBusBytes bytes) step
  | meterReply bytes =>
    rw [exec_meterReply] at step
    exact due (due := fun s => inFlight s _) (effect := takeBusBytes bytes) (fun _ => h.takeBusBytes bytes) step
  | replyTimeout => exact live_queued h (fun h => h.replyTimedOut) step
  | busGapExpiry => exact live_queued h (fun h => h.busGap) step
  | pollDue unit =>
    exact due (due := fun s => pollIsDue s unit) (effect := pollDueReached unit) (fun _ => h.pollDueReached unit) step
  | levelStale tank =>
    exact due (due := fun s => levelIsStale s tank) (effect := levelBecomesStale tank) (fun _ => (levelBecomesStale_aside s tank).queued h) step
  | conditionFilterExpiry house condition =>
    exact due (due := fun s => conditionIsDue s house condition) (effect := conditionActivates house condition) (fun _ => (conditionActivates_aside s house condition).queued h) step
  | startWindowEnd pump =>
    refine due (due := fun s => windowIsOver s pump) (effect := windowEnded pump) (fun ended => h.windowEnded ?_) step
    simp only [windowIsOver, Bool.and_eq_true, beq_iff_eq] at ended
    exact ended.1
  | permitReleaseExpiry pump =>
    exact due (due := fun s => permitIsDue s pump) (effect := releasePermit pump) (fun _ => h.releasePermit pump) step
  | minRunExpiry pump =>
    exact due (due := fun s => minRunIsOver s pump) (effect := minRunExpires pump) (fun _ => QueueHoldsTheQueued.notice (h.touch pump _ fun _ => by rfl) _) step
  | minOffExpiry pump =>
    refine due (due := fun s => minOffIsOver s pump) (effect := minOffExpires pump) (fun ended => h.minOffExpires ?_) step
    simp only [minOffIsOver, Bool.and_eq_true, beq_iff_eq] at ended
    exact ended.1
  | startHistoryExpiry pump =>
    exact due (due := fun s => historyIsDue s pump) (effect := historyExpires pump) (fun _ => QueueHoldsTheQueued.notice (h.touch pump _ fun _ => by rfl) _) step
  | mainSettled house feederFirst =>
    exact due (due := fun s => mainIsDue s house) (effect := mainSettles house feederFirst) (fun _ => h.mainSettles house feederFirst) step
  | meterStale =>
    exact due (due := meterIsStale) (effect := meterBecomesStale) (fun _ => h.meterBecomesStale) step
  | meterPhaseExpiry =>
    exact due (due := phaseIsOver) (effect := phaseExpired) (fun _ => h.phaseExpired) step
  | ttEnded entry =>
    refine due (due := fun s => windowIsDue s entry) (effect := windowExpires entry) (fun _ => ?_) step
    unfold windowExpires
    split
    · exact h
    · exact (endWindow_aside s _ 0).queued h
  | alarmFilterExpiry house code =>
    refine due (due := fun s => alarmIsDue s house code) (effect := alarmExpires house code) (fun _ => ?_) step
    unfold alarmExpires
    split
    · exact h
    · exact h.filterExpired house _
  | recoveryExpiry house =>
    exact due (due := fun s => recoveryIsOver s house) (effect := recoveryExpired house) (fun _ => h.recoveryExpired house) step
  | forgiveExpiry house =>
    exact due (due := fun s => forgiveIsDue s house) (effect := forgive house) (fun _ => ((Aside.refl s).updProtection house _).queued h) step
  | storeWriteComplete crc => exact live_queued h (fun h => h.storeCompletes crc) step

end

/-- Settles O56: the command at the front of the queue, an event that is due, and a second that passes each keep it. -/
theorem startQueueHoldsTheQueued : Obligations.StartQueueHoldsTheQueued := by
  intro s t h taken
  unfold step at taken
  split at taken
  · next c rest _ =>
    exact exec_queued (s := { s with pending := rest }) c (h.of_same rfl rfl) taken
  · unfold idle at taken
    split at taken
    · cases taken
      exact h
    · split at taken
      · exact exec_queued _ h taken
      · cases taken
        exact h.passSecond.finish

end Sys2Proof.Machine
end

section
/-! SUPPORT. How a request is refused (R188): by its body length, and the house and pump requests by the record they name. -/

namespace Sys2Proof.Machine

/-! ### The length test -/

/-- A request of a kind with a fixed body length is carried out behind its length test. -/
theorem carryOut_sized {kind : Byte} {n : Nat} (h : bodyLength kind = some n) :
    kind.toNat ≤ 18 ∧ (kind = 18#8 → n = 0) ∧
      ∃ carry : List Byte → State → State × List Byte, ∀ body s, carryOut kind.toNat body s = withLength n body (carry body) s := by
  have eighteen : kind = 18#8 → kind.toNat = 18 := by
    rintro rfl
    rfl
  unfold bodyLength at h
  split at h
  all_goals cases h
  all_goals
    next k =>
      refine ⟨by omega, fun e => ?_, ?_⟩
      · have := eighteen e
        omega
      · rw [k]
        exact ⟨_, fun _ _ => rfl⟩

/-- The reply to a request of a defined kind has the kind plus 128 (R184). -/
theorem replyKindOf_small {kind : Byte} (h : kind.toNat ≤ 18) : replyKindOf kind = kind + 128#8 := if_neg (by omega)

theorem withLength_short {n : Nat} {body : List Byte} (h : body.length ≠ n) (carry : State → State × List Byte) (s : State) :
    withLength n body carry s = (s, [1#8]) := if_neg h

theorem withLength_exact {n : Nat} {body : List Byte} (h : body.length = n) (carry : State → State × List Byte) (s : State) :
    withLength n body carry s = carry s := if_pos h

/-! ### The record a request names -/

theorem fieldAt_head {body : List Byte} (h : body ≠ []) : fieldAt body 0 1 = (body.headD 0#8).toNat := by
  obtain ⟨b, bs, rfl⟩ := List.exists_cons_of_ne_nil h
  simp [fieldAt, ofBytes_single]

theorem withHouse_unplanned {s : State} (h : planned s = false) (body : List Byte) (carry : House → State → State × List Byte) :
    withHouse body carry s = (s, [12#8]) := if_pos (by simp [h])

theorem withPump_unplanned {s : State} (h : planned s = false) (body : List Byte) (carry : Pump → State → State × List Byte) :
    withPump body carry s = (s, [12#8]) := if_pos (by simp [h])

/-- A house request for a house that is not in use. -/
theorem withHouse_unused {s : State} {body : List Byte} (h : planned s = true) (some_byte : body ≠ [])
    (unused : ∀ k : House, k.val = (body.headD 0#8).toNat → houseInUse s k = false)
    (carry : House → State → State × List Byte) : withHouse body carry s = (s, [3#8]) := by
  unfold withHouse
  rw [if_neg (by simp [h]), fieldAt_head some_byte]
  unfold decodeIndex
  split
  · rfl
  · next k hk =>
    split at hk
    · cases hk
      rw [if_neg (by rw [unused _ rfl]; exact Bool.false_ne_true)]
      rfl
    · cases hk

/-- A pump request for a pump that is not in use. -/
theorem withPump_unused {s : State} {body : List Byte} (h : planned s = true) (some_byte : body ≠ [])
    (unused : ∀ p : Pump, p.val = (body.headD 0#8).toNat → pumpInUse s p = false)
    (carry : Pump → State → State × List Byte) : withPump body carry s = (s, [3#8]) := by
  unfold withPump
  rw [if_neg (by simp [h]), fieldAt_head some_byte]
  unfold decodeIndex
  split
  · rfl
  · next k hk =>
    split at hk
    · cases hk
      rw [if_neg (by rw [unused _ rfl]; exact Bool.false_ne_true)]
      rfl
    · cases hk

/-- A house request for a house in use is carried out for it. -/
theorem withHouse_used {s : State} {h : House} (plan : planned s = true) (used : houseInUse s h = true) (bs : List Byte)
    (carry : House → State → State × List Byte) : withHouse (BitVec.ofNat 8 h.val :: bs) carry s = carry h s := by
  have index : fieldAt (BitVec.ofNat 8 h.val :: bs) 0 1 = h.val := by
    rw [fieldAt_head (List.cons_ne_nil _ _)]
    simp
    omega
  simp [withHouse, plan, index, decodeIndex, used]

/-- A pump request for a pump in use is carried out for it. -/
theorem withPump_used {s : State} {p : Pump} (plan : planned s = true) (used : pumpInUse s p = true) (bs : List Byte)
    (carry : Pump → State → State × List Byte) : withPump (BitVec.ofNat 8 p.val :: bs) carry s = carry p s := by
  have index : fieldAt (BitVec.ofNat 8 p.val :: bs) 0 1 = p.val := by
    rw [fieldAt_head (List.cons_ne_nil _ _)]
    simp
    omega
  simp [withPump, plan, index, decodeIndex, used]

/-- The house requests name a house (R77, R78, R139, R140). -/
theorem carryOut_house {kind : Byte} {n : Nat} (h : bodyLength kind = some n) (low : 9 ≤ kind.toNat) (high : kind.toNat ≤ 12) :
    n ≠ 0 ∧ ∃ carry : List Byte → House → State → State × List Byte,
      ∀ body s, carryOut kind.toNat body s = withLength n body (withHouse body (carry body)) s := by
  have cases : kind.toNat = 9 ∨ kind.toNat = 10 ∨ kind.toNat = 11 ∨ kind.toNat = 12 := by omega
  rcases cases with k | k | k | k <;> simp only [bodyLength, k, Option.some.injEq] at h <;> subst h <;> rw [k] <;>
    exact ⟨by decide, _, fun _ _ => rfl⟩

/-- The pump requests name a pump (R54, R55). -/
theorem carryOut_pump {kind : Byte} {n : Nat} (h : bodyLength kind = some n) (low : 13 ≤ kind.toNat) (high : kind.toNat ≤ 15) :
    n ≠ 0 ∧ ∃ carry : List Byte → Pump → State → State × List Byte,
      ∀ body s, carryOut kind.toNat body s = withLength n body (withPump body (carry body)) s := by
  have cases : kind.toNat = 13 ∨ kind.toNat = 14 ∨ kind.toNat = 15 := by omega
  rcases cases with k | k | k <;> simp only [bodyLength, k, Option.some.injEq] at h <;> subst h <;> rw [k] <;>
    exact ⟨by decide, _, fun _ _ => rfl⟩

/-! ### A request refused -/

/-- A request whose rule refuses it has no effect but its reply. -/
theorem exec_refused {c : Instr} {f : Frame} {s : State} {body : List Byte} (hs : Ready s) (hc : requestFrame c = some f)
    (kind : f.kind.toNat ≤ 18) (restarts : f.kind = 18#8 → f.body ≠ [])
    (h : carryOut f.kind.toNat f.body (counted s) = (counted s, body)) :
    exec c s = .next (answered (f.kind + 128#8) f.tag body s) := by
  rw [exec_request hc]
  refine ready_plain hs f body _ (replyKindOf_small kind) ?_ h
  unfold isRestart
  by_cases e : f.kind = 18#8
  · simp [restarts e]
  · simp [e]

section
variable {c : Instr} {f : Frame} {n : Nat} {s : State} (hs : Ready s) (hc : requestFrame c = some f)
include hs hc

theorem exec_badLength (sized : bodyLength f.kind = some n) (length : f.body.length ≠ n) :
    exec c s = .next (answered (f.kind + 128#8) f.tag [1#8] s) := by
  obtain ⟨kind, restarts, carry, eq⟩ := carryOut_sized sized
  refine exec_refused hs hc kind (fun e nil => length ?_) ?_
  · rw [nil, restarts e]
    rfl
  · rw [eq, withLength_short length]

theorem exec_house_refused (sized : bodyLength f.kind = some f.body.length) (low : 9 ≤ f.kind.toNat)
    (high : f.kind.toNat ≤ 12) :
    (planned s = false → exec c s = .next (answered (f.kind + 128#8) f.tag [12#8] s)) ∧
    (planned s = true → (∀ h : House, h.val = (f.body.headD 0#8).toNat → houseInUse s h = false) →
      exec c s = .next (answered (f.kind + 128#8) f.tag [3#8] s)) := by
  obtain ⟨some_byte, carry, eq⟩ := carryOut_house sized low high
  have refused {body : List Byte} := exec_refused (body := body) hs hc (by omega) fun e => by simp [e] at high
  refine ⟨fun unplanned => refused ?_, fun plan unused => refused ?_⟩
  · rw [eq, withLength_exact rfl, withHouse_unplanned (s := counted s) unplanned]
  · rw [eq, withLength_exact rfl, withHouse_unused (s := counted s) plan (fun e => some_byte (by rw [e]; rfl)) unused]

theorem exec_pump_refused (sized : bodyLength f.kind = some f.body.length) (low : 13 ≤ f.kind.toNat)
    (high : f.kind.toNat ≤ 15) :
    (planned s = false → exec c s = .next (answered (f.kind + 128#8) f.tag [12#8] s)) ∧
    (planned s = true → (∀ p : Pump, p.val = (f.body.headD 0#8).toNat → pumpInUse s p = false) →
      exec c s = .next (answered (f.kind + 128#8) f.tag [3#8] s)) := by
  obtain ⟨some_byte, carry, eq⟩ := carryOut_pump sized low high
  have refused {body : List Byte} := exec_refused (body := body) hs hc (by omega) fun e => by simp [e] at high
  refine ⟨fun unplanned => refused ?_, fun plan unused => refused ?_⟩
  · rw [eq, withLength_exact rfl, withPump_unplanned (s := counted s) unplanned]
  · rw [eq, withLength_exact rfl, withPump_unused (s := counted s) plan (fun e => some_byte (by rw [e]; rfl)) unused]

end

/-! ### The requests' own rules -/

theorem fieldAt_second (a b : Byte) : fieldAt [a, b] 1 1 = b.toNat := by simp [fieldAt, ofBytes_single]

theorem decodeMode_none {n : Nat} (h : 2 < n) : decodeMode n = none := by
  unfold decodeMode
  split <;> first | omega | rfl

theorem decodeFlag_none {n : Nat} (h : 1 < n) : decodeFlag n = none := by
  unfold decodeFlag
  split <;> first | omega | rfl

/-- Settles O19: a length test that fails comes first, then UNPLANNED and BAD_INDEX, then the request's own rule. -/
theorem requestsAreRefused : Obligations.RequestsAreRefused := by
  refine ⟨fun c f n s hs hc sized length => exec_badLength hs hc sized length, fun c f s hs hc low high sized => ?_,
    fun s tag b h p hs plan house pump => ⟨fun mode => ?_, fun flag => ?_, fun manual => ?_, fun faulted => ?_⟩⟩
  · rcases Nat.lt_or_ge 12 f.kind.toNat with pump | house
    · obtain ⟨unplanned, unused⟩ := exec_pump_refused hs hc sized pump high
      exact ⟨unplanned, fun _ house => absurd house (by omega), fun plan _ => unused plan⟩
    · obtain ⟨unplanned, unused⟩ := exec_house_refused hs hc sized low house
      exact ⟨unplanned, fun plan _ => unused plan, fun _ pump => absurd pump (by omega)⟩
  · refine exec_refused (f := { kind := 9#8, tag, body := _ }) hs rfl (by simp) (fun _ => List.cons_ne_nil _ _) ?_
    change carryHouseMode [BitVec.ofNat 8 h.val, b] (counted s) = _
    rw [carryHouseMode, withLength_exact (by rfl), withHouse_used (s := counted s) plan house, modeOf, fieldAt_second, decodeMode_none mode]
    rfl
  · refine exec_refused (f := { kind := 12#8, tag, body := _ }) hs rfl (by simp) (fun _ => List.cons_ne_nil _ _) ?_
    change carryHouseSuppress [BitVec.ofNat 8 h.val, b] (counted s) = _
    rw [carryHouseSuppress, withLength_exact (by rfl), withHouse_used (s := counted s) plan house, suppressOf, fieldAt_second,
      decodeFlag_none flag]
    rfl
  · refine exec_refused (f := { kind := 10#8, tag, body := _ }) hs rfl (by simp) (fun _ => List.cons_ne_nil _ _) ?_
    change carryHouseTarget [BitVec.ofNat 8 h.val, b] (counted s) = _
    rw [carryHouseTarget, withLength_exact (by rfl), withHouse_used (s := counted s) plan house, targetOf,
      if_neg (by simpa [counted] using manual)]
    rfl
  · refine exec_refused (f := { kind := 15#8, tag, body := _ }) hs rfl (by simp) (fun _ => List.cons_ne_nil _ _) ?_
    change carryPumpClear [BitVec.ofNat 8 p.val] (counted s) = _
    rw [carryPumpClear, withLength_exact (by rfl), withPump_used (s := counted s) plan pump]
    unfold clearFaultOf
    split
    · next e _ => exact absurd e faulted
    · rfl

end Sys2Proof.Machine
end

section
/-! SUPPORT. The sums of the bookings (R88) and the counts of a house (R60) as sums over the pumps, and what one admission
adds to them (R89, R98). -/

namespace Sys2Proof.Machine

theorem vector_sum {α : Type} {n : Nat} (v : Vector α n) (f : α → Nat) : (v.toList.map f).sum = ∑ q : Fin n, f v[q] := by
  have entries : v.toList.map f = List.ofFn fun q : Fin n => f v[q] := by
    refine List.ext_getElem (by simp) fun i h _ => ?_
    simp
  rw [entries, List.sum_ofFn]

/-- The sum of the bookings of all pumps (R88). -/
theorem sumBookings_eq (s : State) : sumBookings s = ∑ q : Pump, s.pumps[q].booking := vector_sum _ _

theorem pumpsIn_toFinset (s : State) (h : House) (f : PumpState → Bool) :
    (pumpsIn s h f).toFinset = Finset.univ.filter fun q : Pump => houseOf q = h ∧ f s.pumps[q].state = true := by
  ext q
  simp [pumpsIn, mem_pumpsOf]

/-- A sum over the pumps of a house that are in some states. -/
theorem pumpsIn_sum {M : Type} [AddCommMonoid M] (s : State) (h : House) (f : PumpState → Bool) (g : Pump → M) :
    ((pumpsIn s h f).map g).sum = ∑ q : Pump, if houseOf q = h ∧ f s.pumps[q].state = true then g q else 0 := by
  have nodup : (pumpsIn s h f).Nodup := (pumpsOf_nodup h).filter _
  rw [← List.sum_toFinset g nodup]
  exact (Finset.sum_congr (pumpsIn_toFinset s h f) fun _ _ => rfl).trans (Finset.sum_filter _ _)

theorem pumpsIn_length (s : State) (h : House) (f : PumpState → Bool) :
    (pumpsIn s h f).length = ∑ q : Pump, if houseOf q = h ∧ f s.pumps[q].state = true then 1 else 0 := by
  rw [← pumpsIn_sum, List.map_const', List.sum_replicate, smul_eq_mul, mul_one]

/-- One pump's booking replaced moves the sum by the difference. -/
theorem sumBookings_updPump (q : Pump) (f : PumpLive → PumpLive) (s : State) :
    sumBookings (updPump q f s) + s.pumps[q].booking = sumBookings s + (f s.pumps[q]).booking := by
  have split (g : Pump → Nat) : ∑ p : Pump, g p = g q + ∑ p ∈ Finset.univ.erase q, g p :=
    (Finset.add_sum_erase _ _ (Finset.mem_univ q)).symm
  have rest : ∑ p ∈ Finset.univ.erase q, (updPump q f s).pumps[p].booking = ∑ p ∈ Finset.univ.erase q, s.pumps[p].booking :=
    Finset.sum_congr rfl fun p hp => by rw [updPump_get, if_neg (Ne.symm (Finset.ne_of_mem_erase hp))]
  rw [sumBookings_eq, sumBookings_eq, split, split fun p => s.pumps[p].booking, rest, updPump_self]
  omega

/-! ### What an admission writes -/

theorem rebook_passes (h : House) (s : State) : (rebook resumQuietly h s).work.passes = s.work.passes := by
  have walk : ∀ (ps : List Pump) (m : Nat) (s : State),
      (ps.foldl (rebookPump resumQuietly m) s).work.passes = s.work.passes := by
    intro ps m
    induction ps with
    | nil => exact fun _ => rfl
    | cons p ps ih =>
      intro s
      rw [List.foldl_cons, ih]
      unfold rebookPump
      dsimp only
      split <;> rfl
  exact walk _ _ s

/-- What a re-booking within an admission writes. -/
theorem rebook_quietly (h : House) (s : State) : ∃ v c f b, rebook resumQuietly h s =
    { s with
      pumps := v, feeder := { s.feeder with committed := c, committedForShed := f }
      work := { s.work with shedTest := b } } := by
  obtain ⟨v, c, f, n, b, eq⟩ := (rebook_bookings sums_resumQuietly h s).writes
  have passes := rebook_passes h s
  rw [eq] at passes
  subst passes
  exact ⟨v, c, f, b, eq⟩

theorem SumsHold.of_same {s t : State} (h : SumsHold s) (pumps : t.pumps = s.pumps) (feeder : t.feeder = s.feeder) :
    SumsHold t := by
  obtain ⟨total, shed⟩ := h
  exact ⟨by rw [feeder, total, sumBookings, sumBookings, pumps], by rw [feeder, shed, sumForShed, sumForShed, pumps]⟩

theorem rebook_sums {sums : State → State} (hs : ∀ s, SumsHold (sums s)) (h : House) {s : State} (held : SumsHold s) :
    SumsHold (rebook sums h s) := by
  have walk : ∀ (ps : List Pump) (m : Nat) (s : State), SumsHold s → SumsHold (ps.foldl (rebookPump sums m) s) := by
    intro ps m
    induction ps with
    | nil => exact fun _ hs => hs
    | cons p ps ih =>
      intro s held
      refine ih _ ?_
      unfold rebookPump
      dsimp only
      split
      · exact hs _
      · exact held
  exact walk _ _ s held

/-- An admitted pump in its house, before the house is re-booked (R56, R98). -/
def admittedInto (p : Pump) (s : State) : State :=
  let ordered := updPump p (admittedFields (now s) (freePermit s) (bookingCount s (houseOf p) + 1)
    (chargeS s p (bookingCount s (houseOf p) + 1))) (leaveStartQueue p s)
  resumQuietly (if houseRuns s (houseOf p) then ordered else rotateLead p ordered)

theorem admitPump_eq (p : Pump) (s : State) : admitPump p s =
    raisePump .admitted p (needOf s p).toNat ((freePermit s).getD 65535)
      (joinOrder p .start (notice (houseOf p) (rebook resumQuietly (houseOf p) (admittedInto p s)))) := rfl

/-- The duty lists behind an admission: the lead may rotate (R56). -/
theorem admittedInto_writes (p : Pump) (s : State) : ∃ c f b, admittedInto p s =
    { s with
      pumps := s.pumps.set p (admittedRecord s p)
      feeder := { s.feeder with queue := entriesBut p s.feeder.queue, committed := c, committedForShed := f }
      houses := if houseRuns s (houseOf p) then s.houses else (rotateLead p s).houses
      work := { s.work with shedTest := b } } := by
  unfold admittedInto
  cases houseRuns s (houseOf p) <;> exact ⟨_, _, _, rfl⟩

/-- What an admission writes. -/
theorem admitPump_writes (p : Pump) (s : State) : ∃ v c f b bus, admitPump p s =
    raisePump .admitted p (needOf s p).toNat ((freePermit s).getD 65535)
      { s with
        pumps := v
        feeder := { s.feeder with queue := entriesBut p s.feeder.queue, committed := c, committedForShed := f }
        houses := if houseRuns s (houseOf p) then s.houses else (rotateLead p s).houses
        bus := bus
        work := { s.work with notices := s.work.notices.set (houseOf p) true, shedTest := b } } := by
  obtain ⟨v, c, f, b, eq⟩ := rebook_quietly (houseOf p) (admittedInto p s)
  obtain ⟨_, _, _, into⟩ := admittedInto_writes p s
  rw [admitPump_eq, joinOrder, joinTransmit_bus_only, eq, into]
  exact ⟨_, _, _, _, _, rfl⟩

section
variable (p : Pump) (s : State)

theorem admitPump_banks : (admitPump p s).banks = s.banks := by
  obtain ⟨_, _, _, _, _, eq⟩ := admitPump_writes p s
  rw [eq, raisePump, raise_banks]

theorem admitPump_cap : (admitPump p s).feeder.cap = s.feeder.cap := by
  obtain ⟨_, _, _, _, _, eq⟩ := admitPump_writes p s
  rw [eq, raisePump, raise_feeder]

theorem admitPump_time : (admitPump p s).time = s.time := by
  obtain ⟨_, _, _, _, _, eq⟩ := admitPump_writes p s
  rw [eq, raisePump, raise_time]

theorem admitPump_survey : (admitPump p s).survey = s.survey := by
  obtain ⟨_, _, _, _, _, eq⟩ := admitPump_writes p s
  rw [eq, raisePump, raise_survey]

theorem admitPump_passes : (admitPump p s).work.passes = s.work.passes := by
  obtain ⟨_, _, _, _, _, eq⟩ := admitPump_writes p s
  rw [eq, raisePump, raise_work]

theorem admitPump_houses : (admitPump p s).houses =
    if houseRuns s (houseOf p) then s.houses else (rotateLead p s).houses := by
  obtain ⟨_, _, _, _, _, eq⟩ := admitPump_writes p s
  rw [eq, raisePump, raise_houses]

theorem admitPump_sums : SumsHold (admitPump p s) := by
  have sums := rebook_sums (sums := resumQuietly) (fun _ => ⟨rfl, rfl⟩) (houseOf p) (s := admittedInto p s) ⟨rfl, rfl⟩
  rw [admitPump_eq]
  exact sums.of_same (by simp [raisePump, joinOrder]) (by simp [raisePump, joinOrder])

end

/-! ### What an admission adds -/

section
variable {p : Pump} {s : State}

theorem bookingCount_admitPump (queued : s.pumps[p].state = .queued) :
    bookingCount (admitPump p s) (houseOf p) = bookingCount s (houseOf p) + 1 := by
  rw [bookingCount, bookingCount, pumpsIn_length, pumpsIn_length]
  have each (q : Pump) : (if houseOf q = houseOf p ∧ countsInM (admitPump p s).pumps[q].state = true then 1 else 0) =
      (if houseOf q = houseOf p ∧ countsInM s.pumps[q].state = true then 1 else 0) + if p = q then 1 else 0 := by
    rw [(admitPump_turned p s).state]
    by_cases e : p = q
    · subst e
      rw [if_pos rfl, queued]
      simp [countsInM, admittedRecord, admittedFields]
    · simp [e]
  simp only [each, Finset.sum_add_distrib, Finset.sum_ite_eq, Finset.mem_univ, if_true]

/-- A house that is not passed over has none of its pumps in ORDERED, STARTING or STOPPING (R97). -/
theorem passedOver_false (h : passedOver s (houseOf p) = false) {q : Pump} (house : houseOf q = houseOf p) :
    s.pumps[q].state ≠ .ordered ∧ s.pumps[q].state ≠ .starting ∧ s.pumps[q].state ≠ .stopping := by
  simp only [passedOver, Bool.or_eq_false_iff, Bool.not_eq_false', List.isEmpty_iff] at h
  have none := List.filter_eq_nil_iff.mp h.2 q (mem_pumpsOf.mpr house)
  simpa [and_assoc] using none

/-- Each pump's booking after an admission (R89): the charge of the pump, and the draws of the RUNNING pumps of its house
at one pump more. -/
theorem admitPump_booking (queued : s.pumps[p].state = .queued) (free : passedOver s (houseOf p) = false) (q : Pump) :
    (admitPump p s).pumps[q].booking =
      if p = q then chargeS s p (bookingCount s (houseOf p) + 1)
      else if houseOf q = houseOf p ∧ s.pumps[q].state = .running then drawB s q (bookingCount s (houseOf p) + 1)
      else s.pumps[q].booking := by
  have turned := admitPump_turned p s
  by_cases e : p = q
  · subst e
    rw [turned.self, rebooked_idle PumpState.noConfusion PumpState.noConfusion, if_pos rfl]
    rfl
  · rw [turned.other e, if_neg e]
    split
    · next c =>
      rw [rebooked_drawing c.1 (.inl c.2), drawB_of_banks (admitPump_banks p s), bookingCount_admitPump queued]
    · next c =>
      by_cases house : houseOf q = houseOf p
      · have : s.pumps[q].state ≠ .running := fun run => c ⟨house, run⟩
        rw [rebooked_idle this (passedOver_false free house).2.2]
      · rw [rebooked_elsewhere house]

/-- An admission adds exactly its need to committed (R89, R98). -/
theorem admitPump_committed (sums : SumsHold s) (queued : s.pumps[p].state = .queued) (none : s.pumps[p].booking = 0)
    (free : passedOver s (houseOf p) = false) :
    ((admitPump p s).feeder.committed : Int) = s.feeder.committed + needOf s p := by
  rw [(admitPump_sums p s).1, sums.1, sumBookings_eq, sumBookings_eq, needOf, rebookNeed, pumpsIn_sum, Nat.cast_sum, Nat.cast_sum]
  have each (q : Pump) : ((admitPump p s).pumps[q].booking : Int) =
      s.pumps[q].booking + ((if p = q then (chargeS s p (bookingCount s (houseOf p) + 1) : Int) else 0) +
        if houseOf q = houseOf p ∧ (s.pumps[q].state == .running) = true then
          (drawB s q (bookingCount s (houseOf p) + 1) : Int) - s.pumps[q].booking else 0) := by
    rw [admitPump_booking queued free]
    simp only [beq_iff_eq]
    by_cases e : p = q
    · subst e
      rw [if_pos rfl, if_pos rfl, if_neg (by rw [queued]; exact fun x => PumpState.noConfusion x.2), none]
      simp
    · by_cases c : houseOf q = houseOf p ∧ s.pumps[q].state = .running
      · rw [if_neg e, if_neg e, if_pos c, if_pos c]
        omega
      · rw [if_neg e, if_neg e, if_neg c, if_neg c]
        omega
  simp only [each, Finset.sum_add_distrib, Finset.sum_ite_eq, Finset.mem_univ, if_true]

end

end Sys2Proof.Machine
end

section
/-! SUPPORT. The permit of a grant (R90) and what an admission does to the transmit queue; O53. -/

namespace Sys2Proof.Machine

/-! ### The permit taken (R90) -/

section
variable {s : State}

theorem mem_permitsHeld {k : Nat} {p : Pump} : (k, p) ∈ permitsHeld s ↔ s.pumps[p].permit = some k := by
  simp only [permitsHeld, allPumps, List.mem_filterMap, List.mem_finRange, true_and, Option.map_eq_some_iff, Prod.mk.injEq]
  constructor
  · rintro ⟨q, j, held, rfl, rfl⟩
    exact held
  · exact fun held => ⟨p, k, held, rfl, rfl⟩

/-- Whether a permit is held (R90). -/
theorem permitTaken_iff {k : Nat} :
    ((permitsHeld s).any fun g => g.1 == k) = true ↔ ∃ q : Pump, s.pumps[q].permit = some k := by
  rw [List.any_eq_true]
  constructor
  · rintro ⟨⟨j, q⟩, mem, same⟩
    have same : j = k := by simpa using same
    exact ⟨q, same ▸ mem_permitsHeld.mp mem⟩
  · rintro ⟨q, held⟩
    exact ⟨(k, q), mem_permitsHeld.mpr held, by simp⟩

/-- Where fewer permits are held than there are, one is free: the lowest (R90). -/
theorem freePermit_exists (few : permitCountHeld s < permitLimit s) :
    ∃ k, freePermit s = some k ∧ k < permitLimit s ∧ (∀ q : Pump, s.pumps[q].permit ≠ some k) ∧
      ∀ j, j < k → ∃ q : Pump, s.pumps[q].permit = some j := by
  cases found : freePermit s with
  | none =>
    have taken := List.find?_eq_none.mp found
    have within : List.range (permitLimit s) ⊆ (permitsHeld s).map Prod.fst := by
      intro k hk
      obtain ⟨q, held⟩ := permitTaken_iff.mp (by simpa using taken k hk)
      exact List.mem_map.mpr ⟨(k, q), mem_permitsHeld.mpr held, rfl⟩
    have := (List.nodup_range.subperm within).length_le
    rw [List.length_range, List.length_map] at this
    exact absurd few (Nat.not_lt.mpr this)
  | some k =>
    refine ⟨k, rfl, List.mem_range.mp (List.mem_of_find?_eq_some found), fun q held => ?_, fun j hj => ?_⟩
    · have free := List.find?_some found
      rw [permitTaken_iff.mpr ⟨q, held⟩] at free
      cases free
    · rw [freePermit, List.find?_range_eq_some] at found
      exact permitTaken_iff.mp (by simpa using found.2.2 j hj)

/-- What holds of a candidate that is admitted (R97). -/
theorem candidateEnd_none {p : Pump} (h : candidateEnd s p = none) :
    s.feeder.meter.hold = false ∧ permitCountHeld s < permitLimit s ∧
      (s.feeder.committed : Int) + needOf s p ≤ s.feeder.cap := by
  unfold candidateEnd at h
  split at h
  · cases h
  · next hold =>
    split at h
    · cases h
    · next few =>
      split at h
      · cases h
      · next within => exact ⟨by simpa using hold, Nat.lt_of_not_le few, not_lt.mp within⟩

end

/-! ### An order that has joined -/

/-- An order waits in the ORDER class or is in flight. -/
def IsSent (o : Order) (s : State) : Prop :=
  (∃ e ∈ s.bus.queue, e.cls = .order ∧ e.order = some o) ∨ ∃ g tag, s.bus.flight = some g ∧ g.request = .order o tag

theorem stepTag_queue (e : TxEntry) (s : State) : (stepTag e s).bus.queue = s.bus.queue := by
  unfold stepTag
  split <;> rfl

theorem requestOf_order {e : TxEntry} {o : Order} (h : e.order = some o) (s : State) :
    ∃ tag, requestOf s e = .order o tag := by
  unfold requestOf
  rw [h]
  cases e.unit <;> exact ⟨_, rfl⟩

theorem IsSent.startTransaction {o : Order} {s : State} (h : IsSent o s) : IsSent o (startTransaction s) := by
  unfold Machine.startTransaction
  split
  · next idle =>
    rcases h with ⟨e, mem, cls, order⟩ | ⟨g, tag, flight, _⟩
    · split
      · exact .inl ⟨e, mem, cls, order⟩
      · next d _ =>
        by_cases same : e = d
        · obtain ⟨tag, request⟩ := requestOf_order (same ▸ order) s
          exact .inr ⟨_, tag, rfl, request⟩
        · exact .inl ⟨e, List.mem_filter.mpr ⟨by rwa [stepTag_queue], by simpa using same⟩, cls, order⟩
    · rw [flight] at idle
      simp at idle
  · exact h

theorem isSent_joinOrder (p : Pump) (c : OrderKind) (s : State) : IsSent { pump := p, command := c } (joinOrder p c s) := by
  have queued : IsSent { pump := p, command := c }
      (enqueue (.station (stationOf s (houseOf p))) .order (some { pump := p, command := c }) s) :=
    .inl ⟨_, List.mem_append_right _ (List.mem_singleton.mpr rfl), rfl, rfl⟩
  unfold joinOrder joinTransmit
  dsimp only
  split
  · exact queued
  · exact queued.startTransaction

theorem IsSent.of_bus {o : Order} {s t : State} (h : IsSent o s) (bus : t.bus = s.bus) : IsSent o t := by
  unfold IsSent
  rw [bus]
  exact h

theorem isSent_admitPump (p : Pump) (s : State) : IsSent { pump := p, command := .start } (admitPump p s) := by
  rw [admitPump_eq, raisePump]
  exact (isSent_joinOrder p .start _).of_bus (raise_bus _ _ _ _ _ _ _)

/-! ### A pass within the budget -/

/-- What an admission pass keeps of the sums and of the entries still to come (R97). -/
structure Budgeted (es : List StartEntry) (s : State) : Prop where
  sums : SumsHold s
  within : s.feeder.committed ≤ s.feeder.cap
  waiting : ∀ e ∈ es, s.pumps[e.pump].state = .queued ∧ s.pumps[e.pump].booking = 0 ∧ e.house = houseOf e.pump
  nodup : (es.map (·.pump)).Nodup

section
variable {e : StartEntry} {es : List StartEntry} {s : State}

theorem Budgeted.tail (h : Budgeted (e :: es) s) : Budgeted es s :=
  ⟨h.sums, h.within, fun d hd => h.waiting d (List.mem_cons_of_mem _ hd), (List.nodup_cons.mp h.nodup).2⟩

theorem Budgeted.apart (h : Budgeted (e :: es) s) {d : StartEntry} (hd : d ∈ es) : e.pump ≠ d.pump := fun same =>
  (List.nodup_cons.mp h.nodup).1 (List.mem_map.mpr ⟨d, hd, same.symm⟩)

theorem Budgeted.admitPump (h : Budgeted (e :: es) s) (free : passedOver s e.house = false)
    (goes : candidateEnd s e.pump = none) : Budgeted es (admitPump e.pump s) := by
  obtain ⟨queued, none, own⟩ := h.waiting e List.mem_cons_self
  rw [own] at free
  have adds := admitPump_committed h.sums queued none free
  have room := (candidateEnd_none goes).2.2
  refine ⟨admitPump_sums _ _, ?_, fun d hd => ?_, h.tail.nodup⟩
  · rw [admitPump_cap]
    omega
  · obtain ⟨dq, dn, down⟩ := h.waiting d (List.mem_cons_of_mem _ hd)
    have idle : ¬(houseOf d.pump = houseOf e.pump ∧ s.pumps[d.pump].state = .running) := fun c => by
      rw [dq] at c
      exact PumpState.noConfusion c.2
    refine ⟨?_, ?_, down⟩
    · rw [(admitPump_turned e.pump s).state, if_neg (h.apart hd), dq]
    · rw [admitPump_booking queued free, if_neg (h.apart hd), if_neg idle, dn]

theorem Budgeted.passWalk (h : Budgeted es s) (admitted skipped : Nat) :
    (passWalk es admitted skipped s).feeder.committed ≤ (passWalk es admitted skipped s).feeder.cap := by
  induction es generalizing admitted skipped s with
  | nil => exact h.within
  | cons e es ih =>
    unfold Machine.passWalk
    split
    · exact ih h.tail _ _
    · next free =>
      split
      · next goes => exact ih (h.admitPump (by simpa using free) goes) _ _
      · exact h.within

end

theorem passWalk_cap (es : List StartEntry) (admitted skipped : Nat) (s : State) :
    (passWalk es admitted skipped s).feeder.cap = s.feeder.cap := by
  induction es generalizing admitted skipped s with
  | nil => rfl
  | cons e es ih =>
    unfold passWalk
    split
    · exact ih _ _ _
    · split
      · rw [ih, admitPump_cap]
      · rfl

/-- Settles O53: the need is what the re-bookings of the admitted pump's house add to the sum of the bookings, and a
candidate goes only where the cap has room for it. -/
theorem admissionKeepsTheBudget : Obligations.AdmissionKeepsTheBudget := by
  unfold Obligations.AdmissionKeepsTheBudget
  refine ⟨fun s p sums queued none free goes => ?_, fun s sums queue none within => ?_⟩
  · obtain ⟨hold, few, room⟩ := candidateEnd_none goes
    obtain ⟨k, permit, below, unheld, lowest⟩ := freePermit_exists few
    have adds := admitPump_committed sums queued none free
    refine ⟨hold, few, adds, by omega, ⟨k, below, unheld, lowest, ?_⟩, fun e he => ?_, ?_⟩
    · rw [(admitPump_turned p s).self, rebooked_idle PumpState.noConfusion PumpState.noConfusion, admittedRecord, permit]
      rfl
    · rw [admitPump_queue] at he
      exact (mem_entriesBut.mp he).2
    · exact isSent_admitPump p s
  · unfold admissionPass
    split
    · exact within
    · have start : Budgeted s.feeder.queue s :=
        ⟨sums, within, fun e he => ⟨(queue.1 e he).1, none _ (queue.1 e he).1, (queue.1 e he).2⟩, queue.2.2⟩
      have kept := start.passWalk 0 0
      rwa [passWalk_cap] at kept

end Sys2Proof.Machine
end

section
/-! SUPPORT. The walk of an admission pass (R97, R99) and what triggers a pass (R91, R96); O54. -/

namespace Sys2Proof.Machine

/-! ### What holds throughout a walk -/

theorem updHouse_get (g : House) (f : HouseLive → HouseLive) (s : State) (h : House) :
    (updHouse g f s).houses[h] = if g = h then f s.houses[h] else s.houses[h] := by
  have houses : (updHouse g f s).houses = s.houses.set g (f s.houses[g]) := rfl
  rw [houses, Fin.getElem_fin, Vector.getElem_set]
  by_cases e : g = h
  · subst e
    simp
  · rw [if_neg e, if_neg fun same => e (Fin.ext same)]
    rfl

theorem rotateLead_mainSettledAt (p : Pump) (s : State) (h : House) :
    (rotateLead p s).houses[h].mainSettledAt = s.houses[h].mainSettledAt := by
  rw [rotateLead, updHouse_get]
  split <;> rfl

theorem admitPump_mainSettled (p : Pump) (s : State) (h : House) : mainSettled (admitPump p s) h = mainSettled s h := by
  have settledAt : (admitPump p s).houses[h].mainSettledAt = s.houses[h].mainSettledAt := by
    rw [admitPump_houses]
    split
    · rfl
    · exact rotateLead_mainSettledAt p s h
  rw [mainSettled, mainSettled, settledAt, now, now, admitPump_time]

section
variable {s t : State} {p : Pump} {h : House}

theorem pumpsIn_isEmpty {f : PumpState → Bool} :
    (pumpsIn s h f).isEmpty = false ↔ ∃ q : Pump, houseOf q = h ∧ f s.pumps[q].state = true := by
  rw [List.isEmpty_eq_false_iff_exists_mem]
  simp only [pumpsIn, List.mem_filter, mem_pumpsOf]

/-- A house that is passed over stays so while pumps are admitted. -/
theorem passedOver_admitPump (queued : s.pumps[p].state = .queued) (before : passedOver s h = true) :
    passedOver (admitPump p s) h = true := by
  unfold passedOver at before ⊢
  rw [admitPump_mainSettled]
  rw [Bool.or_eq_true, Bool.not_eq_true', Bool.not_eq_true', pumpsIn_isEmpty] at before ⊢
  refine before.imp_right ?_
  rintro ⟨q, house, moves⟩
  refine ⟨q, house, ?_⟩
  rw [(admitPump_turned p s).state]
  split
  · next e =>
    subst e
    rw [queued] at moves
    cases moves
  · exact moves

theorem needOf_of_same (pumps : t.pumps = s.pumps) (banks : t.banks = s.banks) (p : Pump) : needOf t p = needOf s p := by
  unfold needOf rebookNeed bookingCount pumpsIn
  simp only [chargeS_of_banks banks, drawB_of_banks banks, pumps]

end

/-! ### Where a walk ends -/

/-- Where a pass ends (R97): at the end of the queue, or at the next entry, the candidate, with the first reason that
held. -/
def EndsAt (next : Option StartEntry) (limit : Nat) (t : State) (r : PassRecord) : Prop :=
  r.ended = .queueEnd ∧ next = none ∧ r.candidate = none ∧ r.tested = none ∨
    ∃ e need, next = some e ∧ need = needOf t e.pump ∧ r.candidate = some (e.pump, need) ∧
      passedOver t e.house = false ∧
      (r.ended = .meterHold ∧ t.feeder.meter.hold = true ∧ r.tested = none ∨
        t.feeder.meter.hold = false ∧
          (r.ended = .noPermit ∧ limit ≤ permitCountHeld t ∧ r.tested = none ∨
            permitCountHeld t < limit ∧ r.ended = .budget ∧ (t.feeder.cap : Int) < t.feeder.committed + need ∧
              r.tested = some (t.feeder.committed, t.feeder.cap)))

/-- What a walk over entries leaves: of them it admits `i` and passes `j` over. -/
structure WalkEnds (es : List StartEntry) (admitted skipped : Nat) (s t : State) (i j : Nat) (r : PassRecord) : Prop where
  seen : i + j ≤ es.length
  last : t.feeder.lastPass = some r
  uptime : r.uptime = now s
  count : r.admittedCount = admitted + i
  passed : r.passedOver = skipped + j
  admits : i = (es.filter fun e => t.pumps[e.pump].state == .ordered).length
  others : ∀ q : Pump, (∀ e ∈ es, e.pump ≠ q) → t.pumps[q].state = s.pumps[q].state
  front : ∀ e ∈ t.feeder.queue.take (skipped + j), passedOver t e.house = true
  back : t.feeder.queue.drop (skipped + j) = es.drop (i + j)
  passes : t.work.passes = s.work.passes
  atEnd : EndsAt es[i + j]? (permitLimit s) t r

/-- What holds of the entries of a walk as it goes on: those passed over stand in front. -/
structure Walking (before es : List StartEntry) (s : State) : Prop where
  queue : s.feeder.queue = before ++ es
  front : ∀ e ∈ before, passedOver s e.house = true
  queued : ∀ e ∈ es, s.pumps[e.pump].state = .queued
  nodup : ((before ++ es).map (·.pump)).Nodup

section
variable {before es : List StartEntry} {e : StartEntry} {s : State} {a : Nat}

theorem Walking.skip (w : Walking before (e :: es) s) (passed : passedOver s e.house = true) :
    Walking (before ++ [e]) es s :=
  ⟨by rw [w.queue, List.append_assoc, List.singleton_append],
    fun d hd => (List.mem_append.mp hd).elim (w.front d) fun same => List.mem_singleton.mp same ▸ passed,
    fun d hd => w.queued d (List.mem_cons_of_mem _ hd), by rw [List.append_assoc, List.singleton_append]; exact w.nodup⟩

theorem Walking.apart (w : Walking before (e :: es) s) {d : StartEntry} (hd : d ∈ es) : d.pump ≠ e.pump := by
  have nodup := w.nodup
  rw [List.map_append, List.nodup_append, List.map_cons, List.nodup_cons] at nodup
  exact fun same => nodup.2.1.1 (List.mem_map.mpr ⟨d, hd, same⟩)

theorem Walking.apart_front (w : Walking before (e :: es) s) {d : StartEntry} (hd : d ∈ before) : d.pump ≠ e.pump := by
  have nodup := w.nodup
  rw [List.map_append, List.nodup_append] at nodup
  exact nodup.2.2 _ (List.mem_map_of_mem hd) _ (List.mem_map_of_mem List.mem_cons_self)

theorem Walking.admitted (w : Walking before (e :: es) s) : Walking before es (admitPump e.pump s) := by
  have queued := w.queued e List.mem_cons_self
  refine ⟨?_, fun d hd => passedOver_admitPump queued (w.front d hd), fun d hd => ?_, ?_⟩
  · rw [admitPump_queue, w.queue, entriesBut, List.filter_append, List.filter_cons_of_neg (by simp),
      List.filter_eq_self.mpr fun d hd => by simpa using w.apart_front hd,
      List.filter_eq_self.mpr fun d hd => by simpa using w.apart hd]
  · rw [(admitPump_turned e.pump s).state, if_neg (Ne.symm (w.apart hd))]
    exact w.queued d (List.mem_cons_of_mem _ hd)
  · exact w.nodup.sublist (((List.sublist_cons_self e es).append_left before).map _)

/-- A walk that ends where it stands. -/
theorem Walking.stop (w : Walking before es s) (r : PassRecord) (uptime : r.uptime = now s)
    (count : r.admittedCount = a) (passed : r.passedOver = before.length)
    (atEnd : EndsAt es[0]? (permitLimit s) (recordPass r s) r) :
    WalkEnds es a before.length s (recordPass r s) 0 0 r where
  seen := Nat.zero_le _
  last := rfl
  uptime := uptime
  count := count
  passed := passed
  admits := by
    symm
    rw [List.length_eq_zero_iff, List.filter_eq_nil_iff]
    intro e he
    have : (recordPass r s).pumps[e.pump].state = .queued := w.queued e he
    rw [this]
    exact Bool.noConfusion
  others := fun _ _ => rfl
  front := by
    have queue : (recordPass r s).feeder.queue = before ++ es := w.queue
    rw [queue, Nat.add_zero, List.take_left]
    exact w.front
  back := by
    have queue : (recordPass r s).feeder.queue = before ++ es := w.queue
    rw [queue, Nat.add_zero, List.drop_left]
    rfl
  passes := rfl
  atEnd := atEnd

/-- A walk that goes on behind an entry passed over. -/
theorem WalkEnds.skip {t : State} {k i j : Nat} {r : PassRecord} (w : Walking before (e :: es) s)
    (h : WalkEnds es a (k + 1) s t i j r) : WalkEnds (e :: es) a k s t i (j + 1) r where
  seen := by
    have := h.seen
    rw [List.length_cons]
    omega
  last := h.last
  uptime := h.uptime
  count := h.count
  passed := by rw [h.passed]; omega
  admits := by
    have state : t.pumps[e.pump].state = .queued := by
      rw [h.others e.pump fun d hd => w.apart hd]
      exact w.queued e List.mem_cons_self
    rw [List.filter_cons_of_neg (by rw [state]; exact Bool.noConfusion)]
    exact h.admits
  others := fun q apart => h.others q fun d hd => apart d (List.mem_cons_of_mem _ hd)
  front := by
    have := h.front
    rwa [Nat.add_right_comm, Nat.add_assoc] at this
  back := by
    have := h.back
    rw [Nat.add_right_comm, Nat.add_assoc] at this
    rw [this, ← Nat.add_assoc, List.drop_succ_cons]
  passes := h.passes
  atEnd := h.atEnd

/-- A walk that goes on behind an entry admitted. -/
theorem WalkEnds.admitted {t u : State} {k i j : Nat} {r : PassRecord} (w : Walking before (e :: es) s)
    (goes : u = admitPump e.pump s) (h : WalkEnds es (a + 1) k u t i j r) : WalkEnds (e :: es) a k s t (i + 1) j r where
  seen := by
    have := h.seen
    rw [List.length_cons]
    omega
  last := h.last
  uptime := by rw [h.uptime, goes, now, now, admitPump_time]
  count := by rw [h.count]; omega
  passed := h.passed
  admits := by
    have state : t.pumps[e.pump].state = .ordered := by
      rw [h.others e.pump fun d hd => w.apart hd, goes, (admitPump_turned e.pump s).state, if_pos rfl]
      rfl
    rw [List.filter_cons_of_pos (by rw [state]; rfl), List.length_cons, ← h.admits]
  others := fun q apart => by
    rw [h.others q fun d hd => apart d (List.mem_cons_of_mem _ hd), goes, (admitPump_turned e.pump s).state,
      if_neg (apart e List.mem_cons_self)]
  front := h.front
  back := by rw [h.back, Nat.add_right_comm, List.drop_succ_cons]
  passes := by rw [h.passes, goes, admitPump_passes]
  atEnd := by
    have limit : permitLimit u = permitLimit s := by
      rw [permitLimit, permitLimit, planOf_of_banks (goes ▸ admitPump_banks e.pump s)]
    rw [Nat.add_right_comm, List.getElem?_cons_succ, ← limit]
    exact h.atEnd

/-- What a candidate that ends the walk leaves in the record (R97, R99). -/
theorem endsAt_candidate {why : PassEnd} (passed : passedOver s e.house = false) (ends : candidateEnd s e.pump = some why)
    (uptime admitted skipped : Nat) :
    let r : PassRecord :=
      { uptime, admittedCount := admitted, passedOver := skipped, ended := why
        candidate := some (e.pump, needOf s e.pump)
        tested := if why == .budget then some (s.feeder.committed, s.feeder.cap) else none }
    EndsAt (some e) (permitLimit s) (recordPass r s) r := by
  intro r
  refine .inr ⟨e, _, rfl, (needOf_of_same (s := s) rfl rfl e.pump).symm, rfl, passed, ?_⟩
  unfold candidateEnd at ends
  split at ends
  · next hold =>
    cases ends
    exact .inl ⟨rfl, hold, rfl⟩
  · next hold =>
    refine .inr ⟨Bool.eq_false_iff.mpr hold, ?_⟩
    split at ends
    · next few =>
      cases ends
      exact .inl ⟨rfl, few, rfl⟩
    · next few =>
      split at ends
      · next tight =>
        cases ends
        exact .inr ⟨Nat.lt_of_not_le few, rfl, tight, rfl⟩
      · cases ends

/-- The walk over the entries of the queue (R97). -/
theorem Walking.walk (w : Walking before es s) : ∀ {k : Nat}, k = before.length →
    ∃ i j r, WalkEnds es a k s (passWalk es a k s) i j r := by
  induction es generalizing before a s with
  | nil =>
    rintro _ rfl
    exact ⟨0, 0, _, w.stop _ rfl rfl rfl (.inl ⟨rfl, rfl, rfl, rfl⟩)⟩
  | cons e es ih =>
    rintro _ rfl
    unfold passWalk
    split
    · next passed =>
      obtain ⟨i, j, r, ends⟩ := ih (w.skip passed) (k := before.length + 1) (by simp)
      exact ⟨i, j + 1, r, ends.skip w⟩
    · next passed =>
      split
      · obtain ⟨i, j, r, ends⟩ := ih w.admitted (k := before.length) rfl
        exact ⟨i + 1, j, r, ends.admitted w rfl⟩
      · next why ends =>
        exact ⟨0, 0, _, w.stop _ rfl rfl rfl (endsAt_candidate (by simpa using passed) ends _ _ _)⟩

end

/-- The pumps admitted, counted over the queue and over all pumps. -/
theorem admitted_length {s t : State} (hq : QueueHoldsTheQueued s) :
    (s.feeder.queue.filter fun e => t.pumps[e.pump].state == .ordered).length =
      (allPumps.filter fun p => s.pumps[p].state == .queued && t.pumps[p].state == .ordered).length := by
  have nodup : ((s.feeder.queue.filter fun e => t.pumps[e.pump].state == .ordered).map (·.pump)).Nodup :=
    hq.2.2.sublist (List.filter_sublist.map _)
  rw [← List.length_map (·.pump)]
  refine ((List.perm_ext_iff_of_nodup nodup ((List.nodup_finRange 32).filter _)).mpr fun p => ?_).length_eq
  simp only [List.mem_map, List.mem_filter, List.mem_finRange, true_and, Bool.and_eq_true, beq_iff_eq]
  constructor
  · rintro ⟨e, ⟨mem, ordered⟩, rfl⟩
    exact ⟨(hq.1 e mem).1, ordered⟩
  · rintro ⟨queued, ordered⟩
    obtain ⟨e, mem, rfl⟩ := hq.2.1 p queued
    exact ⟨e, ⟨mem, ordered⟩, rfl⟩

/-! ### What triggers a pass -/

/-- From one state to another the passes called for do not fall, and where they stay as they are no booking has fallen. -/
structure FallsCounted (s t : State) : Prop where
  sums : SumsHold t
  passes : s.work.passes ≤ t.work.passes
  counted : t.work.passes = s.work.passes → ∀ q : Pump, s.pumps[q].booking ≤ t.pumps[q].booking

section
variable {s t u : State}

theorem FallsCounted.refl (h : SumsHold s) : FallsCounted s s := ⟨h, le_rfl, fun _ _ => le_rfl⟩

theorem FallsCounted.trans (a : FallsCounted s t) (b : FallsCounted t u) : FallsCounted s u := by
  refine ⟨b.sums, a.passes.trans b.passes, fun same q => ?_⟩
  have first := a.passes
  have second := b.passes
  exact (a.counted (by omega) q).trans (b.counted (by omega) q)

/-- A single change of a pump with the sums recomputed at it (R88, log 12). -/
theorem fallsCounted_resum_updPump (h : SumsHold s) (p : Pump) (f : PumpLive → PumpLive) :
    FallsCounted s (resum (updPump p f s)) := by
  have moved := sumBookings_updPump p f s
  have total : s.feeder.committed = sumBookings s := h.1
  have passes : (resum (updPump p f s)).work.passes =
      if sumBookings (updPump p f s) < s.feeder.committed then s.work.passes + 1 else s.work.passes := rfl
  refine ⟨⟨rfl, rfl⟩, by rw [passes]; split <;> omega, fun same q => ?_⟩
  rw [resum_pumps, updPump_get]
  rw [passes] at same
  split at same
  · omega
  · split
    · next e =>
      subst e
      omega
    · exact le_rfl

theorem fallsCounted_rebook (h : SumsHold s) (k : House) : FallsCounted s (rebook resum k s) := by
  have walk : ∀ (ps : List Pump) (m : Nat) {s : State}, SumsHold s → FallsCounted s (ps.foldl (rebookPump resum m) s) := by
    intro ps m
    induction ps with
    | nil => exact fun h => .refl h
    | cons p ps ih =>
      intro s h
      have first : FallsCounted s (rebookPump resum m s p) := by
        unfold rebookPump
        dsimp only
        split
        · exact fallsCounted_resum_updPump h p _
        · exact .refl h
      exact first.trans (ih first.sums)
  exact walk _ _ h

theorem fallsCounted_pumpChanged (h : SumsHold s) (p : Pump) (f : PumpLive → PumpLive) :
    FallsCounted s (pumpChanged p (updPump p f s)) := by
  have run := (fallsCounted_resum_updPump h p f).trans
    (fallsCounted_rebook (fallsCounted_resum_updPump h p f).sums (houseOf p))
  unfold pumpChanged
  generalize rebook resum (houseOf p) (resum (updPump p f s)) = t at run ⊢
  exact ⟨run.sums.of_same rfl rfl, run.passes, run.counted⟩

end

/-- What a pass does from one that is due (R97, R99). -/
theorem admissionPass_walks {s : State} (hq : QueueHoldsTheQueued s) (quiet : s.survey.running = false) :
    ∃ i j r, WalkEnds s.feeder.queue 0 0 s (admissionPass s) i j r := by
  have start : Walking [] s.feeder.queue s :=
    ⟨rfl, fun _ hd => absurd hd List.not_mem_nil, fun e he => (hq.1 e he).1, hq.2.2⟩
  unfold admissionPass
  rw [if_neg (by rw [quiet]; exact Bool.noConfusion)]
  exact start.walk rfl

theorem admissionPass_surveying {s : State} (running : s.survey.running = true) : admissionPass s =
    recordPass
      { uptime := now s, admittedCount := 0, passedOver := 0, ended := .survey, candidate := none, tested := none } s :=
  if_pos running

/-- The work that is left when nothing but passes is called for (log 11). -/
theorem workStep_passes {s : State} (ended : s.work.surveyEnd = false) (shed : s.work.shedTest = false)
    (told : ∀ h : House, s.work.notices[h] = false) : workStep s =
      if s.work.passes = 0 then none
      else some (admissionPass { s with work := { s.work with passes := s.work.passes - 1 } }) := by
  have none : nextNotice s = none := by
    refine List.find?_eq_none.mpr fun h _ => ?_
    rw [told h]
    exact Bool.noConfusion
  unfold workStep
  rw [ended, shed, none]
  rfl

/-- Settles O54: an admission takes its entry out of the queue and leaves those passed over in front, and each booking that
falls is met by a recomputation of the sums of its own. -/
theorem admissionPassIsRecorded : Obligations.AdmissionPassIsRecorded := by
  unfold Obligations.AdmissionPassIsRecorded
  refine ⟨fun s hq => ⟨?_, admissionPass_surveying, fun quiet => ?_⟩, fun s ended shed told => ⟨fun none => ?_, fun k some => ?_⟩,
    fun s p => ⟨rfl, fun held => ?_, fun falls => ?_, fun c rises => ?_, fun hold reading below => ?_, fun f sums => ?_⟩⟩
  · cases running : s.survey.running with
    | true => rw [admissionPass_surveying running]; rfl
    | false =>
      obtain ⟨i, j, r, walked⟩ := admissionPass_walks hq running
      exact walked.passes
  · obtain ⟨i, j, r, walked⟩ := admissionPass_walks hq quiet
    have count : r.admittedCount = i := by rw [walked.count, Nat.zero_add]
    have passed : r.passedOver = j := by rw [walked.passed, Nat.zero_add]
    refine ⟨r, walked.last, walked.uptime, ?_⟩
    dsimp only
    rw [count, passed]
    refine ⟨walked.admits.trans (admitted_length hq), walked.seen, ?_, ?_, ?_⟩
    · simpa using walked.front
    · simpa using walked.back
    · refine walked.atEnd.imp_left ?_
      rintro ⟨ended, none, candidate, tested⟩
      exact ⟨ended, le_antisymm walked.seen (List.getElem?_eq_none_iff.mp none), candidate, tested⟩
  · rw [workStep_passes ended shed told, if_pos none]
  · rw [workStep_passes ended shed told, some, if_neg (Nat.succ_ne_zero k)]
    rfl
  · unfold releasePermit
    dsimp only
    rw [if_pos held]
    rfl
  · exact if_pos falls
  · unfold takeCap
    dsimp only
    rw [if_neg (Nat.ne_of_gt rises), if_pos rises]
    rfl
  · unfold evaluateHold
    dsimp only
    rw [if_neg (Nat.not_le.mpr below), if_pos hold]
    rfl
  · have run := fallsCounted_pumpChanged sums p f
    generalize pumpChanged p (updPump p f s) = t at run ⊢
    dsimp only
    rintro ⟨q, fell⟩
    refine lt_of_le_of_ne run.passes fun same => ?_
    have kept : s.pumps[q].booking ≤ t.pumps[q].booking := run.counted same.symm q
    omega

end Sys2Proof.Machine
end

section
/-! SUPPORT. One pump's record through the work of an event: a property of the record that each of the work's own changes of
it keeps holds at the end of the event (R40, R45, R53, R87). -/

namespace Sys2Proof.Machine

/-- A property of a pump's record that the work of an event keeps, from a state `x` on. `guarded` says that the pump's house
is evaluated before an admission where it calls for PROTECT stops, and `flying` that the pump's order is in flight. -/
structure Course (x : State) (p : Pump) (guarded flying : Prop) (K : PumpLive → Prop) : Prop where
  booked : ∀ {r : PumpLive} (b : Nat), K r → r.state = .running ∨ r.state = .stopping → K { r with booking := b }
  stopped : ∀ {r : PumpLive} (c : StopCause), K r → r.state = .running ∨ r.state = .starting → K (stopRecord c r)
  withdrawn : ∀ {r : PumpLive}, K r → r.state = .ordered → Protects x (houseOf p) → ¬flying → K (withdrawnRecord r)
  marked : ∀ {r : PumpLive}, K r → r.state = .unconfirmed ∨ r.state = .ordered → K { r with protectPending := true }
  aggravated : ∀ {r : PumpLive}, K r → r.state = .stopping → K { r with stopCause := some .protect }
  queued : ∀ {r : PumpLive}, K r → r.state = .ready → r.history.length < (pumpPlan x p).startsPerHour →
    K { r with state := .queued }
  unqueued : ∀ {r : PumpLive}, K r → r.state = .queued → K (unqueuedRecord r)
  admitted : ∀ {r : PumpLive} (permit : Option Nat) (m c : Nat), K r → r.state = .queued →
    (guarded → ¬Protects x (houseOf p)) → K (admittedFields (now x) permit m c r)

/-- The pump's record has the property, in a state that the work of an event has led to. -/
structure OnCourse (x : State) (p : Pump) (flying : Prop) (K : PumpLive → Prop) (s : State) : Prop where
  standing : standing s = standing x
  flight : flying → orderInFlight s p = true
  holds : K s.pumps[p]

section
variable {x s t : State} {p q : Pump} {guarded flying : Prop} {K : PumpLive → Prop} {r : PumpLive}

theorem Course.rebooked (c : Course x p guarded flying K) (h : K r) (t : State) (k : House) (q : Pump) :
    K (rebooked t k q r) := by
  unfold Machine.rebooked
  split
  · next drawing => exact c.booked _ h drawing.2
  · exact h

/-- A pump that turns keeps the property where its new record has it, and the others are re-booked. -/
theorem Course.turned (c : Course x p guarded flying K) (turned : Turned q r s t) (h : K s.pumps[p]) (own : q = p → K r) :
    K t.pumps[p] := by
  by_cases e : q = p
  · subst e
    rw [turned.self]
    exact c.rebooked (own rfl) t _ _
  · rw [turned.other e]
    exact c.rebooked h t _ _

theorem orderInFlight_of_follows (h : Follows s t) (flying : orderInFlight s p = true) : orderInFlight t p = true := by
  have some : s.bus.flight.isSome = true := by
    unfold orderInFlight at flying
    cases e : s.bus.flight with
    | none => rw [e] at flying; cases flying
    | some f => rfl
  unfold orderInFlight at flying ⊢
  rwa [h.flight some]

theorem OnCourse.follows (h : OnCourse x p flying K s) (f : Follows s t) (holds : K t.pumps[p]) : OnCourse x p flying K t :=
  ⟨f.standing.trans h.standing, fun c => orderInFlight_of_follows f (h.flight c), holds⟩

theorem Course.updPump (h : K s.pumps[p]) (f : PumpLive → PumpLive) (own : q = p → K (f s.pumps[p])) :
    K (updPump q f s).pumps[p] := by
  rw [updPump_get]
  split
  · next e => exact own e
  · exact h

theorem Course.kept (c : Course x p guarded flying K) :
    Kept False (fun g => guarded ∧ g = houseOf p) (OnCourse x p flying K) := by
  refine ⟨fun {s t} queue step h => h.follows step.follows ?_, fun {s} q queue queued free h => ?_, fun w h => ⟨h.1, h.2, h.3⟩⟩
  · have holds := h.holds
    cases step with
    | quiet quiet => rwa [quiet.pumps]
    | stop cause q running =>
      exact c.turned (beginStop_turned cause q s) holds fun e => by subst e; exact c.stopped cause holds running
    | withdraw q ordered waits protects =>
      refine c.turned (protectOrdered_turned q s waits) holds fun e => ?_
      subst e
      refine c.withdrawn holds ordered ((protects_of_standing h.standing _).mp (protects.resolve_left id)) fun flies => ?_
      rw [h.flight flies] at waits
      cases waits
    | mark q held =>
      refine Course.updPump holds _ fun e => ?_
      subst e
      exact c.marked holds (held.imp_right And.left)
    | aggravate q stopping =>
      exact Course.updPump holds _ fun e => by subst e; exact c.aggravated holds stopping
    | queue q ready =>
      refine c.turned (queuePump_turned q s) holds fun e => ?_
      subst e
      simp only [eligible, Bool.and_eq_true, beq_iff_eq, pumpPlan] at ready
      refine c.queued holds ready.1 ?_
      rw [pumpPlan, ← planOf_of_standing h.standing]
      exact of_decide_eq_true ready.2
    | unqueue q queued =>
      exact c.turned (unqueue_turned q s queued) holds fun e => by subst e; exact c.unqueued holds queued
    | adopt q allowed _ => exact allowed.elim
    | rebook k allowed => exact allowed.elim
    | surveyed allowed => exact allowed.elim
  · refine h.follows (admit_on q (Follows.refl s)) (c.turned (admitPump_turned q s) h.holds fun e => ?_)
    subst e
    unfold admittedRecord
    rw [now_of_standing h.standing]
    exact c.admitted _ _ _ h.holds queued fun g => (protects_of_standing h.standing _).not.mp (free ⟨g, rfl⟩)

/-- What is needed of the state after an event's own changes. -/
theorem Course.settleAll (c : Course x p guarded flying K) (start : OnCourse x p flying K s) (queue : QueueHoldsTheQueued s)
    (surveyEnd : s.work.surveyEnd = false) (guard : guarded → Guarded (houseOf p) s) : K (settleAll s).pumps[p] := by
  have run : Holding False (fun g => guarded ∧ g = houseOf p) (OnCourse x p flying K) s :=
    ⟨⟨start, queue, fun _ => surveyEnd⟩, by rintro g ⟨told, rfl⟩; exact guard told⟩
  exact (run.settleAll c.kept).1.holds

theorem finish_pump (s : State) (p : Pump) : (finish s).pumps[p] = (settleAll s).pumps[p] := by
  have e : (finish s).pumps = (settleAll s).pumps := busGoesOn_pumps (settleAll s)
  rw [e]

/-- A property that the work of an event keeps holds at the end of the event, if it held after the event's own changes. -/
theorem Course.finish (c : Course s p guarded flying K) (holds : K s.pumps[p]) (queue : QueueHoldsTheQueued s)
    (surveyEnd : s.work.surveyEnd = false) (flight : flying → orderInFlight s p = true)
    (guard : guarded → Guarded (houseOf p) s) : K (finish s).pumps[p] := by
  rw [finish_pump]
  exact c.settleAll ⟨rfl, flight, holds⟩ queue surveyEnd guard

end

/-! ### Flags acted on -/

section
variable {r : PumpLive}

theorem stopActed_of_clear (isolate : r.isolatePending = false) (fault : r.faultPending = none) : stopActed r = r := by
  unfold stopActed isolateActed
  rw [fault]
  dsimp only
  rw [isolate]
  rfl

theorem isolateActed_of_clear (isolate : r.isolatePending = false) : isolateActed r = r := by
  unfold isolateActed
  rw [isolate]
  rfl

theorem isolateActed_of_pending (isolate : r.isolatePending = true) : isolateActed r = isolatedRecord r := by
  unfold isolateActed
  rw [isolate]
  rfl

theorem withdrawnRecord_of_clear (isolate : r.isolatePending = false) (fault : r.faultPending = none) :
    withdrawnRecord r = { undoneRecord r with state := .ready, stopCause := none } :=
  stopActed_of_clear isolate fault

theorem unqueuedRecord_of_clear (isolate : r.isolatePending = false) (fault : r.faultPending = none) :
    unqueuedRecord r = { r with state := .ready, admittedM := none, stopCause := none } :=
  stopActed_of_clear isolate fault

end

/-! ### Courses -/

/-- A pump that no piece of work touches: UNUSED, in REST, LOCAL, FAULTED or ISOLATED. -/
def Parked (r : PumpLive) : Prop :=
  r.state = .unused ∨ r.state = .rest ∨ r.state = .localControl ∨ r.state = .faulted ∨ r.state = .isolated

theorem Parked.finish {s : State} {p : Pump} (parked : Parked s.pumps[p]) (absent : ∀ e ∈ s.feeder.queue, e.pump ≠ p)
    (surveyEnd : s.work.surveyEnd = false) :
    (finish s).pumps[p] = s.pumps[p] ∧ ∀ e ∈ (finish s).feeder.queue, e.pump ≠ p := by
  have run := finish_steady (parked_steady s.pumps[p] parked) ⟨rfl, absent, surveyEnd⟩
  exact ⟨run.holds, run.absent⟩

/-- A record apart from its booking. -/
def unbooked (r : PumpLive) : PumpLive := { r with booking := 0 }

theorem unbooked_state {y r : PumpLive} (h : unbooked y = unbooked r) : y.state = r.state := by
  have := congrArg PumpLive.state h
  exact this

/-- A RUNNING or STARTING pump's record stands but for its booking, or the pump is on its way out. -/
def RunsOrStops (r y : PumpLive) : Prop := unbooked y = unbooked r ∨ y.state = .stopping

theorem RunsOrStops.states {r y : PumpLive} (moving : r.state = .running ∨ r.state = .starting) (h : RunsOrStops r y) :
    y.state = .running ∨ y.state = .starting ∨ y.state = .stopping := by
  rcases h with same | stopping
  · rw [unbooked_state same]
    exact moving.imp_right .inl
  · exact .inr (.inr stopping)

theorem course_runsOrStops (x : State) (p : Pump) {r : PumpLive} (moving : r.state = .running ∨ r.state = .starting) :
    Course x p False False (RunsOrStops r) := by
  have never {y : PumpLive} {P : Prop} (h : RunsOrStops r y) (run : y.state ≠ .running) (start : y.state ≠ .starting)
      (stop : y.state ≠ .stopping) : P := by
    have := h.states moving
    tauto
  constructor
  · exact fun b h _ => h
  · exact fun c _ _ => .inr rfl
  · exact fun h e _ _ => never h (by simp [e]) (by simp [e]) (by simp [e])
  · exact fun h e => never h (by rcases e with e | e <;> simp [e]) (by rcases e with e | e <;> simp [e])
      (by rcases e with e | e <;> simp [e])
  · exact fun _ stopping => .inr stopping
  · exact fun h e _ => never h (by simp [e]) (by simp [e]) (by simp [e])
  · exact fun h e => never h (by simp [e]) (by simp [e]) (by simp [e])
  · exact fun _ _ _ h e _ => never h (by simp [e]) (by simp [e]) (by simp [e])

/-- A pump on its way to a start, with no flag that waits and no min off to come. -/
def Waits (r : PumpLive) : Prop :=
  OnItsWay r ∧ r.isolatePending = false ∧ r.faultPending = none ∧ r.minOffUntil = none

theorem course_waits (x : State) (p : Pump) (guarded flying : Prop) : Course x p guarded flying Waits := by
  constructor
  · rintro r b ⟨way, flags⟩ _
    exact ⟨way, flags⟩
  · rintro r c ⟨way, -⟩ moving
    rcases way with e | e | e <;> rw [e] at moving <;> rcases moving with m | m <;> cases m
  · rintro r ⟨-, isolate, fault, minOff⟩ _ _ _
    rw [withdrawnRecord_of_clear isolate fault]
    exact ⟨.inl rfl, isolate, fault, minOff⟩
  · rintro r ⟨way, flags⟩ _
    exact ⟨way, flags⟩
  · rintro r ⟨way, flags⟩ _
    exact ⟨way, flags⟩
  · rintro r ⟨-, flags⟩ _ _
    exact ⟨.inr (.inl rfl), flags⟩
  · rintro r ⟨-, isolate, fault, minOff⟩ _
    rw [unqueuedRecord_of_clear isolate fault]
    exact ⟨.inl rfl, isolate, fault, minOff⟩
  · rintro r permit m c ⟨-, flags⟩ _ _
    exact ⟨.inr (.inr rfl), flags⟩

end Sys2Proof.Machine
end

section
/-! SUPPORT. What an event's own changes of a pump leave alone: the standing part, the survey, the transaction in flight, and
the records already in the Event Queue; and no notice is taken back. -/

namespace Sys2Proof.Machine

/-- `t` comes from `s` by operations on pumps. -/
structure Carries (s t : State) : Prop where
  standing : standing t = standing s
  records : s.eventQueue.records <+: t.eventQueue.records
  survey : t.survey = s.survey
  surveyEnd : t.work.surveyEnd = s.work.surveyEnd
  busEnded : t.work.busEnded = s.work.busEnded
  flight : s.bus.flight.isSome = true → t.bus.flight = s.bus.flight
  louder : Louder s t

section
variable {s t u : State}

theorem Carries.refl (s : State) : Carries s s := ⟨rfl, List.prefix_refl _, rfl, rfl, rfl, fun _ => rfl, Louder.refl s⟩

theorem Carries.trans (a : Carries s t) (b : Carries t u) : Carries s u :=
  ⟨b.standing.trans a.standing, a.records.trans b.records, b.survey.trans a.survey, b.surveyEnd.trans a.surveyEnd,
    b.busEnded.trans a.busEnded, fun h => (b.flight (by rw [a.flight h]; exact h)).trans (a.flight h), a.louder.trans b.louder⟩

theorem Carries.banks (a : Carries s t) : t.banks = s.banks := congrArg Standing.banks a.standing
theorem Carries.time (a : Carries s t) : t.time = s.time := congrArg Standing.time a.standing
theorem Carries.protection (a : Carries s t) : t.protection = s.protection := congrArg Standing.protection a.standing
theorem Carries.plan (a : Carries s t) : planOf t = planOf s := planOf_of_standing a.standing
theorem Carries.now (a : Carries s t) : now t = now s := now_of_standing a.standing

/-- A step that the work of an event could make, with nothing of the survey in it. -/
theorem Carries.of_follows (f : Follows s t) (survey : t.survey = s.survey) (surveyEnd : t.work.surveyEnd = s.work.surveyEnd)
    (busEnded : t.work.busEnded = s.work.busEnded) (louder : Louder s t) : Carries s t :=
  ⟨f.standing, f.records, survey, surveyEnd, busEnded, f.flight, louder⟩

theorem Carries.upd (a : Carries s t) (p : Pump) (f : PumpLive → PumpLive) : Carries s (updPump p f t) :=
  a.trans ⟨rfl, List.prefix_refl _, rfl, rfl, rfl, fun _ => rfl, Louder.refl t⟩

theorem Carries.event (a : Carries s t) (k : EventKind) (h : Option House) (p : Option Pump) (c : Option Tank) (v w : Nat) :
    Carries s (raise k h p c v w t) :=
  a.trans ⟨rfl, (raise_on k h p c v w (Follows.refl t)).records, rfl, rfl, rfl, fun _ => rfl, Louder.refl t⟩

theorem Carries.raised (a : Carries s t) (k : EventKind) (p : Pump) (v w : Nat) : Carries s (raisePump k p v w t) :=
  a.event _ _ _ _ _ _

theorem Carries.changed (a : Carries s t) (p : Pump) : Carries s (pumpChanged p t) :=
  a.trans ⟨(pumpChanged_on p (Follows.refl t)).standing, by rw [pumpChanged_eventQueue], pumpChanged_survey p t,
    pumpChanged_surveyEnd p t, pumpChanged_busEnded p t, fun _ => by rw [pumpChanged_bus], (Louder.refl t).changed p⟩

theorem Carries.released (a : Carries s t) (p : Pump) : Carries s (releasePermit p t) := by
  obtain ⟨n, eq⟩ := releasePermit_writes p t
  rw [eq]
  exact a.trans ⟨rfl, List.prefix_refl _, rfl, rfl, rfl, fun _ => rfl, Louder.refl t⟩

theorem Carries.told (a : Carries s t) (h : House) : Carries s (notice h t) :=
  a.trans ⟨rfl, List.prefix_refl _, rfl, rfl, rfl, fun _ => rfl, (quiet_notice h t).notices⟩

theorem Carries.shed (a : Carries s t) : Carries s (callShedTest t) :=
  a.trans ⟨rfl, List.prefix_refl _, rfl, rfl, rfl, fun _ => rfl, Louder.refl t⟩

theorem Carries.withdrawn (a : Carries s t) (p : Pump) : Carries s (withdrawOrder p t) :=
  a.trans ⟨rfl, List.prefix_refl _, rfl, rfl, rfl, fun _ => rfl, Louder.refl t⟩

theorem Carries.unqueued (a : Carries s t) (p : Pump) : Carries s (leaveStartQueue p t) :=
  a.trans ⟨rfl, List.prefix_refl _, rfl, rfl, rfl, fun _ => rfl, Louder.refl t⟩

theorem Carries.joined (a : Carries s t) (u : BusUnit) (c : TxClass) (o : Option Order) :
    Carries s (joinTransmit u c o t) := by
  have follows := joinTransmit_on u c o (Follows.refl t)
  exact a.trans (.of_follows follows (joinTransmit_survey u c o t) (by rw [joinTransmit_work]) (by rw [joinTransmit_work])
    (Louder.of_eq (by rw [joinTransmit_work])))

theorem Carries.dutyWritten (a : Carries s t) (h : House) (f : List Pump → List Pump) :
    Carries s (updHouse h (fun r => { r with dutyList := f r.dutyList }) t) :=
  a.trans ⟨(updHouse_on h (fun r => { r with dutyList := f r.dutyList }) (fun _ => rfl) (Follows.refl t)).standing, List.prefix_refl _, rfl, rfl, rfl, fun _ => rfl,
    Louder.refl t⟩

theorem Carries.undone (a : Carries s t) (p : Pump) : Carries s (undoAdmission p t) := (a.released p).upd p _

theorem Carries.withdrawnStart (a : Carries s t) (p : Pump) : Carries s (withdrawStart p t) := (a.withdrawn p).undone p

theorem Carries.out (a : Carries s t) (p : Pump) (st : PumpState) : Carries s (takeOut p st t) :=
  (((a.unqueued p).released p).dutyWritten (houseOf p) fun ps => ps.filter fun q => q != p).upd p _

theorem Carries.isolated (a : Carries s t) (p : Pump) : Carries s (enterIsolated p t) := (a.out p .isolated).upd p _

theorem Carries.isolateActed (a : Carries s t) (p : Pump) : Carries s (actIsolate p t) := by
  unfold actIsolate
  split
  · exact a.isolated p
  · exact a

theorem Carries.localTaken (a : Carries s t) (p : Pump) : Carries s (enterLocal p t) :=
  ((a.out p .localControl).upd p _).isolateActed p

theorem Carries.faulted (a : Carries s t) (p : Pump) (c : FaultCause) : Carries s (enterFaulted p c t) :=
  (((a.out p .faulted).upd p _).raised .pumpFault p _ _).isolateActed p

theorem Carries.stopActed (a : Carries s t) (p : Pump) : Carries s (actStopped p t) := by
  unfold actStopped
  split
  · exact a.faulted p _
  · exact a.isolateActed p

theorem Carries.restEntered (a : Carries s t) (p : Pump) : Carries s (enterRest p t) := by
  unfold enterRest
  exact (a.released p).upd p _

theorem Carries.restPassed (a : Carries s t) (p : Pump) : Carries s (passRest p t) := by
  unfold passRest
  dsimp only
  split
  · exact a.upd p _
  · exact a

theorem Carries.restSettled (a : Carries s t) (p : Pump) : Carries s (settleRest p t) :=
  ((a.stopActed p).restPassed p).changed p

theorem Carries.stopBegun (a : Carries s t) (c : StopCause) (p : Pump) : Carries s (beginStop c p t) :=
  ((((a.released p).upd p _).joined _ _ _).changed p).raised _ p _ _

theorem Carries.orderedProtected (a : Carries s t) (p : Pump) : Carries s (protectOrdered p t) := by
  unfold protectOrdered
  split
  · exact a.upd p _
  · exact ((((a.withdrawnStart p).upd p _).raised _ p _ _).stopActed p).changed p

theorem Carries.stopIssued (a : Carries s t) (c : StopCause) (p : Pump) : Carries s (issueStop c p t) := by
  unfold issueStop
  split
  case h_1 => exact a.stopBegun c p
  case h_2 => exact a.stopBegun c p
  case h_3 =>
    split
    · exact a.orderedProtected p
    · exact a
  case h_4 =>
    split
    · exact a.upd p _
    · exact a
  case h_5 =>
    split
    · exact a.upd p _
    · exact a
  all_goals exact a

theorem Carries.startActed (a : Carries s t) (p : Pump) : Carries s (actStarted p t) := by
  unfold actStarted
  dsimp only
  split
  · exact (a.upd p _).stopIssued _ p
  · exact a

theorem Carries.urgent (a : Carries s t) (u : BusUnit) : Carries s (requestUrgent u t) := by
  unfold requestUrgent
  split
  · exact a.trans ⟨rfl, List.prefix_refl _, rfl, rfl, rfl, fun _ => rfl, Louder.refl t⟩
  · exact a.joined _ _ _

/-! ### Up to the end of the event -/

theorem Carries.finish_standing (a : Carries s t) : Machine.standing (finish t) = Machine.standing s :=
  (Machine.finish_standing t).trans a.standing

theorem Carries.finish_beginsWith (a : Carries s t) : BeginsWith s.eventQueue.records (finish t) :=
  a.records.trans (finish_records t)

/-- A house that is told of a change is evaluated before an admission. -/
theorem guarded_of_notice {g : House} (h : s.work.notices[g] = true) : Guarded g s := fun _ => .inl h

end

end Sys2Proof.Machine
end

section
/-! SUPPORT. The timers of a pump (R37, R38, R39, R43, R44): what each expiry makes of the pump's record, and what the work
of the event may still make of it; O51. -/

namespace Sys2Proof.Machine

/-! ### An event of its own -/

theorem live_whenDue {s : State} (running : s.inReset = false) (due : State → Bool) (effect : State → State)
    (isDue : due s = true) : live (fun s => whenDue (due s) effect s) s = .next (finish (effect s)) := by
  rw [live_running running, whenDue, if_pos isDue]

theorem reached_some {s : State} {u : Nat} (h : u ≤ s.time.uptime) : reached s (some u) = true := decide_eq_true h

/-- The records of a state once an event has been raised in it. -/
theorem raisePump_records (k : EventKind) (p : Pump) (v w : Nat) (s : State) :
    (raisePump k p v w s).eventQueue.records = withEvent k (some (houseOf p)) (some p) none v w s := rfl

theorem withEvent_congr {s t : State} (time : t.time = s.time) (events : t.eventQueue = s.eventQueue) (k : EventKind)
    (h : Option House) (p : Option Pump) (c : Option Tank) (v w : Nat) :
    withEvent k h p c v w t = withEvent k h p c v w s := by
  simp only [withEvent, eventNow, now, networkMinute, time, events]

/-! ### Booking counts -/

/-- A pump that turns from one state that counts in m to another leaves the booking count (R87). -/
theorem bookingCount_of_counts {s t : State} (h : ∀ q : Pump, countsInM t.pumps[q].state = countsInM s.pumps[q].state)
    (k : House) : bookingCount t k = bookingCount s k := by
  unfold bookingCount pumpsIn
  exact congrArg List.length (List.filter_congr fun q _ => h q)

theorem Turned.bookingCount {s t : State} {p : Pump} {r : PumpLive} (turned : Turned p r s t)
    (counts : countsInM r.state = countsInM s.pumps[p].state) (k : House) : bookingCount t k = bookingCount s k :=
  bookingCount_of_counts (fun q => by
    rw [turned.state]
    split
    · next e => subst e; exact counts
    · rfl) k

/-! ### Flags on entering a start -/

section
variable {p : Pump} {s : State}

/-- A pump in motion with a PROTECT stop that waits takes it at once (R53). -/
theorem actStarted_cases (moving : s.pumps[p].state = .running ∨ s.pumps[p].state = .starting) :
    actStarted p s = s ∨ (actStarted p s).pumps[p].state = .stopping := by
  unfold actStarted
  dsimp only
  split
  · right
    generalize e : updPump p (fun r => { r with protectPending := false }) s = t
    have same : t.pumps[p].state = s.pumps[p].state := by
      rw [← e, updPump_self]
    have stops : issueStop .protect p t = beginStop .protect p t := by
      unfold issueStop
      rcases moving with m | m <;> rw [same, m]
    rw [stops, (beginStop_turned .protect p t).state, if_pos rfl]
    rfl
  · exact .inl rfl

theorem RunsOrStops.startActed {r : PumpLive} (moving : r.state = .running ∨ r.state = .starting)
    (h : unbooked s.pumps[p] = unbooked r) : RunsOrStops r (actStarted p s).pumps[p] := by
  rcases actStarted_cases (p := p) (s := s) (by rw [unbooked_state h]; exact moving) with same | stopping
  · rw [same]
    exact .inl h
  · exact .inr stopping

end

/-! ### The start window -/

/-- The record of a pump whose start window has ended (R44). -/
def startedRecord (minRunUntil : Option Nat) (r : PumpLive) : PumpLive :=
  { r with
    permit := none, permitRelease := none, state := .running, windowEnd := none, reachedRunning := true, minRunUntil }

section
variable {p : Pump} {s : State}

/-- The pump of an ended start window, before its flags are acted on. -/
def windowTurned (p : Pump) (s : State) : State :=
  pumpChanged p
    (updPump p (fun r => { r with state := .running, windowEnd := none, reachedRunning := true, minRunUntil := minRunOf s p })
      (releasePermit p s))

theorem windowTurned_turned (p : Pump) (s : State) :
    Turned p (startedRecord (minRunOf s p) s.pumps[p]) s (windowTurned p s) :=
  Turned.of_changed (by simp [startedRecord])

theorem windowTurned_record (starting : s.pumps[p].state = .starting) : (windowTurned p s).pumps[p] =
    { startedRecord (minRunOf s p) s.pumps[p] with booking := drawB s p (bookingCount s (houseOf p)) } := by
  have turned := windowTurned_turned p s
  have banks : (windowTurned p s).banks = s.banks := by simp [windowTurned]
  rw [turned.self, rebooked_drawing rfl (.inl rfl), drawB_of_banks banks,
    turned.bookingCount (by rw [starting]; rfl)]

theorem windowEnded_eq (p : Pump) (s : State) : windowEnded p s =
    actStarted p (raisePump .run p (((windowTurned p s).pumps[p].admittedM).getD 0) (windowTurned p s).pumps[p].booking
      (windowTurned p s)) := rfl

theorem windowTurned_carries (p : Pump) (s : State) : Carries s (windowTurned p s) :=
  (((Carries.refl s).released p).upd p _).changed p

theorem windowTurned_events (p : Pump) (s : State) : (windowTurned p s).eventQueue = s.eventQueue := by simp [windowTurned]

theorem windowEnded_records (starting : s.pumps[p].state = .starting) :
    withEvent .run (some (houseOf p)) (some p) none (s.pumps[p].admittedM.getD 0) (drawB s p (bookingCount s (houseOf p))) s <+:
      (windowEnded p s).eventQueue.records := by
  rw [windowEnded_eq, windowTurned_record starting]
  refine List.IsPrefix.trans ?_ ((Carries.refl _).startActed p).records
  rw [raisePump_records, withEvent_congr (windowTurned_carries p s).time (windowTurned_events p s)]
  exact List.prefix_refl _

theorem windowEnded_runs (starting : s.pumps[p].state = .starting) :
    RunsOrStops (startedRecord (minRunOf s p) s.pumps[p]) (windowEnded p s).pumps[p] := by
  rw [windowEnded_eq]
  refine RunsOrStops.startActed (.inl rfl) ?_
  rw [raisePump, raise_pumps, windowTurned_record starting]
  rfl

theorem windowEnded_carries (p : Pump) (s : State) : Carries s (windowEnded p s) := by
  rw [windowEnded_eq]
  exact ((windowTurned_carries p s).raised _ p _ _).startActed p

end

/-! ### A kept permit -/

/-- A record apart from protect-pending. -/
def unprotected (r : PumpLive) : PumpLive := { r with protectPending := false }

theorem unprotected_state {y r : PumpLive} (h : unprotected y = unprotected r) : y.state = r.state := by
  have := congrArg PumpLive.state h
  exact this

/-- An UNCONFIRMED pump keeps its record, protect-pending aside (R45). -/
theorem steady_unconfirmed {r : PumpLive} (unconfirmed : r.state = .unconfirmed) :
    Steady fun y => unprotected y = unprotected r := by
  have state {y : PumpLive} (h : unprotected y = unprotected r) : y.state = .unconfirmed :=
    (unprotected_state h).trans unconfirmed
  constructor
  · intro y h
    rw [state h]
    simp
  · intro y b h e
    rw [state h] at e
    rcases e with e | e <;> cases e
  · intro y c h e
    rw [state h] at e
    rcases e with e | e <;> cases e
  · exact fun y h _ => h
  · intro y h e
    rw [state h] at e
    cases e

/-! ### The start history -/

section
variable {x : State} {p : Pump} {rest : List Nat}

theorem stopActed_history (r : PumpLive) : (stopActed r).history = r.history := by
  have acted (r : PumpLive) : (isolateActed r).history = r.history := by
    unfold isolateActed
    split <;> rfl
  unfold stopActed
  split
  · exact acted _
  · exact acted r

theorem stopActed_ready {r : PumpLive} (ready : r.state = .ready) : (stopActed r).state ≠ .ordered := by
  rcases stopActed_state r with e | e | e <;> rw [e]
  · rw [ready]
    exact PumpState.noConfusion
  all_goals exact PumpState.noConfusion

/-- The history of a pump that is READY or QUEUED: it may be admitted. -/
def AdmittedOnce (x : State) (p : Pump) (rest : List Nat) (r : PumpLive) : Prop :=
  r.state ≠ .ordered ∧ r.history = rest ∨
    r.state = .ordered ∧ r.history = rest ++ [now x] ∧ ¬Protects x (houseOf p)

theorem course_admittedOnce (x : State) (p : Pump) (rest : List Nat) :
    Course x p True False (AdmittedOnce x p rest) := by
  have idle {r : PumpLive} {P : Prop} (h : AdmittedOnce x p rest r) (e : r.state ≠ .ordered) (k : r.history = rest → P) : P :=
    h.elim (fun c => k c.2) fun c => absurd c.1 e
  constructor
  · exact fun b h e => h
  · exact fun c h e => .inl ⟨PumpState.noConfusion, idle h (by rcases e with e | e <;> simp [e]) id⟩
  · rintro r (⟨e, -⟩ | ⟨-, -, free⟩) ordered protects -
    · exact absurd ordered e
    · exact absurd protects free
  · exact fun h e => h
  · exact fun h e => h
  · exact fun h e _ => .inl ⟨PumpState.noConfusion, idle h (by simp [e]) id⟩
  · intro r h e
    refine .inl ⟨stopActed_ready rfl, ?_⟩
    rw [unqueuedRecord, stopActed_history]
    exact idle h (by simp [e]) id
  · intro r permit m c h e free
    refine .inr ⟨rfl, ?_, free trivial⟩
    have : r.history = rest := idle h (by simp [e]) id
    rw [admittedFields, this]

/-- The history of an ORDERED pump: its admission may be undone, and is not made again. -/
def UndoneOnce (x : State) (p : Pump) (rest : List Nat) (r : PumpLive) : Prop :=
  r.state = .ordered ∧ r.history = rest ∨
    r.state ≠ .ordered ∧ r.history = rest.dropLast ∧ Protects x (houseOf p)

theorem course_undoneOnce (x : State) (p : Pump) (rest : List Nat) : Course x p True False (UndoneOnce x p rest) := by
  have idle {r : PumpLive} {P : Prop} (h : UndoneOnce x p rest r) (e : r.state ≠ .ordered)
      (k : r.history = rest.dropLast → Protects x (houseOf p) → P) : P :=
    h.elim (fun c => absurd c.1 e) fun c => k c.2.1 c.2.2
  constructor
  · exact fun b h e => h
  · exact fun c h e => .inr ⟨PumpState.noConfusion, idle h (by rcases e with e | e <;> simp [e]) And.intro⟩
  · rintro r (⟨-, history⟩ | ⟨e, -⟩) ordered protects -
    · refine .inr ⟨stopActed_ready rfl, ?_, protects⟩
      rw [withdrawnRecord, stopActed_history, ← history]
      rfl
    · exact absurd ordered e
  · exact fun h e => h
  · exact fun h e => h
  · exact fun h e _ => .inr ⟨PumpState.noConfusion, idle h (by simp [e]) And.intro⟩
  · intro r h e
    refine .inr ⟨stopActed_ready rfl, ?_⟩
    rw [unqueuedRecord, stopActed_history]
    exact idle h (by simp [e]) And.intro
  · exact fun _ _ _ h e free => idle h (by simp [e]) fun _ protects => absurd protects (free trivial)

/-- The history of any other pump stands. -/
theorem steady_history (rest : List Nat) :
    Steady fun r => r.history = rest ∧ r.state ≠ .ready ∧ r.state ≠ .queued ∧ r.state ≠ .ordered :=
  ⟨fun _ h => h.2, fun _ _ h _ => h, fun _ _ h _ => ⟨h.1, PumpState.noConfusion, PumpState.noConfusion, PumpState.noConfusion⟩,
    fun _ h _ => h, fun _ h _ => h⟩

end

/-! ### Min off -/

section
variable {p : Pump} {s : State}

/-- The record of a pump whose min off is over (R38). -/
def readied (r : PumpLive) : PumpLive := { r with state := .ready, minOffUntil := none }

theorem restPassed_of_over {r : PumpLive} {uptime : Nat} (rest : r.state = .rest)
    (passed : r.minOffUntil.all (fun t => decide (t ≤ uptime)) = true) : restPassed uptime r = readied r :=
  if_pos (by rw [rest, passed]; rfl)

theorem minOffExpires_record (rest : s.pumps[p].state = .rest) {u : Nat} (minOff : s.pumps[p].minOffUntil = some u)
    (due : u ≤ s.time.uptime) (isolate : s.pumps[p].isolatePending = false) (fault : s.pumps[p].faultPending = none) :
    (minOffExpires p s).pumps[p] = readied s.pumps[p] := by
  have turned : Turned p (stopActed (restPassed (now s) s.pumps[p])) s (minOffExpires p s) :=
    Turned.of_changed (by simp [actStopped_pumps, passRest_pumps])
  have acted : stopActed (readied s.pumps[p]) = readied s.pumps[p] := stopActed_of_clear isolate fault
  rw [turned.self, restPassed_of_over rest (by rw [minOff]; exact decide_eq_true due), acted,
    rebooked_idle PumpState.noConfusion PumpState.noConfusion]

theorem minOffExpires_carries (p : Pump) (s : State) : Carries s (minOffExpires p s) :=
  (((Carries.refl s).restPassed p).stopActed p).changed p

theorem minRunExpires_carries (p : Pump) (s : State) : Carries s (minRunExpires p s) := ((Carries.refl s).upd p _).told _

theorem historyExpires_carries (p : Pump) (s : State) : Carries s (historyExpires p s) := ((Carries.refl s).upd p _).told _

theorem historyExpires_notice (p : Pump) (s : State) : (historyExpires p s).work.notices[houseOf p] = true := by
  simp [historyExpires, notice]

end

/-- Settles O51: each expiry's record is the start of a course that the work of the event keeps to. -/
theorem pumpTimersExpire : Obligations.PumpTimersExpire := by
  unfold Obligations.PumpTimersExpire
  rintro s p ⟨⟨blank, -⟩, running⟩ queue
  have surveyEnd : s.work.surveyEnd = false := by rw [blank]; rfl
  refine ⟨fun u starting window due => ?_, fun u minRun due => ?_, fun u unconfirmed release due => ?_,
    fun u rest history due => ?_, fun u rest minOff due isolate fault => ?_⟩
  · refine ⟨_, (exec_startWindowEnd p s).trans
      (live_whenDue running (fun s => windowIsOver s p) (windowEnded p) ?_), ?_, ?_, ?_⟩
    · rw [windowIsOver, starting, window]
      exact reached_some due
    · exact (windowEnded_carries p s).finish_standing
    · exact (windowEnded_records starting).trans (finish_records _)
    · have course := course_runsOrStops (windowEnded p s) p
        (r := startedRecord (minRunOf s p) s.pumps[p]) (.inl rfl)
      have run := course.finish (windowEnded_runs starting) (queue.windowEnded starting)
        ((windowEnded_carries p s).surveyEnd.trans surveyEnd) False.elim False.elim
      exact run.symm
  · refine ⟨_, (exec_minRunExpiry p s).trans
      (live_whenDue running (fun s => minRunIsOver s p) (minRunExpires p) ?_), ?_, ?_, ?_⟩
    · rw [minRunIsOver, minRun]
      exact reached_some due
    · exact (minRunExpires_carries p s).finish_standing
    · refine (finish_pumps (minRunExpires p s) p).minRun ?_
      rw [minRunExpires, notice_pumps, updPump_self]
    · exact (minRunExpires_carries p s).finish_beginsWith
  · have carries : Carries s (releasePermit p s) := (Carries.refl s).released p
    refine ⟨_, (exec_permitReleaseExpiry p s).trans
      (live_whenDue running (fun s => permitIsDue s p) (releasePermit p) ?_), ?_, ?_, ?_⟩
    · rw [permitIsDue, release]
      exact reached_some due
    · exact carries.finish_standing
    · exact carries.finish_beginsWith
    · have record : (releasePermit p s).pumps[p] = { s.pumps[p] with permit := none, permitRelease := none } := by
        rw [get_of_set (releasePermit_pumps p s), if_pos rfl]
      have absent := (queue.releasePermit p).absent (p := p) (by rw [record, unconfirmed]; exact PumpState.noConfusion)
      have run := finish_steady (steady_unconfirmed (r := (releasePermit p s).pumps[p]) (by rw [record]; exact unconfirmed))
        ⟨rfl, absent, carries.surveyEnd.trans surveyEnd⟩
      have kept := run.holds
      rw [record] at kept
      exact kept
  · have carries := historyExpires_carries p s
    have record : (historyExpires p s).pumps[p] = { s.pumps[p] with history := rest } := by
      rw [historyExpires, notice_pumps, updPump_self, history]
      rfl
    have state : (historyExpires p s).pumps[p].state = s.pumps[p].state := by rw [record]
    have left : (historyExpires p s).pumps[p].history = rest := by rw [record]
    have queued : QueueHoldsTheQueued (historyExpires p s) := (queue.touch p _ (by simp)).notice _
    have closed := carries.surveyEnd.trans surveyEnd
    have guard : True → Guarded (houseOf p) (historyExpires p s) := fun _ => guarded_of_notice (historyExpires_notice p s)
    refine ⟨_, (exec_startHistoryExpiry p s).trans
      (live_whenDue running (fun s => historyIsDue s p) (historyExpires p) ?_), ?_, ?_, fun idle => ?_, fun ordered => ?_,
      fun ready queuing ordered => ?_⟩
    · rw [historyIsDue, history]
      exact reached_some due
    · exact carries.finish_standing
    · exact carries.finish_beginsWith
    · have run := (course_admittedOnce (historyExpires p s) p rest).finish
        (.inl ⟨by rw [state]; rcases idle with e | e <;> rw [e] <;> exact PumpState.noConfusion, left⟩) queued closed False.elim guard
      rw [AdmittedOnce, carries.now] at run
      rcases run with ⟨-, kept⟩ | ⟨ordered, kept, -⟩
      · exact .inl kept
      · exact .inr ⟨ordered, kept⟩
    · have run := (course_undoneOnce (historyExpires p s) p rest).finish (.inl ⟨state.trans ordered, left⟩) queued closed
        False.elim guard
      rcases run with ⟨-, kept⟩ | ⟨out, kept, -⟩
      · exact .inl kept
      · exact .inr ⟨out, kept⟩
    · have absent := queued.absent (p := p) (by rw [state]; exact queuing)
      have run := finish_steady (steady_history rest)
        (p := p) (s := historyExpires p s) ⟨⟨left, by rw [state]; exact ⟨ready, queuing, ordered⟩⟩, absent, closed⟩
      exact run.holds.1
  · have carries := minOffExpires_carries p s
    have record := minOffExpires_record rest minOff due isolate fault
    have run := (course_waits (minOffExpires p s) p False False).finish (by
      rw [record]
      exact ⟨.inl rfl, isolate, fault, rfl⟩) (queue.minOffExpires rest) (carries.surveyEnd.trans surveyEnd) False.elim False.elim
    refine ⟨_, (exec_minOffExpiry p s).trans
      (live_whenDue running (fun s => minOffIsOver s p) (minOffExpires p) ?_), ?_, run.1, run.2.2.2, ?_⟩
    · rw [minOffIsOver, rest, minOff]
      exact reached_some due
    · exact carries.finish_standing
    · exact carries.finish_beginsWith

end Sys2Proof.Machine
end

section
/-! SUPPORT. The duty lists through the work of an event (R56), and a pump that is out of service: nothing of the work
touches it. -/

namespace Sys2Proof.Machine

/-! ### Duty lists -/

section
variable {p : Pump} {s t : State}

/-- Taking a pump out of service takes none but that pump out of a duty list. -/
theorem Retires.duty (r : Retires p s t) (h : House) : (t.houses[h].dutyList).Sublist s.houses[h].dutyList := by
  rcases r.houses with e | e <;> rw [e]
  rw [leaveDuty, updHouse_get]
  split
  · exact List.filter_sublist
  · exact .refl _

theorem beginStop_houses (c : StopCause) (q : Pump) (s : State) : (beginStop c q s).houses = s.houses := by
  simp [beginStop, raisePump, joinOrder]

/-- A change that ends in flags acted on and a re-booking, from a state with the same duty lists. -/
theorem actStopped_duty {q : Pump} (houses : t.houses = s.houses) (h : House) :
    ((pumpChanged q (actStopped q t)).houses[h].dutyList).Sublist s.houses[h].dutyList := by
  have changed := pumpChanged_houses q (actStopped q t)
  have acted := (actStopped_retires q t).duty h
  rw [changed, ← houses]
  exact acted

theorem protectOrdered_duty (q : Pump) (s : State) (h : House) :
    ((protectOrdered q s).houses[h].dutyList).Sublist s.houses[h].dutyList := by
  unfold protectOrdered
  split
  · exact .refl _
  · exact actStopped_duty (by simp [raisePump, withdrawStart, undoAdmission]) h

theorem unqueue_duty (q : Pump) (s : State) (h : House) :
    ((unqueue q s).houses[h].dutyList).Sublist s.houses[h].dutyList := by
  unfold unqueue
  split
  · exact actStopped_duty (by rfl) h
  · exact .refl _

/-- No step of the work puts a pump in a duty list. -/
theorem Stir.duty {loose : Prop} (step : Stir False loose s t) (h : House) :
    (t.houses[h].dutyList).Sublist s.houses[h].dutyList := by
  cases step with
  | quiet quiet => rw [quiet.duty]
  | stop c q _ => rw [beginStop_houses]
  | withdraw q _ _ _ => exact protectOrdered_duty q s h
  | mark q _ => exact .refl _
  | aggravate q _ => exact .refl _
  | queue q _ =>
    have houses : (queuePump q s).houses = s.houses := pumpChanged_houses q _
    rw [houses]
  | unqueue q _ => exact unqueue_duty q s h
  | adopt q allowed _ => exact allowed.elim
  | rebook k allowed => exact allowed.elim
  | surveyed allowed => exact allowed.elim

/-- An admission moves the admitted pump to the back, if it moves any (R56). -/
theorem admitPump_duty (q : Pump) (s : State) (h : House) : (admitPump q s).houses[h].dutyList = s.houses[h].dutyList ∨
    houseOf q = h ∧
      (admitPump q s).houses[h].dutyList = (s.houses[h].dutyList.filter fun d => d != q) ++ [q] := by
  rw [admitPump_houses]
  split
  · exact .inl rfl
  · rw [rotateLead, updHouse_get]
    split
    · next e => exact .inr ⟨e, rfl⟩
    · exact .inl rfl

theorem mem_admitPump_duty {q : Pump} {h : House} (apart : q ≠ p) :
    p ∈ (admitPump q s).houses[h].dutyList → p ∈ s.houses[h].dutyList := by
  rcases admitPump_duty q s h with same | ⟨-, back⟩
  · rw [same]
    exact id
  · rw [back, List.mem_append, List.mem_filter, List.mem_singleton]
    exact fun mem => mem.elim And.left fun e => absurd e.symm apart

end

/-! ### On a course from a state, through steps, to the end of the event -/

section
variable {x s u : State} {p : Pump} {guarded flying : Prop} {K : PumpLive → Prop}

/-- A pump that is never QUEUED on its course, and in no duty list. -/
theorem Course.keptOut (c : Course x p guarded flying K) (unqueued : ∀ r, K r → r.state ≠ .queued) :
    Kept False (fun g => guarded ∧ g = houseOf p)
      fun s => OnCourse x p flying K s ∧ p ∉ s.houses[houseOf p].dutyList := by
  refine ⟨fun queue step h => ⟨c.kept.stir queue step h.1, fun mem => h.2 ((step.duty _).subset mem)⟩,
    fun q queue queued free h => ⟨c.kept.admitted q queue queued free h.1, fun mem => h.2 (mem_admitPump_duty ?_ mem)⟩,
    fun w h => ⟨c.kept.reworked w h.1, h.2⟩⟩
  rintro rfl
  exact unqueued _ h.1.holds queued

/-- What is needed at the start of a course. -/
structure Starts (p : Pump) (guarded flying : Prop) (s : State) : Prop where
  queue : QueueHoldsTheQueued s
  surveyEnd : s.work.surveyEnd = false
  flight : flying → orderInFlight s p = true
  guard : guarded → Guarded (houseOf p) s

theorem Starts.holding {P : State → Prop} (start : Starts p guarded flying s) (holds : P s) :
    Holding False (fun g => guarded ∧ g = houseOf p) P s :=
  ⟨⟨holds, start.queue, fun _ => start.surveyEnd⟩, by rintro g ⟨told, rfl⟩; exact start.guard told⟩

theorem Course.finish_stirs (c : Course s p guarded flying K) (start : Starts p guarded flying s) (holds : K s.pumps[p])
    (run : Stirs False False s u) : K (Machine.finish u).pumps[p] := by
  rw [finish_pump]
  have onCourse : OnCourse s p flying K s := ⟨rfl, start.flight, holds⟩
  exact (((start.holding onCourse).stirs c.kept run).settleAll c.kept).1.holds

theorem busGoesOn_houses (s : State) : (busGoesOn s).houses = s.houses := startTransaction_houses _

theorem finish_houses (s : State) : (finish s).houses = (settleAll s).houses := busGoesOn_houses (settleAll s)

theorem Course.finish_out (c : Course s p guarded flying K) (unqueued : ∀ r, K r → r.state ≠ .queued)
    (start : Starts p guarded flying s) (holds : K s.pumps[p]) (out : p ∉ s.houses[houseOf p].dutyList)
    (run : Stirs False False s u) : p ∉ (Machine.finish u).houses[houseOf p].dutyList := by
  rw [finish_houses]
  have onCourse : OnCourse s p flying K s ∧ p ∉ s.houses[houseOf p].dutyList := ⟨⟨rfl, start.flight, holds⟩, out⟩
  exact (((start.holding onCourse).stirs (c.keptOut unqueued) run).settleAll (c.keptOut unqueued)).1.2

end

/-! ### Out of service -/

section
variable {x s u : State} {p : Pump}

theorem Parked.ne {r : PumpLive} (h : Parked r) : r.state ≠ .ready ∧ r.state ≠ .queued ∧ r.state ≠ .ordered ∧
    r.state ≠ .starting ∧ r.state ≠ .running ∧ r.state ≠ .stopping ∧ r.state ≠ .unconfirmed := by
  rcases h with e | e | e | e | e <;> rw [e] <;> decide

theorem course_parked (x : State) (p : Pump) {r : PumpLive} (h : Parked r) : Course x p False False (· = r) := by
  obtain ⟨ready, queued, ordered, starting, running, stopping, unconfirmed⟩ := h.ne
  constructor
  · rintro _ b rfl (e | e)
    · exact absurd e running
    · exact absurd e stopping
  · rintro _ c rfl (e | e)
    · exact absurd e running
    · exact absurd e starting
  · rintro _ rfl e _ _
    exact absurd e ordered
  · rintro _ rfl (e | e)
    · exact absurd e unconfirmed
    · exact absurd e ordered
  · rintro _ rfl e
    exact absurd e stopping
  · rintro _ rfl e _
    exact absurd e ready
  · rintro _ rfl e
    exact absurd e queued
  · rintro _ _ _ _ rfl e _
    exact absurd e queued

/-- A pump that is out of service: in a state that nothing of the work touches, and in no duty list. -/
structure OutOfService (p : Pump) (s : State) : Prop where
  parked : Parked s.pumps[p]
  duty : p ∉ s.houses[houseOf p].dutyList

/-- The work of an event leaves a pump that is out of service as it is. -/
theorem Parked.finish_stirs (parked : Parked s.pumps[p]) (queue : QueueHoldsTheQueued s) (surveyEnd : s.work.surveyEnd = false)
    (run : Stirs False False s u) :
    (Machine.finish u).pumps[p] = s.pumps[p] ∧ ∀ e ∈ (Machine.finish u).feeder.queue, e.pump ≠ p := by
  have start : Starts p False False s := ⟨queue, surveyEnd, False.elim, False.elim⟩
  have same := (course_parked s p parked).finish_stirs start rfl run
  refine ⟨same, (run.queued queue).finish.absent ?_⟩
  rw [same]
  exact parked.ne.2.1

theorem OutOfService.finish_stirs (out : OutOfService p s) (queue : QueueHoldsTheQueued s)
    (surveyEnd : s.work.surveyEnd = false) (run : Stirs False False s u) :
    (Machine.finish u).pumps[p] = s.pumps[p] ∧ p ∉ (Machine.finish u).houses[houseOf p].dutyList ∧
      ∀ e ∈ (Machine.finish u).feeder.queue, e.pump ≠ p := by
  have start : Starts p False False s := ⟨queue, surveyEnd, False.elim, False.elim⟩
  obtain ⟨same, absent⟩ := out.parked.finish_stirs queue surveyEnd run
  refine ⟨same, (course_parked s p out.parked).finish_out ?_ start rfl out.duty run, absent⟩
  rintro _ rfl
  exact out.parked.ne.2.1

end

/-! ### Taken out of service -/

section
variable (p : Pump) (s : State)

theorem leaveDuty_notMem : p ∉ (leaveDuty p s).houses[houseOf p].dutyList := by
  rw [leaveDuty, updHouse_get, if_pos rfl]
  simp

theorem takeOut_houses (st : PumpState) : (takeOut p st s).houses = (leaveDuty p s).houses := by
  simp [takeOut, leaveDuty_houses, leaveStartQueue]

theorem takeOut_notMem (st : PumpState) : p ∉ (takeOut p st s).houses[houseOf p].dutyList := by
  rw [takeOut_houses]
  exact leaveDuty_notMem p s

theorem enterIsolated_notMem : p ∉ (enterIsolated p s).houses[houseOf p].dutyList :=
  takeOut_notMem p s .isolated

theorem actIsolate_notMem {p : Pump} {s t : State} (houses : t.houses = (leaveDuty p s).houses) :
    p ∉ (actIsolate p t).houses[houseOf p].dutyList := fun mem => by
  have left := (Retires.duty (actIsolate_retires p t) (houseOf p)).subset mem
  rw [houses] at left
  exact leaveDuty_notMem p s left

theorem enterFaulted_notMem (c : FaultCause) : p ∉ (enterFaulted p c s).houses[houseOf p].dutyList :=
  actIsolate_notMem (takeOut_houses p s .faulted)

theorem enterLocal_notMem : p ∉ (enterLocal p s).houses[houseOf p].dutyList :=
  actIsolate_notMem (takeOut_houses p s .localControl)

end

section
variable {p : Pump} {s t : State}

theorem isolateActed_parked {r : PumpLive} (h : Parked r) : Parked (isolateActed r) := by
  unfold isolateActed
  split
  · exact .inr (.inr (.inr (.inr rfl)))
  · exact h

theorem faultedRecord_parked (c : FaultCause) (r : PumpLive) : Parked (faultedRecord c r) :=
  isolateActed_parked (.inr (.inr (.inr (.inl rfl))))

theorem localRecord_parked (r : PumpLive) : Parked (localRecord r) := isolateActed_parked (.inr (.inr (.inl rfl)))

theorem Turned.parked {r : PumpLive} (turned : Turned p r s t) (h : Parked r) : t.pumps[p] = r := by
  rw [turned.self, rebooked_idle h.ne.2.2.2.2.1 h.ne.2.2.2.2.2.1]

theorem faultFromReport_turned (p : Pump) (c : FaultCause) (s : State) :
    Turned p (faultedRecord c s.pumps[p]) s (faultFromReport p c s) := Turned.of_changed (enterFaulted_pumps p c s)

theorem localFromReport_turned (p : Pump) (s : State) :
    Turned p (localRecord s.pumps[p]) s (localFromReport p s) := Turned.of_changed (enterLocal_pumps p s)

theorem faultFromReport_record (p : Pump) (c : FaultCause) (s : State) :
    (faultFromReport p c s).pumps[p] = faultedRecord c s.pumps[p] :=
  (faultFromReport_turned p c s).parked (faultedRecord_parked _ _)

theorem localFromReport_record (p : Pump) (s : State) : (localFromReport p s).pumps[p] = localRecord s.pumps[p] :=
  (localFromReport_turned p s).parked (localRecord_parked _)

theorem faultFromReport_out (p : Pump) (c : FaultCause) (s : State) : OutOfService p (faultFromReport p c s) :=
  ⟨by rw [faultFromReport_record]; exact faultedRecord_parked _ _,
    by rw [faultFromReport, pumpChanged_houses]; exact enterFaulted_notMem p s c⟩

theorem localFromReport_out (p : Pump) (s : State) : OutOfService p (localFromReport p s) :=
  ⟨by rw [localFromReport_record]; exact localRecord_parked _,
    by rw [localFromReport, pumpChanged_houses]; exact enterLocal_notMem p s⟩

theorem OutOfService.of_same (h : OutOfService p s) (pumps : t.pumps = s.pumps) (houses : t.houses = s.houses) :
    OutOfService p t := ⟨by rw [pumps]; exact h.parked, by rw [houses]; exact h.duty⟩

/-- The events of a pump that enters FAULTED (R52). -/
theorem enterFaulted_events (p : Pump) (c : FaultCause) (s : State) : (enterFaulted p c s).eventQueue =
    (raisePump .pumpFault p (faultCode c) (faultAlarm c) s).eventQueue := by
  have isolated (t : State) : (actIsolate p t).eventQueue = t.eventQueue := by
    unfold actIsolate
    split
    · simp [enterIsolated, takeOut, leaveDuty, leaveStartQueue]
    · rfl
  unfold enterFaulted
  rw [isolated]
  simp [takeOut, leaveDuty, leaveStartQueue, raisePump, raise, eventNow, now, networkMinute]

theorem faultFromReport_events (p : Pump) (c : FaultCause) (s : State) : (faultFromReport p c s).eventQueue =
    (raisePump .pumpFault p (faultCode c) (faultAlarm c) s).eventQueue := by
  rw [faultFromReport, pumpChanged_eventQueue, enterFaulted_events]

theorem localFromReport_events (p : Pump) (s : State) : (localFromReport p s).eventQueue = s.eventQueue := by
  rw [localFromReport, pumpChanged_eventQueue, enterLocal]
  unfold actIsolate
  split <;> simp [enterIsolated, takeOut, leaveDuty, leaveStartQueue]

end

end Sys2Proof.Machine
end

section
/-! SUPPORT. The expiry of an alarm entry's filter (R130, R131, R134, R136), and what a TRIP makes of the pump it names
(R52, R132); O59. -/

namespace Sys2Proof.Machine

/-! ### Houses dropped from the Start Queue -/

section
variable {adopting loose : Prop} {s t : State}

theorem dropHouseQueue_stirs (h : House) (s : State) : Stirs adopting loose s (dropHouseQueue h s) :=
  foldl_stirs _ _ _ fun u p _ _ => unqueue_stirs p u

theorem listChanged_stirs (h : House) (was : Bool) (s : State) : Stirs adopting loose s (listChanged h was s) := by
  unfold listChanged
  split
  · exact Stirs.quiet (dropHouseQueue_stirs h s) (quiet_notice h _)
  · exact (quiet_notice h s).stirs

theorem Carries.unqueue (a : Carries s t) (p : Pump) : Carries s (Machine.unqueue p t) := by
  unfold Machine.unqueue
  split
  · exact (((a.unqueued p).upd p _).stopActed p).changed p
  · exact a

theorem Carries.dropHouse (a : Carries s t) (h : House) : Carries s (dropHouseQueue h t) := by
  unfold dropHouseQueue
  generalize pumpsOf h = ps
  induction ps generalizing t with
  | nil => exact a
  | cons p ps ih => exact ih (a.unqueue p)

theorem Carries.listMoved (a : Carries s t) (h : House) (was : Bool) : Carries s (listChanged h was t) := by
  unfold listChanged
  split
  · exact (a.dropHouse h).told h
  · exact a.told h

theorem Carries.faultReported (a : Carries s t) (p : Pump) (c : FaultCause) : Carries s (faultFromReport p c t) :=
  (a.faulted p c).changed p

theorem Carries.localReported (a : Carries s t) (p : Pump) : Carries s (localFromReport p t) := (a.localTaken p).changed p

theorem Carries.tripped (a : Carries s t) (p : Pump) (c : Code) : Carries s (tripActivated p c t) := by
  have pend := a.upd p fun r => { r with faultPending := some (.tripAlarm c) }
  unfold tripActivated
  dsimp only
  split
  case h_5 =>
    split
    · exact pend.upd p _
    · exact (a.withdrawnStart p).faultReported p _
  case h_6 => exact pend.stopIssued _ p
  case h_7 => exact pend.stopIssued _ p
  case h_8 => exact pend
  case h_9 => exact pend.upd p _
  case h_10 => exact a
  case h_11 => exact a
  case h_12 => exact a
  all_goals exact a.faultReported p _

end

/-! ### The protection record -/

/-- A house's protection record replaced, and nothing else of the standing part. -/
def Protected (h : House) (x : Protection) (s t : State) : Prop :=
  standing t = { standing s with protection := s.protection.set h x }

section
variable {h : House} {x : Protection} {s t u : State}

theorem Protected.carries (a : Protected h x s t) (b : Carries t u) : Protected h x s u := b.standing.trans a

theorem Protected.record (a : Protected h x s t) : t.protection[h] = x := by
  have protection : t.protection = s.protection.set h x := congrArg Standing.protection a
  rw [protection]
  simp

theorem Protected.plan (a : Protected h x s t) : planOf t = planOf s := planOf_of_banks (congrArg Standing.banks a)

theorem Protected.now (a : Protected h x s t) : now t = now s := congrArg (fun z : Standing => z.time.uptime) a

theorem Protected.updProtection (a : Protected h x s t) (f : Protection → Protection) :
    Protected h (f x) s (updProtection h f t) := by
  have written : standing (Machine.updProtection h f t) =
      { standing t with protection := t.protection.set h (f t.protection[h]) } := rfl
  have protection : t.protection = s.protection.set h x := congrArg Standing.protection a
  rw [Protected, written, a.record, protection, a, Vector.set_set]

theorem Protected.event (a : Protected h x s t) (k : EventKind) (g : Option House) (p : Option Pump) (c : Option Tank)
    (v w : Nat) : Protected h x s (raise k g p c v w t) := a

theorem Protected.refl (h : House) (s : State) : Protected h s.protection[h] s s := by
  rw [Protected]
  have same : s.protection.set h s.protection[h] = s.protection := by simp
  rw [same]
  rfl

end

/-- The list with an entry ACTIVE (R130). -/
def activated (c : Code) (r : Protection) : Protection :=
  { r with alarms := r.alarms.map fun d => if d.code == c then { d with activeAt := none } else d }

/-- The fault record after an activation (R131, R134). -/
def recordedBy (action : AlarmAction) (uptime : Nat) (e : AlarmEntry) (r : Protection) : Protection :=
  if isRecorded action then recordFault uptime e r else r

/-- The record of a house whose recovery begins (R136). -/
def recovering (recovery uptime : Nat) (c : Code) (r : Protection) : Protection :=
  { r with
    state := .recovery, attempts := satSucc 255 r.attempts, forgiveAt := none, causeCode := some c
    recoveryUntil := some (uptime + recovery) }

/-- The record of a house after a LOCKOUT (R136). -/
def lockedBy (action : AlarmAction) (recovery uptime : Nat) (c : Code) (r : Protection) : Protection :=
  if action == .lockout && (r.state == .clear && !r.suppression) then recovering recovery uptime c r else r

theorem recordedBy_state (action : AlarmAction) (uptime : Nat) (e : AlarmEntry) (r : Protection) :
    (recordedBy action uptime e r).state = r.state ∧ (recordedBy action uptime e r).suppression = r.suppression ∧
      (recordedBy action uptime e r).attempts = r.attempts := by
  unfold recordedBy
  split
  · unfold recordFault
    split
    · exact ⟨rfl, rfl, rfl⟩
    · split <;> exact ⟨rfl, rfl, rfl⟩
  · exact ⟨rfl, rfl, rfl⟩

section
variable {h : House} {x : Protection} {s t : State} {e : AlarmEntry}

/-- An activation up to its effect on a pump (R131, R134). -/
def alarmRecorded (h : House) (e : AlarmEntry) (s : State) : State :=
  let action := actionOf s e.code
  let raised := raise .alarmActive (some h) e.pump none e.code.val (alarmActionCode s.protection[h].suppression action) s
  if isRecorded action then updProtection h (recordFault (now s) e) raised else raised

theorem activate_eq (h : House) (s : State) (e : AlarmEntry) :
    activate h s e = tripEffect (alarmRecorded h e s) e := rfl

theorem alarmRecorded_aside (h : House) (e : AlarmEntry) (s : State) : Aside s (alarmRecorded h e s) := by
  unfold alarmRecorded
  dsimp only
  split
  · exact ((Aside.refl s).raise ..).updProtection h _
  · exact (Aside.refl s).raise ..

theorem alarmRecorded_events (h : House) (e : AlarmEntry) (s : State) : (alarmRecorded h e s).eventQueue =
    (raise .alarmActive (some h) e.pump none e.code.val
      (alarmActionCode s.protection[h].suppression (actionOf s e.code)) s).eventQueue := by
  unfold alarmRecorded
  dsimp only
  split <;> rfl

theorem Protected.recorded (a : Protected h x s t) (e : AlarmEntry) :
    Protected h (recordedBy (actionOf s e.code) (Machine.now s) e x) s (alarmRecorded h e t) := by
  have action : actionOf t e.code = actionOf s e.code := by rw [actionOf, actionOf, a.plan]
  unfold alarmRecorded recordedBy
  dsimp only
  rw [action, a.now]
  split
  · exact (a.event ..).updProtection _
  · exact a.event ..

theorem tripEffect_carries (t : State) (e : AlarmEntry) : Carries t (tripEffect t e) := by
  unfold tripEffect
  split
  case h_1 => exact (Carries.refl t).tripped _ _
  all_goals exact Carries.refl t

theorem Protected.lockout (a : Protected h x s t) (e : AlarmEntry) (action : AlarmAction)
    (is : actionOf s e.code = action) : Protected h
      (lockedBy action (planOf s).houses[h].recoveryTime (Machine.now s) e.code x) s
      ((lockouts s [e]).foldl (lockoutActivated h) t) := by
  have list : lockouts s [e] = if action == .lockout then [e] else [] := by
    rw [lockouts, List.filter_cons, is]
    rfl
  rw [list]
  unfold lockedBy
  cases locks : action == .lockout with
  | false => exact a
  | true =>
    rw [if_pos rfl, List.foldl_cons, List.foldl_nil, Bool.true_and]
    unfold lockoutActivated
    rw [a.record]
    split
    · unfold enterRecovery beginPeriod
      dsimp only
      have begun := a.updProtection fun r =>
        { r with state := .recovery, attempts := satSucc 255 t.protection[h].attempts, forgiveAt := none
                 causeCode := some e.code
                 recoveryUntil := some (Machine.now t + (planOf t).houses[h].recoveryTime) }
      rw [a.record, a.now, a.plan] at begun
      have entered := begun.carries
        ((((Carries.refl _).event .recoveryStart (some h) none none (satSucc 255 x.attempts) e.code.val).dropHouse h).told h)
      rw [a.record, a.now, a.plan]
      exact entered
    · exact a

end

/-! ### The filter of an entry runs out -/

section
variable {h : House} {c : Code} {s : State} {e : AlarmEntry}

/-- The state up to the effect on a pump. -/
def expiredRecord (h : House) (e : AlarmEntry) (s : State) : State :=
  alarmRecorded h e (updProtection h (activated e.code) s)

theorem filterExpired_eq (h : House) (e : AlarmEntry) (s : State) : filterExpired h e s =
    listChanged h (inhibited s h)
      ((lockouts (updProtection h (activated e.code) s) [e]).foldl (lockoutActivated h)
        (tripEffect (expiredRecord h e s) e)) := rfl

theorem expiredRecord_aside (h : House) (e : AlarmEntry) (s : State) : Aside s (expiredRecord h e s) :=
  ((Aside.refl s).updProtection h _).trans (alarmRecorded_aside h e _)

theorem expiredRecord_events (h : House) (e : AlarmEntry) (s : State) : (expiredRecord h e s).eventQueue =
    (raise .alarmActive (some h) e.pump none e.code.val
      (alarmActionCode s.protection[h].suppression (actionOf s e.code)) s).eventQueue := by
  have suppression : (updProtection h (activated e.code) s).protection[h].suppression = s.protection[h].suppression := by
    have record := ((Protected.refl h s).updProtection (activated e.code)).record
    rw [record]
    rfl
  rw [expiredRecord, alarmRecorded_events, suppression]
  rfl

/-- The protection record that an expired filter leaves. -/
def expiredProtection (h : House) (e : AlarmEntry) (s : State) : Protection :=
  lockedBy (actionOf s e.code) (planOf s).houses[h].recoveryTime (now s) e.code
    (recordedBy (actionOf s e.code) (now s) e (activated e.code s.protection[h]))

theorem filterExpired_protected (h : House) (e : AlarmEntry) (s : State) :
    Protected h (expiredProtection h e s) s (filterExpired h e s) := by
  have marked : Protected h (activated e.code s.protection[h]) s (updProtection h (activated e.code) s) :=
    (Protected.refl h s).updProtection _
  have acted := (marked.recorded e).carries (tripEffect_carries (expiredRecord h e s) e)
  have locked := acted.lockout e _ rfl
  rw [filterExpired_eq]
  exact locked.carries ((Carries.refl _).listMoved h _)

theorem filterExpired_records (h : House) (e : AlarmEntry) (s : State) :
    (expiredRecord h e s).eventQueue.records <+: (filterExpired h e s).eventQueue.records := by
  rw [filterExpired_eq]
  refine (tripEffect_carries (expiredRecord h e s) e).records.trans (List.IsPrefix.trans ?_ ((Carries.refl _).listMoved h _).records)
  generalize tripEffect (expiredRecord h e s) e = t
  rw [lockouts, List.filter_cons]
  split
  · rw [List.filter_nil, List.foldl_cons, List.foldl_nil]
    unfold lockoutActivated
    split
    · exact (beginPeriod_aside t h e.code).records.trans (((Carries.refl _).dropHouse h).told h).records
    · exact List.prefix_refl _
  · exact List.prefix_refl _

end

end Sys2Proof.Machine
end

section
/-! SUPPORT. A TRIP alarm by the state of the pump it names (R52, R53, R132), up to the end of the event; O59. -/

namespace Sys2Proof.Machine

section
variable {p : Pump} {s t u : State} {cause : FaultCause}

/-! ### Faulted at once -/

/-- What is left at the end of an event in which a pump has entered FAULTED with a cause, from a record. -/
structure Faults (p : Pump) (cause : FaultCause) (s : State) (t : State) : Prop where
  free : s.pumps[p].isolatePending = false →
    t.pumps[p] = outRecord .faulted (some cause) { s.pumps[p] with faultPending := none }
  isolated : s.pumps[p].isolatePending = true → t.pumps[p].state = .isolated
  duty : p ∉ t.houses[houseOf p].dutyList
  absent : ∀ e ∈ t.feeder.queue, e.pump ≠ p
  records : withEvent .pumpFault (some (houseOf p)) (some p) none (faultCode cause) (faultAlarm cause) s <+:
    t.eventQueue.records

theorem faults_finish (queue : QueueHoldsTheQueued s) (surveyEnd : s.work.surveyEnd = false)
    (run : Stirs False False (faultFromReport p cause s) u) : Faults p cause s (finish u) := by
  have carries : Carries s (faultFromReport p cause s) := (Carries.refl s).faultReported p cause
  obtain ⟨same, duty, absent⟩ := (faultFromReport_out p cause s).finish_stirs (queue.faultFromReport p cause)
    (carries.surveyEnd.trans surveyEnd) run
  rw [faultFromReport_record] at same
  refine ⟨fun clear => ?_, fun pending => ?_, duty, absent, ?_⟩
  · rw [same]
    exact isolateActed_of_clear clear
  · have acted : faultedRecord cause s.pumps[p] =
        isolatedRecord { outRecord .faulted (some cause) s.pumps[p] with faultPending := none } :=
      isolateActed_of_pending pending
    rw [same, acted]
    rfl
  · have raised := congrArg EventQueue.records (faultFromReport_events p cause s)
    rw [raisePump_records] at raised
    rw [← raised]
    exact run.follows.records.trans (finish_records u)

/-! ### Flags left on the pump -/

/-- The record of a pump on which a TRIP waits (R53). -/
def tripPending (cause : FaultCause) (r : PumpLive) : PumpLive :=
  { r with faultPending := some cause, protectPending := true }

/-- An UNCONFIRMED pump, or one whose start order is in flight, keeps a record with a PROTECT stop that waits. -/
theorem course_pending (x : State) (p : Pump) {r : PumpLive} (protect : r.protectPending = true)
    (state : r.state = .unconfirmed ∨ r.state = .ordered) :
    Course x p False (r.state = .ordered) (· = r) := by
  have never {st : PumpState} {P : Prop} (e : r.state = st) (u : st ≠ .unconfirmed) (o : st ≠ .ordered) : P := by
    subst e
    exact (state.elim u o).elim
  constructor
  · rintro _ b rfl (e | e) <;> exact never e PumpState.noConfusion PumpState.noConfusion
  · rintro _ c rfl (e | e) <;> exact never e PumpState.noConfusion PumpState.noConfusion
  · rintro _ rfl ordered _ grounded
    exact absurd ordered grounded
  · intro y same _
    rw [same, ← protect]
  · rintro _ rfl e
    exact never e PumpState.noConfusion PumpState.noConfusion
  · rintro _ rfl e _
    exact never e PumpState.noConfusion PumpState.noConfusion
  · rintro _ rfl e
    exact never e PumpState.noConfusion PumpState.noConfusion
  · rintro _ _ _ _ rfl e _
    exact never e PumpState.noConfusion PumpState.noConfusion

theorem pending_finish (queue : QueueHoldsTheQueued s) (surveyEnd : s.work.surveyEnd = false)
    (state : s.pumps[p].state = .unconfirmed ∨ s.pumps[p].state = .ordered ∧ orderInFlight s p = true)
    (run : Stirs False False
      (updPump p (fun r => { r with protectPending := true }) (updPump p (fun r => { r with faultPending := some cause }) s)) u) :
    (finish u).pumps[p] = tripPending cause s.pumps[p] := by
  generalize e : updPump p (fun r => { r with protectPending := true })
    (updPump p (fun r => { r with faultPending := some cause }) s) = t at run
  have record : t.pumps[p] = tripPending cause s.pumps[p] := by
    rw [← e, updPump_self, updPump_self]
    rfl
  have flight (o : t.pumps[p].state = .ordered) : orderInFlight t p = true := by
    have same : t.bus = s.bus := by rw [← e]; rfl
    rw [orderInFlight, same]
    rw [record] at o
    rcases state with n | ⟨-, f⟩
    · rw [tripPending, n] at o
      cases o
    · exact f
  have start : Starts p False (t.pumps[p].state = .ordered) t := by
    refine ⟨?_, by rw [← e]; exact surveyEnd, flight, False.elim⟩
    rw [← e]
    exact (queue.touch p _ (fun _ => by rfl)).touch p _ (fun _ => by rfl)
  have course := course_pending t p (r := t.pumps[p]) (by rw [record]; rfl)
    (by rw [record]; exact state.imp_right And.left)
  exact (course.finish_stirs start rfl run).trans record

/-! ### A stop begun -/

/-- A pump in STOPPING with a PROTECT cause keeps its record but for its booking. -/
theorem course_protectStop (x : State) (p : Pump) {r : PumpLive} (stopping : r.state = .stopping)
    (cause : r.stopCause = some .protect) : Course x p False False fun y => unbooked y = unbooked r := by
  have never {y : PumpLive} {st : PumpState} {P : Prop} (h : unbooked y = unbooked r) (e : y.state = st)
      (n : st ≠ .stopping) : P := by
    rw [unbooked_state h, stopping] at e
    exact absurd e.symm n
  constructor
  · exact fun b h _ => h
  · rintro y c h (e | e) <;> exact never h e PumpState.noConfusion
  · exact fun h e _ _ => never h e PumpState.noConfusion
  · rintro y h (e | e) <;> exact never h e PumpState.noConfusion
  · intro y h _
    have := congrArg (fun z : PumpLive => { z with stopCause := some .protect }) h
    refine Eq.trans this ?_
    rw [← cause]
    rfl
  · exact fun h e _ => never h e PumpState.noConfusion
  · exact fun h e => never h e PumpState.noConfusion
  · exact fun _ _ _ h e _ => never h e PumpState.noConfusion

theorem course_stopping (x : State) (p : Pump) (cause : Option FaultCause) :
    Course x p False False fun y => y.state = .stopping ∧ y.faultPending = cause := by
  have never {y : PumpLive} {st : PumpState} {P : Prop} (h : y.state = .stopping) (e : y.state = st)
      (n : st ≠ .stopping) : P := absurd (e.symm.trans h) n
  constructor
  · exact fun b h _ => h
  · rintro y c h (e | e) <;> exact never h.1 e PumpState.noConfusion
  · exact fun h e _ _ => never h.1 e PumpState.noConfusion
  · rintro y h (e | e) <;> exact never h.1 e PumpState.noConfusion
  · exact fun h _ => h
  · exact fun h e _ => never h.1 e PumpState.noConfusion
  · exact fun h e => never h.1 e PumpState.noConfusion
  · exact fun _ _ _ h e _ => never h.1 e PumpState.noConfusion

theorem stopRecord_protect (r : PumpLive) : stopRecord .protect r =
    { r with
      permit := none, permitRelease := none, state := .stopping, windowEnd := none, stopCause := some .protect } := by
  have flag : (r.isolatePending || StopCause.protect == .isolate) = r.isolatePending := Bool.or_false _
  rw [stopRecord, flag]

theorem unbooked_rebooked (h : House) (q : Pump) (r : PumpLive) : unbooked (rebooked s h q r) = unbooked r := by
  unfold rebooked
  split <;> rfl

theorem beginStop_unbooked (c : StopCause) (p : Pump) (s : State) :
    unbooked (beginStop c p s).pumps[p] = unbooked (stopRecord c s.pumps[p]) := by
  rw [(beginStop_turned c p s).self, unbooked_rebooked]

theorem beginStop_events (c : StopCause) (p : Pump) (s : State) : (beginStop c p s).eventQueue =
    (raisePump .stopIssued p (stopCauseCode c) 0 s).eventQueue := by
  simp [beginStop, raisePump, raise, eventNow, now, networkMinute, joinOrder]

theorem issueStop_moving (c : StopCause) (moving : s.pumps[p].state = .running ∨ s.pumps[p].state = .starting) :
    issueStop c p s = beginStop c p s := by
  unfold issueStop
  rcases moving with e | e <;> rw [e]

theorem tripStop_finish (queue : QueueHoldsTheQueued s) (surveyEnd : s.work.surveyEnd = false)
    (moving : s.pumps[p].state = .running ∨ s.pumps[p].state = .starting)
    (run : Stirs False False (issueStop .protect p (updPump p (fun r => { r with faultPending := some cause }) s)) u) :
    unbooked (finish u).pumps[p] = unbooked (stopRecord .protect { s.pumps[p] with faultPending := some cause }) ∧
      BeginsWith (withEvent .stopIssued (some (houseOf p)) (some p) none 5 0 s) (finish u) := by
  generalize e : updPump p (fun r => { r with faultPending := some cause }) s = t at run
  have pend : t.pumps[p] = { s.pumps[p] with faultPending := some cause } := by rw [← e, updPump_self]
  rw [issueStop_moving .protect (by rw [pend]; exact moving)] at run
  have stopped := beginStop_unbooked .protect p t
  rw [pend] at stopped
  have queued : QueueHoldsTheQueued t := by
    rw [← e]
    exact queue.touch p _ fun _ => by rfl
  have ready : t.pumps[p].state ≠ .queued := by
    rw [pend]
    rcases moving with m | m <;> rw [m] <;> exact PumpState.noConfusion
  have carries : Carries s (beginStop .protect p t) := by
    rw [← e]
    exact ((Carries.refl s).upd p _).stopBegun .protect p
  have start : Starts p False False (beginStop .protect p t) :=
    ⟨(beginStop_handles .protect p t).keeps ready queued, carries.surveyEnd.trans surveyEnd, False.elim, False.elim⟩
  have course := course_protectStop (beginStop .protect p t) p (r := stopRecord .protect { s.pumps[p] with faultPending := some cause })
    rfl rfl
  refine ⟨course.finish_stirs start stopped run, ?_⟩
  have raised := congrArg EventQueue.records (beginStop_events .protect p t)
  rw [raisePump_records, withEvent_congr (s := s) (by rw [← e]; rfl) (by rw [← e]; rfl)] at raised
  have code : stopCauseCode .protect = 5 := rfl
  rw [code] at raised
  rw [BeginsWith, ← raised]
  exact run.follows.records.trans (finish_records u)

/-! ### By the pump's state -/

/-- The pump's events and record at the end of an event in which a TRIP has acted on it (R52). -/
structure TripLeaves (p : Pump) (cause : FaultCause) (s t : State) : Prop where
  stopped : s.pumps[p].state = .ready ∨ s.pumps[p].state = .rest ∨ s.pumps[p].state = .queued ∨
    s.pumps[p].state = .localControl → Faults p cause s t
  waiting : s.pumps[p].state = .ordered → orderInFlight s p = false → Faults p cause (withdrawStart p s) t
  pending : s.pumps[p].state = .unconfirmed ∨ s.pumps[p].state = .ordered ∧ orderInFlight s p = true →
    t.pumps[p] = tripPending cause s.pumps[p]
  moving : s.pumps[p].state = .running ∨ s.pumps[p].state = .starting →
    unbooked t.pumps[p] = unbooked (stopRecord .protect { s.pumps[p] with faultPending := some cause }) ∧
      BeginsWith (withEvent .stopIssued (some (houseOf p)) (some p) none 5 0 s) t
  stopping : s.pumps[p].state = .stopping → t.pumps[p].state = .stopping ∧ t.pumps[p].faultPending = some cause
  out : s.pumps[p].state = .faulted ∨ s.pumps[p].state = .isolated ∨ s.pumps[p].state = .unused →
    t.pumps[p] = s.pumps[p]

theorem tripLeaves {c : Code} (queue : QueueHoldsTheQueued s) (surveyEnd : s.work.surveyEnd = false)
    (run : Stirs False False (tripActivated p c s) u) : TripLeaves p (.tripAlarm c) s (finish u) := by
  unfold tripActivated at run
  dsimp only at run
  refine ⟨fun h => faults_finish queue surveyEnd ?_, fun ordered grounded => ?_, fun h => ?_, fun h => ?_, fun h => ?_,
    fun h => ?_⟩
  · rcases h with e | e | e | e <;> rw [e] at run <;> exact run
  · rw [ordered] at run
    dsimp only at run
    rw [grounded] at run
    refine faults_finish ?_ (((Carries.refl s).withdrawnStart p).surveyEnd.trans surveyEnd) run
    exact (withdrawStart_handles p s).keeps (by rw [ordered]; exact PumpState.noConfusion) queue
  · refine pending_finish queue surveyEnd h ?_
    rcases h with e | ⟨e, flies⟩ <;> rw [e] at run
    · exact run
    · dsimp only at run
      rw [flies] at run
      exact run
  · refine tripStop_finish queue surveyEnd h ?_
    rcases h with e | e <;> rw [e] at run <;> exact run
  · rw [h] at run
    have record : (updPump p (fun r => { r with faultPending := some (.tripAlarm c) }) s).pumps[p] =
      { s.pumps[p] with faultPending := some (.tripAlarm c) } := updPump_self p _ s
    have start : Starts p False False (updPump p (fun r => { r with faultPending := some (.tripAlarm c) }) s) :=
      ⟨queue.touch p _ fun _ => by rfl, surveyEnd, False.elim, False.elim⟩
    exact (course_stopping _ p _).finish_stirs start (by rw [record]; exact ⟨h, rfl⟩) run
  · have parked : Parked s.pumps[p] := by
      rcases h with e | e | e
      · exact .inr (.inr (.inr (.inl e)))
      · exact .inr (.inr (.inr (.inr e)))
      · exact .inl e
    refine (parked.finish_stirs queue surveyEnd ?_).1
    rcases h with e | e | e <;> rw [e] at run <;> exact run

end

/-! ### The statement -/

section
variable {h : House} {c : Code} {s : State} {e : AlarmEntry}

theorem expiredTrip {p : Pump} (queue : QueueHoldsTheQueued s) (surveyEnd : s.work.surveyEnd = false)
    (trip : actionOf s e.code = .trip) (named : e.pump = some p) :
    TripLeaves p (.tripAlarm e.code) (expiredRecord h e s) (finish (filterExpired h e s)) := by
  have aside := expiredRecord_aside h e s
  have marked : Protected h (activated e.code s.protection[h]) s (updProtection h (activated e.code) s) :=
    (Protected.refl h s).updProtection _
  have recorded := marked.recorded e
  have acts : actionOf (expiredRecord h e s) e.code = .trip := by
    rw [actionOf, expiredRecord, recorded.plan]
    exact trip
  have locks : lockouts (updProtection h (activated e.code) s) [e] = [] := by
    have : actionOf (updProtection h (activated e.code) s) e.code = .trip := trip
    rw [lockouts, List.filter_cons, this]
    rfl
  have effect : tripEffect (expiredRecord h e s) e = tripActivated p e.code (expiredRecord h e s) := by
    unfold tripEffect
    rw [acts, named]
  refine tripLeaves (aside.queued queue) (aside.surveyEnd.trans surveyEnd) ?_
  rw [filterExpired_eq, locks, effect]
  exact listChanged_stirs h _ _

theorem live_early {s : State} (running : s.inReset = false) (settled : Settled s) (due : State → Bool)
    (effect : State → State) (early : due s = false) : live (fun s => whenDue (due s) effect s) s = .next s := by
  rw [live_running running, whenDue, early, if_neg Bool.noConfusion, finish_of_settled settled]

theorem activated_eq (c : Code) (r : Protection) : activated c r =
    { r with alarms := r.alarms.map fun d => if d.code = c then { d with activeAt := none } else d } := by
  simp [activated]

theorem recordedBy_eq (action : AlarmAction) (uptime : Nat) (e : AlarmEntry) (r : Protection) :
    recordedBy action uptime e r =
      if action = .none ∨ action = .note then r
      else if (r.faults.any fun f => f.code == e.code) = true then
        { r with
          faults := r.faults.map fun f => if f.code = e.code then { f with count := min 255 (f.count + 1) } else f }
      else if r.faults.length < 8 then
        { r with faults := r.faults ++ [{ code := e.code, pump := e.pump, firstTime := uptime, count := 1 }] }
      else { r with more := true } := by
  cases action <;> simp [recordedBy, isRecorded, recordFault, satSucc]

theorem alarm_shown (suppressed : Bool) (action : AlarmAction) : alarmActionCode suppressed action =
    match action with
    | .none => 0
    | .note => 1
    | .inhibit => 2
    | .trip => 3
    | .lockout => if suppressed then 5 else 4 := by
  cases action <;> rfl

end

/-- Settles O59: the pump's part is what a TRIP does from the state in which the activation has been recorded. -/
theorem alarmsActivate : Obligations.AlarmsActivate := by
  unfold Obligations.AlarmsActivate
  rintro s h c e u ⟨settled, running⟩ found pending
  obtain ⟨blank, -⟩ := id settled
  have surveyEnd : s.work.surveyEnd = false := by rw [blank]; rfl
  have code : e.code = c := by simpa using List.find?_some found
  subst code
  have alarm : alarmOf s h e.code = some e := found
  intro r uptime action active recorded acted shown told
  refine ⟨fun early => ?_, fun due => ?_⟩
  · refine (exec_alarmFilterExpiry h e.code s).trans
      (live_early running settled (fun s => alarmIsDue s h e.code) (alarmExpires h e.code) ?_)
    rw [alarmIsDue, alarm, Option.bind_some, pending]
    exact decide_eq_false (Nat.not_le.mpr early)
  · have isDue : alarmIsDue s h e.code = true := by
      rw [alarmIsDue, alarm, Option.bind_some, pending]
      exact reached_some due
    have effect : alarmExpires h e.code s = filterExpired h e s := by
      unfold alarmExpires
      rw [alarm]
    have leads := (exec_alarmFilterExpiry h e.code s).trans
      (live_whenDue running (fun s => alarmIsDue s h e.code) (alarmExpires h e.code) isDue)
    rw [effect] at leads
    have events : (expiredRecord h e s).eventQueue = told.eventQueue := by
      rw [expiredRecord_events, alarm_shown]
      rfl
    have aside := expiredRecord_aside h e s
    refine ⟨_, leads, ?_, ?_, fun p trip named queue => ?_⟩
    · have left : expiredProtection h e s = acted := by
        have stands := recordedBy_state (actionOf s e.code) (now s) e (activated e.code s.protection[h])
        have same : recordedBy (actionOf s e.code) (now s) e (activated e.code s.protection[h]) = recorded := by
          rw [activated_eq, recordedBy_eq]
          rfl
        rw [same] at stands
        obtain ⟨state, suppression, attempts⟩ := stands
        rw [expiredProtection, same, lockedBy, state, suppression, recovering, attempts]
        refine if_congr ?_ rfl rfl
        simp only [Bool.and_eq_true, beq_iff_eq, Bool.not_eq_true']
        rfl
      rw [finish_standing, filterExpired_protected, left]
    · rw [BeginsWith, ← events]
      exact (filterExpired_records h e s).trans (finish_records _)
    · have leaves := expiredTrip (h := h) queue surveyEnd trip named
      have records (k : EventKind) (v w : Nat) :
          withEvent k (some (houseOf p)) (some p) none v w (expiredRecord h e s) =
            withEvent k (some (houseOf p)) (some p) none v w told := withEvent_congr (s := told) aside.time events k _ _ _ v w
      have flight : orderInFlight (expiredRecord h e s) p = orderInFlight s p := by
        rw [orderInFlight, orderInFlight, aside.flight]
      obtain ⟨stopped, waiting, pends, moving, stopping, out⟩ := leaves
      rw [aside.pumps] at stopped waiting pends moving stopping out
      rw [flight] at waiting pends
      intro x cause faulted
      have faults {y : State} (same : y.pumps[p].isolatePending = x.isolatePending)
          (told' : withEvent .pumpFault (some (houseOf p)) (some p) none (faultCode cause) (faultAlarm cause) y =
            withEvent .pumpFault (some (houseOf p)) (some p) none (faultCode cause) e.code.val told)
          (f : Faults p cause y (finish (filterExpired h e s))) : faulted y.pumps[p] := by
        obtain ⟨free, isolated, duty, absent, raised⟩ := f
        rw [same] at free isolated
        rw [told'] at raised
        exact ⟨free, isolated, duty, absent, raised⟩
      refine ⟨fun st => ?_, fun ordered grounded => ?_, fun st => ?_, fun st => ?_, stopping, out⟩
      · have f := faults (by rw [aside.pumps]) (records .pumpFault _ _) (stopped st)
        rw [aside.pumps] at f
        exact f
      · have undone : (withdrawStart p (expiredRecord h e s)).pumps[p] = undoneRecord x := by
          rw [get_of_set (withdrawStart_pumps p _), if_pos rfl, aside.pumps]
        have quiet : (withdrawStart p (expiredRecord h e s)).eventQueue = (expiredRecord h e s).eventQueue := by
          simp [withdrawStart, undoAdmission]
        have f := faults (by rw [undone]; rfl)
          ((withEvent_congr ((Carries.refl _).withdrawnStart p).time quiet _ _ _ _ _ _).trans (records .pumpFault _ _))
          (waiting ordered grounded)
        rw [undone] at f
        exact f
      · exact pends st.symm
      · rw [records, stopRecord_protect] at moving
        exact moving st

end Sys2Proof.Machine
end

section
/-! SUPPORT. An urgent poll that has been asked for stays asked for until it is sent (R157, R159). -/

namespace Sys2Proof.Machine

section
variable {st : Station} {s t : State}

theorem UrgentlyPolled.of_bus (h : UrgentlyPolled st s) (bus : t.bus = s.bus) : UrgentlyPolled st t := by
  unfold UrgentlyPolled
  rw [bus]
  exact h

/-- The entries' units, classes and orders stand when they are renumbered (R157). -/
theorem mem_queueBeforeJoin {e : TxEntry} (h : e ∈ s.bus.queue) :
    ∃ d ∈ queueBeforeJoin s, d.unit = e.unit ∧ d.cls = e.cls ∧ d.order = e.order := by
  unfold queueBeforeJoin
  split
  · exact ⟨_, List.mem_map.mpr ⟨e, h, rfl⟩, rfl, rfl, rfl⟩
  · exact ⟨e, h, rfl, rfl, rfl⟩

theorem UrgentlyPolled.enqueue (h : UrgentlyPolled st s) (u : BusUnit) (c : TxClass) (o : Option Order) :
    UrgentlyPolled st (enqueue u c o s) := by
  rcases h with ⟨e, mem, unit, order, cls⟩ | flight
  · obtain ⟨d, dmem, dunit, dcls, dorder⟩ := mem_queueBeforeJoin mem
    exact .inl ⟨d, List.mem_append_left _ dmem, dunit.trans unit, dorder.trans order, dcls.trans cls⟩
  · exact .inr flight

theorem UrgentlyPolled.startTransaction (h : UrgentlyPolled st s) : UrgentlyPolled st (startTransaction s) := by
  unfold Machine.startTransaction
  split
  · next idle =>
    rcases h with ⟨e, mem, unit, order, cls⟩ | ⟨f, flight, -⟩
    · split
      · exact .inl ⟨e, mem, unit, order, cls⟩
      · next d _ =>
        by_cases same : e = d
        · refine .inr ⟨_, rfl, same ▸ unit, ?_⟩
          have request : requestOf s e = .poll := by
            unfold requestOf
            rw [order, unit]
          rw [← same]
          exact request
        · exact .inl ⟨e, List.mem_filter.mpr ⟨by rwa [stepTag_queue], by simpa using same⟩, unit, order, cls⟩
    · rw [flight] at idle
      simp at idle
  · exact h

theorem UrgentlyPolled.joinTransmit (h : UrgentlyPolled st s) (u : BusUnit) (c : TxClass) (o : Option Order) :
    UrgentlyPolled st (joinTransmit u c o s) := by
  unfold Machine.joinTransmit
  dsimp only
  split
  · exact h.enqueue u c o
  · exact (h.enqueue u c o).startTransaction

theorem UrgentlyPolled.requestUrgent (h : UrgentlyPolled st s) (u : BusUnit) : UrgentlyPolled st (requestUrgent u s) := by
  unfold Machine.requestUrgent
  split
  · rcases h with ⟨e, mem, unit, order, cls⟩ | flight
    · refine .inl ⟨_, List.mem_map.mpr ⟨e, mem, rfl⟩, ?_⟩
      split
      · exact ⟨unit, order, rfl⟩
      · exact ⟨unit, order, cls⟩
    · exact .inr flight
  · exact h.joinTransmit _ _ _

/-- A station that has been asked for an urgent poll (R159). -/
theorem urgentlyPolled_requestUrgent (st : Station) (s : State) : UrgentlyPolled st (requestUrgent (.station st) s) := by
  unfold requestUrgent
  split
  · next e found =>
    have poll : isPollOf (.station st) e = true := List.find?_some found
    refine .inl ⟨_, List.mem_map.mpr ⟨e, List.mem_of_find?_eq_some found, rfl⟩, ?_⟩
    rw [if_pos poll]
    simpa [isPollOf] using poll
  · have queued : UrgentlyPolled st (Machine.enqueue (.station st) .urgent none s) :=
      .inl ⟨_, List.mem_append_right _ (List.mem_singleton.mpr rfl), rfl, rfl, rfl⟩
    unfold joinTransmit
    dsimp only
    split
    · exact queued
    · exact queued.startTransaction

theorem UrgentlyPolled.withdrawOrder (h : UrgentlyPolled st s) (p : Pump) : UrgentlyPolled st (withdrawOrder p s) := by
  rcases h with ⟨e, mem, unit, order, cls⟩ | flight
  · exact .inl ⟨e, List.mem_filter.mpr ⟨mem, by rw [order]; rfl⟩, unit, order, cls⟩
  · exact .inr flight

theorem UrgentlyPolled.upd (h : UrgentlyPolled st s) (p : Pump) (f : PumpLive → PumpLive) :
    UrgentlyPolled st (updPump p f s) := h

theorem UrgentlyPolled.raised (h : UrgentlyPolled st s) (k : EventKind) (p : Pump) (v w : Nat) :
    UrgentlyPolled st (raisePump k p v w s) := h

theorem UrgentlyPolled.released (h : UrgentlyPolled st s) (p : Pump) : UrgentlyPolled st (releasePermit p s) :=
  h.of_bus (releasePermit_bus p s)

theorem UrgentlyPolled.changed (h : UrgentlyPolled st s) (p : Pump) : UrgentlyPolled st (pumpChanged p s) :=
  h.of_bus (pumpChanged_bus p s)

theorem UrgentlyPolled.retired (h : UrgentlyPolled st s) {p : Pump} (r : Retires p s t) : UrgentlyPolled st t := h.of_bus r.bus

theorem UrgentlyPolled.unqueued (h : UrgentlyPolled st s) (p : Pump) : UrgentlyPolled st (leaveStartQueue p s) := h

theorem UrgentlyPolled.told (h : UrgentlyPolled st s) (k : House) : UrgentlyPolled st (notice k s) := h

/-! ### The work of an event -/

theorem UrgentlyPolled.beginStop (h : UrgentlyPolled st s) (c : StopCause) (p : Pump) : UrgentlyPolled st (beginStop c p s) :=
  ((((h.released p).upd p _).joinTransmit _ _ _).changed p).raised _ p _ _

theorem UrgentlyPolled.withdrawStart (h : UrgentlyPolled st s) (p : Pump) : UrgentlyPolled st (withdrawStart p s) :=
  (h.withdrawOrder p).retired (undoAdmission_retires p _)

theorem UrgentlyPolled.protectOrdered (h : UrgentlyPolled st s) (p : Pump) : UrgentlyPolled st (protectOrdered p s) := by
  unfold Machine.protectOrdered
  split
  · exact h.upd p _
  · exact ((((h.withdrawStart p).upd p _).raised _ p _ _).retired (actStopped_retires p _)).changed p

theorem UrgentlyPolled.issueStop (h : UrgentlyPolled st s) (c : StopCause) (p : Pump) : UrgentlyPolled st (issueStop c p s) := by
  unfold Machine.issueStop
  split
  case h_1 => exact h.beginStop c p
  case h_2 => exact h.beginStop c p
  case h_3 =>
    split
    · exact h.protectOrdered p
    · exact h
  case h_4 =>
    split
    · exact h.upd p _
    · exact h
  case h_5 =>
    split
    · exact h.upd p _
    · exact h
  all_goals exact h

theorem UrgentlyPolled.actStarted (h : UrgentlyPolled st s) (p : Pump) : UrgentlyPolled st (actStarted p s) := by
  unfold Machine.actStarted
  dsimp only
  split
  · exact (h.upd p _).issueStop _ p
  · exact h

theorem UrgentlyPolled.adoptAtSurveyEnd (h : UrgentlyPolled st s) (p : Pump) : UrgentlyPolled st (adoptAtSurveyEnd s p) := by
  unfold Machine.adoptAtSurveyEnd
  dsimp only
  split
  · split
    · exact h
    · unfold adoptSurveyed
      dsimp only
      split
      · exact (((h.upd p _).changed p).raised _ p _ _).actStarted p
      · exact ((((h.released p).upd p _).raised _ p _ _).retired (actStopped_retires p _)).changed p
      · exact ((h.retired (enterFaulted_retires p s _)).changed p).raised _ p _ _
      · exact ((h.retired (enterLocal_retires p s)).changed p).raised _ p _ _
  · exact h

theorem UrgentlyPolled.unqueue (h : UrgentlyPolled st s) (p : Pump) : UrgentlyPolled st (unqueue p s) := by
  unfold Machine.unqueue
  split
  · exact (((h.unqueued p).upd p _).retired (actStopped_retires p _)).changed p
  · exact h

theorem UrgentlyPolled.queuePump (h : UrgentlyPolled st s) (p : Pump) : UrgentlyPolled st (queuePump p s) := by
  have joined : UrgentlyPolled st (joinStart p s) := h
  exact (joined.upd p _).changed p

theorem UrgentlyPolled.rebook (h : UrgentlyPolled st s) (k : House) {sums : State → State} (hs : Sums sums) :
    UrgentlyPolled st (rebook sums k s) := by
  obtain ⟨_, _, _, _, _, eq⟩ := (rebook_bookings hs k s).writes
  exact h.of_bus (by rw [eq])

theorem UrgentlyPolled.stir {adopting loose : Prop} (h : UrgentlyPolled st s) (step : Stir adopting loose s t) :
    UrgentlyPolled st t := by
  cases step with
  | quiet quiet => exact h.of_bus quiet.bus
  | stop c q _ => exact h.beginStop c q
  | withdraw q _ _ _ => exact h.protectOrdered q
  | mark q _ => exact h.upd q _
  | aggravate q _ => exact h.upd q _
  | queue q _ => exact h.queuePump q
  | unqueue q _ => exact h.unqueue q
  | adopt q _ _ => exact h.adoptAtSurveyEnd q
  | rebook k _ => exact h.rebook k sums_resum
  | surveyed _ => exact h

theorem UrgentlyPolled.stirs {adopting loose : Prop} (h : UrgentlyPolled st s) (run : Stirs adopting loose s t) :
    UrgentlyPolled st t := by
  induction run with
  | refl => exact h
  | tail _ step ih => exact ih.stir step

theorem UrgentlyPolled.admitPump (h : UrgentlyPolled st s) (p : Pump) : UrgentlyPolled st (admitPump p s) := by
  have into : UrgentlyPolled st (admittedInto p s) := by
    obtain ⟨_, _, _, eq⟩ := admittedInto_writes p s
    exact h.of_bus (by rw [eq])
  rw [admitPump_eq]
  exact (((into.rebook (houseOf p) sums_resumQuietly).told _).joinTransmit _ _ _).raised _ p _ _

theorem kept_urgentlyPolled (st : Station) : Kept True (fun _ => False) (UrgentlyPolled st) :=
  ⟨fun _ step h => h.stir step, fun q _ _ _ h => h.admitPump q, fun _ h => h.of_bus rfl⟩

theorem UrgentlyPolled.settleAll (h : UrgentlyPolled st s) (queue : QueueHoldsTheQueued s) :
    UrgentlyPolled st (settleAll s) :=
  (Holding.settleAll (kept_urgentlyPolled st) ⟨⟨h, queue, fun c => absurd trivial c⟩, fun _ => False.elim⟩).1

/-- An urgent poll that is asked for in an event waits at its end, or is being sent. -/
theorem UrgentlyPolled.finish (h : UrgentlyPolled st s) (queue : QueueHoldsTheQueued s) : UrgentlyPolled st (finish s) := by
  have settled := h.settleAll queue
  unfold Machine.finish
  generalize Machine.settleAll s = t at settled ⊢
  have freed : UrgentlyPolled st { t with work := { t.work with busEnded := false } } := settled
  have goes : UrgentlyPolled st (busGoesOn t) := freed.startTransaction
  exact goes

end

end Sys2Proof.Machine
end

section
/-! SUPPORT. A good ORDER_REPLY up to the Pump Table (R149, R152, R153, R161): its bytes end the transaction, supervision
takes it, and a SILENT station that returns is asked for an urgent poll. -/

namespace Sys2Proof.Machine

/-! ### The frame -/

/-- The status and reason bytes of an outcome (R152). -/
def outcomeBytes : OrderOutcome → List Byte
  | .accepted => [0#8, 0#8]
  | .refused reason => [1#8, BitVec.ofNat 8 (refuseCode reason)]

theorem parseOrderReply_outcome {tag : Nat} (small : tag < 256) (out : OrderOutcome) :
    parseOrderReply (toBytes 1 tag ++ outcomeBytes out) = some (tag, out) := by
  have fields (a b : Byte) : fieldAt (toBytes 1 tag ++ [a, b]) 0 1 = tag ∧
      fieldAt (toBytes 1 tag ++ [a, b]) 1 1 = a.toNat ∧ fieldAt (toBytes 1 tag ++ [a, b]) 2 1 = b.toNat :=
    ⟨fieldAt_toBytes 1 tag _ (by simpa using small), by simp [fieldAt, toBytes, ofBytes_single],
      by simp [fieldAt, toBytes, ofBytes_single]⟩
  cases out with
  | accepted =>
    obtain ⟨first, second, third⟩ := fields 0#8 0#8
    unfold parseOrderReply
    rw [outcomeBytes, if_pos (by simp), first, second, third]
    rfl
  | refused reason =>
    obtain ⟨first, second, third⟩ := fields 1#8 (BitVec.ofNat 8 (refuseCode reason))
    unfold parseOrderReply
    rw [outcomeBytes, if_pos (by simp), first, second, third]
    cases reason <;> rfl

/-- A good ORDER_REPLY is delivered, and its event runs to its end (R149, R153). -/
theorem exec_orderReply_good {s : State} {f : Flight} {st : Station} {o : Order} {tag : Nat} {out : OrderOutcome}
    (running : s.inReset = false) (waiting : Waiting f s) (request : f.request = .order o tag) (unit : f.unit = .station st)
    (small : tag < 256) :
    exec (.orderReply (busFrame (stationAddress st + 128) 4 (toBytes 1 tag ++ outcomeBytes out))) s =
      .next (finish (deliverOrderReply st o out (busFreed s))) := by
  obtain ⟨flight, sent, empty, kept⟩ := waiting
  have parsed := parseOrderReply_outcome small out
  have address : stationAddress st + 128 = unitAddress f.unit + 128 := by rw [unit]; rfl
  have near : unitAddress f.unit + 128 < 256 := by rw [unit]; simp only [unitAddress, stationAddress]; omega
  have kind : 4 = replyKind f.request := by rw [request]; rfl
  have three : (toBytes 1 tag ++ outcomeBytes out).length = 3 := by cases out <;> simp [outcomeBytes]
  generalize toBytes 1 tag ++ outcomeBytes out = body at parsed three ⊢
  have good : testReply f (busFrame (stationAddress st + 128) 4 body) = .ok (.order st o out) := by
    rw [address, kind, testReply_busFrame f body (by omega) near]
    simp [testContents, request, unit, parsed]
  have taken : takeBusBytes (busFrame (stationAddress st + 128) 4 body) s = deliverOrderReply st o out (busFreed s) := by
    rw [takeBusBytes_complete (n := BitVec.ofNat 8 body.length) flight sent empty kept (by rw [busFrame_eq]; rfl)
      (by rw [busFrame_eq]; simp; omega), good]
    rfl
  rw [exec_orderReply, live_running running]
  simp [whenDue, inFlight, flight, request, taken]

/-! ### Supervision -/

/-- The events of a good reply (R161). -/
theorem goodReply_events (st : Station) (s : State) : (goodReply st s).eventQueue =
    if s.bus.stations[st].state = .online then s.eventQueue
    else (logged .stationOnline ((planOf s).servedHouse st) none none (stationAddress st)
      (stationStateCode s.bus.stations[st].state) s).eventQueue := by
  have quiet (t : State) : (noticeServed st t).eventQueue = t.eventQueue := by
    unfold noticeServed
    split <;> rfl
  unfold goodReply
  dsimp only
  by_cases online : s.bus.stations[st].state = .online
  · rw [if_pos online, if_pos (by rw [online]; rfl)]
    rfl
  · rw [if_neg online, if_neg (by simpa using online), quiet]
    rfl

theorem goodReply_standing (st : Station) (s : State) : standing (goodReply st s) =
    { standing s with
      stations := (s.bus.stations.map untagged).set st (answeredStation s.time.uptime s.bus.stations[st]) } := by
  have follows := (goodReply_follows st s).standing
  have written : standing (updStation st (heardStation (now s)) s) =
      { standing s with stations := (standing (updStation st (heardStation (now s)) s)).stations } := rfl
  rw [follows, written, standing_updStation_stations]
  rfl

/-- A reply of a station taken by supervision, the urgent poll of a SILENT one asked for (R161). -/
def replyHeard (st : Station) (s : State) : State :=
  if s.bus.stations[st].state == .silent then requestUrgent (.station st) (goodReply st s) else goodReply st s

theorem deliverOrderReply_eq (st : Station) (o : Order) (out : OrderOutcome) (s : State) :
    deliverOrderReply st o out s = houseOutcome (houseOf o.pump) out (orderOutcome o out (replyHeard st s)) := rfl

/-- What holds once a reply has been taken by supervision. -/
structure Heard (st : Station) (s t : State) : Prop where
  pumps : t.pumps = s.pumps
  houses : t.houses = s.houses
  queue : t.feeder.queue = s.feeder.queue
  surveyEnd : t.work.surveyEnd = s.work.surveyEnd
  banks : t.banks = s.banks
  standing : standing t =
    { standing s with
      stations := (s.bus.stations.map untagged).set st (answeredStation s.time.uptime s.bus.stations[st]) }
  events : t.eventQueue =
    (if s.bus.stations[st].state = .online then s
      else logged .stationOnline ((planOf s).servedHouse st) none none (stationAddress st)
        (stationStateCode s.bus.stations[st].state) s).eventQueue
  urgent : s.bus.stations[st].state = .silent → UrgentlyPolled st t

theorem requestUrgent_events (u : BusUnit) (s : State) : (requestUrgent u s).eventQueue = s.eventQueue := by
  unfold requestUrgent
  split
  · rfl
  · simp

theorem requestUrgent_queue (u : BusUnit) (s : State) : (requestUrgent u s).feeder.queue = s.feeder.queue := by
  unfold requestUrgent
  split
  · rfl
  · simp

theorem requestUrgent_pumps (u : BusUnit) (s : State) : (requestUrgent u s).pumps = s.pumps := by
  unfold requestUrgent
  split
  · rfl
  · simp

theorem requestUrgent_houses (u : BusUnit) (s : State) : (requestUrgent u s).houses = s.houses := by
  unfold requestUrgent
  split
  · rfl
  · simp

theorem goodReply_heard {st : Station} {s t : State} (pumps : t.pumps = (goodReply st s).pumps)
    (houses : t.houses = (goodReply st s).houses) (queue : t.feeder.queue = (goodReply st s).feeder.queue)
    (carries : Carries (goodReply st s) t) (events : t.eventQueue = (goodReply st s).eventQueue)
    (urgent : s.bus.stations[st].state = .silent → UrgentlyPolled st t) : Heard st s t := by
  have aside := goodReply_aside s st
  have stands := carries.standing.trans (goodReply_standing st s)
  refine ⟨pumps.trans aside.pumps, houses.trans aside.houses, queue.trans aside.queue,
    carries.surveyEnd.trans aside.surveyEnd, congrArg Standing.banks stands, stands, ?_, urgent⟩
  rw [events, goodReply_events]
  split <;> rfl

theorem replyHeard_heard (st : Station) (s : State) : Heard st s (replyHeard st s) := by
  unfold replyHeard
  split
  · exact goodReply_heard (requestUrgent_pumps _ _) (requestUrgent_houses _ _) (requestUrgent_queue _ _)
      ((Carries.refl _).urgent _) (requestUrgent_events _ _) fun _ => urgentlyPolled_requestUrgent st _
  · next apart => exact goodReply_heard rfl rfl rfl (Carries.refl _) rfl fun silent => absurd (by rw [silent]; rfl) apart

/-- The state in which an ORDER_REPLY's outcome is taken, from the state before its bytes. -/
theorem heard_busFreed (st : Station) (s : State) : Heard st s (replyHeard st (busFreed s)) := by
  obtain ⟨pumps, houses, queue, surveyEnd, banks, stands, events, urgent⟩ := replyHeard_heard st (busFreed s)
  refine ⟨pumps, houses, queue, surveyEnd, banks, stands, ?_, urgent⟩
  have stations : (busFreed s).bus.stations = s.bus.stations := rfl
  rw [events, stations]
  split <;> rfl

theorem Heard.now {st : Station} {s t : State} (h : Heard st s t) : now t = now s :=
  congrArg (fun x : Standing => x.time.uptime) h.standing

theorem Heard.time {st : Station} {s t : State} (h : Heard st s t) : t.time = s.time :=
  congrArg (fun x : Standing => x.time) h.standing

theorem Heard.plan {st : Station} {s t : State} (h : Heard st s t) : planOf t = planOf s := planOf_of_banks h.banks

theorem Heard.protection {st : Station} {s t : State} (h : Heard st s t) : t.protection = s.protection :=
  congrArg (fun x : Standing => x.protection) h.standing

theorem Heard.queued {st : Station} {s t : State} (h : Heard st s t) (queue : QueueHoldsTheQueued s) :
    QueueHoldsTheQueued t := queue.of_same h.pumps h.queue

end Sys2Proof.Machine
end

section
/-! SUPPORT. An ACCEPTED reply to a start and to a stop (R41, R46, R53, R71), up to the end of the event; O41. -/

namespace Sys2Proof.Machine

section
variable {p : Pump} {s t u : State}

/-! ### The main settles -/

/-- A house's settings once its main has been moved at an uptime (R71). -/
def movedSettings (at_ : Nat) (x : Mode × Nat × Option Nat) : Mode × Nat × Option Nat :=
  (x.1, x.2.1, some (max at_ (x.2.2.getD 0)))

theorem setMainSettle_standing (h : House) (s : State) : standing (setMainSettle h s) =
    { standing s with
      houses := (s.houses.map houseSettings).set h
        (movedSettings (now s + (planOf s).houses[h].mainSettle) (houseSettings s.houses[h])) } := by
  have houses : (setMainSettle h s).houses.map houseSettings = (s.houses.map houseSettings).set h
      (movedSettings (now s + (planOf s).houses[h].mainSettle) (houseSettings s.houses[h])) := by
    rw [setMainSettle, updHouse_houses, Vector.map_set]
    rfl
  rw [← houses]
  rfl

/-- The houses' settings stand where the standing part does but for the stations. -/
theorem Heard.mainMoved {st : Station} (heard : Heard st s u) (carries : Carries u t) (h : House) :
    Machine.standing (setMainSettle h t) =
      { Machine.standing s with
        stations := (s.bus.stations.map untagged).set st (answeredStation s.time.uptime s.bus.stations[st])
        houses := (s.houses.map houseSettings).set h (Machine.mainMoved s h) } := by
  have stands := carries.standing.trans heard.standing
  have houses : t.houses.map houseSettings = s.houses.map houseSettings := congrArg Standing.houses stands
  have own : houseSettings t.houses[h] = houseSettings s.houses[h] := by
    have := congrArg (fun v : Vector (Mode × Nat × Option Nat) 8 => v[h]) houses
    simpa using this
  rw [setMainSettle_standing, stands, houses, own, carries.now, heard.now, carries.plan, heard.plan]
  rfl

/-! ### A start -/

/-- A pump that has entered STARTING keeps its record, or is on its way out. -/
theorem course_startsOrStops (x : State) (p : Pump) {r : PumpLive} (starting : r.state = .starting) :
    Course x p False False fun y => y = r ∨ y.state = .stopping := by
  have never {y : PumpLive} {st : PumpState} {P : Prop} (h : y = r ∨ y.state = .stopping) (e : y.state = st)
      (start : st ≠ .starting) (stop : st ≠ .stopping) : P := by
    rcases h with rfl | h
    · exact absurd (e.symm.trans starting) start
    · exact absurd (e.symm.trans h) stop
  constructor
  · rintro y b (rfl | h) e
    · rw [starting] at e
      rcases e with e | e <;> cases e
    · exact .inr h
  · exact fun c _ _ => .inr rfl
  · exact fun h e _ _ => never h e PumpState.noConfusion PumpState.noConfusion
  · rintro y h (e | e) <;> exact never h e PumpState.noConfusion PumpState.noConfusion
  · exact fun _ stopping => .inr stopping
  · exact fun h e _ => never h e PumpState.noConfusion PumpState.noConfusion
  · exact fun h e => never h e PumpState.noConfusion PumpState.noConfusion
  · exact fun _ _ _ h e _ => never h e PumpState.noConfusion PumpState.noConfusion

/-- The record of a pump whose start has been accepted (R41). -/
def startingRecord (windowEnd : Nat) (r : PumpLive) : PumpLive :=
  { r with state := .starting, windowEnd := some windowEnd }

/-- The pump of an accepted start, before its event and its flags. -/
def startTaken (p : Pump) (s : State) : State :=
  pumpChanged p
    (updPump p (fun r => { r with state := .starting, windowEnd := some (now s + (pumpPlan s p).startWindow) }) s)

theorem startAccepted_eq (p : Pump) (s : State) : startAccepted p s =
    actStarted p (raisePump .startAccepted p (s.pumps[p].permit.getD 65535) (pumpPlan s p).startWindow (startTaken p s)) :=
  rfl

theorem startTaken_record (p : Pump) (s : State) :
    (startTaken p s).pumps[p] = startingRecord (now s + (pumpPlan s p).startWindow) s.pumps[p] := by
  have turned : Turned p (startingRecord (now s + (pumpPlan s p).startWindow) s.pumps[p]) s (startTaken p s) :=
    Turned.of_changed rfl
  rw [turned.self, rebooked_idle PumpState.noConfusion PumpState.noConfusion]

theorem startTaken_carries (p : Pump) (s : State) : Carries s (startTaken p s) := ((Carries.refl s).upd p _).changed p

theorem startAccepted_carries (p : Pump) (s : State) : Carries s (startAccepted p s) := by
  rw [startAccepted_eq]
  exact ((startTaken_carries p s).raised _ p _ _).startActed p

theorem startAccepted_records (p : Pump) (s : State) :
    withEvent .startAccepted (some (houseOf p)) (some p) none (s.pumps[p].permit.getD 65535) (pumpPlan s p).startWindow s <+:
      (startAccepted p s).eventQueue.records := by
  have events : (startTaken p s).eventQueue = s.eventQueue := pumpChanged_eventQueue p _
  rw [startAccepted_eq]
  refine List.IsPrefix.trans ?_ ((Carries.refl _).startActed p).records
  rw [raisePump_records, withEvent_congr (startTaken_carries p s).time events]

theorem startAccepted_starts (p : Pump) (s : State) :
    (startAccepted p s).pumps[p] = startingRecord (now s + (pumpPlan s p).startWindow) s.pumps[p] ∨
      (startAccepted p s).pumps[p].state = .stopping := by
  rw [startAccepted_eq]
  generalize told : raisePump .startAccepted p _ _ (startTaken p s) = t
  have record : t.pumps[p] = startingRecord (now s + (pumpPlan s p).startWindow) s.pumps[p] := by
    rw [← startTaken_record, ← told, raisePump, raise_pumps]
  have starting : t.pumps[p].state = .starting := by rw [record]; rfl
  refine (actStarted_cases (.inr starting)).imp_left fun same => ?_
  rw [same, record]

theorem UrgentlyPolled.startAccepted {st : Station} (h : UrgentlyPolled st s) (p : Pump) :
    UrgentlyPolled st (startAccepted p s) := by
  rw [startAccepted_eq]
  exact (((h.upd p _).changed p).raised _ p _ _).actStarted p

theorem UrgentlyPolled.mainSet {st : Station} (h : UrgentlyPolled st s) (k : House) :
    UrgentlyPolled st (setMainSettle k s) := h

theorem UrgentlyPolled.shed {st : Station} (h : UrgentlyPolled st s) : UrgentlyPolled st (callShedTest s) := h

/-! ### A stop -/

/-- The record of a pump whose stop has ended, its flags acted on (R38, R46, R53). -/
def stoppedRecord (uptime minOff : Nat) (r : PumpLive) : PumpLive :=
  restPassed uptime (stopActed (restRecord uptime minOff r))

/-- A pump stopped now with an event, its flags acted on (R46, R50, R51). -/
def restWith (k : EventKind) (v w : Nat) (p : Pump) (s : State) : State :=
  settleRest p (raisePump k p v w (enterRest p s))

theorem restWith_turned (k : EventKind) (v w : Nat) (p : Pump) (s : State) :
    Turned p (stoppedRecord (now s) (planOf s).pumps[p].minOff s.pumps[p]) s (restWith k v w p s) := by
  refine Turned.of_changed ?_
  have time : now (actStopped p (raisePump k p v w (enterRest p s))) = now s :=
    (((Carries.refl s).restEntered p).raised k p v w).stopActed p |>.now
  rw [passRest_pumps, time, actStopped_pumps]
  simp [raisePump, enterRest_pumps, stoppedRecord]

theorem restWith_carries (k : EventKind) (v w : Nat) (p : Pump) (s : State) : Carries s (restWith k v w p s) :=
  (((Carries.refl s).restEntered p).raised k p v w).restSettled p

theorem enterRest_events (p : Pump) (s : State) : (enterRest p s).eventQueue = s.eventQueue := by simp [enterRest]

theorem restWith_records (k : EventKind) (v w : Nat) (p : Pump) (s : State) :
    withEvent k (some (houseOf p)) (some p) none v w s <+: (restWith k v w p s).eventQueue.records := by
  refine List.IsPrefix.trans ?_ ((Carries.refl (raisePump k p v w (enterRest p s))).restSettled p).records
  rw [raisePump_records, withEvent_congr ((Carries.refl s).restEntered p).time (enterRest_events p s)]

theorem restWith_handles (k : EventKind) (v w : Nat) (p : Pump) (s : State) : Handles p s (restWith k v w p s) :=
  restWithEvent_handles k p v w s

theorem restPassed_of_ne {r : PumpLive} {uptime : Nat} (h : r.state ≠ .rest) : restPassed uptime r = r :=
  if_neg (by simp [h])

theorem restPassed_to_come {r : PumpLive} {uptime u : Nat} (minOff : r.minOffUntil = some u) (later : uptime < u) :
    restPassed uptime r = r := by
  refine if_neg ?_
  rw [minOff, Option.all_some, decide_eq_false (Nat.not_le.mpr later), Bool.and_false]
  exact Bool.noConfusion

section
variable {r : PumpLive} {uptime minOff : Nat}

theorem stoppedRecord_isolated (pending : r.isolatePending = true) :
    (stoppedRecord uptime minOff r).state = .isolated := by
  have acted : (stopActed (restRecord uptime minOff r)).state = .isolated := by
    unfold stopActed
    split
    · next cause _ =>
      have isolated : faultedRecord cause (restRecord uptime minOff r) = isolatedRecord
        { outRecord .faulted (some cause) (restRecord uptime minOff r) with faultPending := none } := isolateActed_of_pending pending
      rw [isolated]
      rfl
    · have isolated : isolateActed (restRecord uptime minOff r) = isolatedRecord (restRecord uptime minOff r) :=
        isolateActed_of_pending pending
      rw [isolated]
      rfl
  rw [stoppedRecord, restPassed_of_ne (by rw [acted]; exact PumpState.noConfusion), acted]

theorem stoppedRecord_faulted (clear : r.isolatePending = false) {cause : FaultCause} (fault : r.faultPending = some cause) :
    (stoppedRecord uptime minOff r).state = .faulted ∧ (stoppedRecord uptime minOff r).fault = some cause := by
  have acted : stopActed (restRecord uptime minOff r) =
      { outRecord .faulted (some cause) (restRecord uptime minOff r) with faultPending := none } := by
    have pending : (restRecord uptime minOff r).faultPending = some cause := fault
    unfold stopActed
    rw [pending]
    exact isolateActed_of_clear clear
  rw [stoppedRecord, restPassed_of_ne (by rw [acted]; exact PumpState.noConfusion), acted]
  exact ⟨rfl, rfl⟩

theorem stoppedRecord_rest (clear : r.isolatePending = false) (fault : r.faultPending = none) (later : 0 < minOff) :
    stoppedRecord uptime minOff r = restRecord uptime minOff r := by
  have acted : stopActed (restRecord uptime minOff r) = restRecord uptime minOff r := stopActed_of_clear clear fault
  have comes : uptime < uptime + minOff := by omega
  rw [stoppedRecord, acted, restPassed_to_come rfl comes]

theorem stoppedRecord_ready (clear : r.isolatePending = false) (fault : r.faultPending = none) :
    stoppedRecord uptime 0 r = readied (restRecord uptime 0 r) := by
  have acted : stopActed (restRecord uptime 0 r) = restRecord uptime 0 r := stopActed_of_clear clear fault
  rw [stoppedRecord, acted]
  exact restPassed_of_over rfl (decide_eq_true (Nat.le_refl uptime))

end

theorem Turned.settled {r : PumpLive} (turned : Turned p r s t) (running : r.state ≠ .running) (stopping : r.state ≠ .stopping) :
    t.pumps[p] = r := by rw [turned.self, rebooked_idle running stopping]

theorem stopActed_moves {r : PumpLive} {st : PumpState} (rest : r.state = .rest) (h : (stopActed r).state = st) :
    st = .rest ∨ st = .faulted ∨ st = .isolated := by
  subst h
  rcases stopActed_state r with e | e | e
  · exact .inl (e.trans rest)
  · exact .inr (.inl e)
  · exact .inr (.inr e)

theorem stoppedRecord_states (uptime minOff : Nat) (r : PumpLive) :
    Parked (stoppedRecord uptime minOff r) ∨ (stoppedRecord uptime minOff r).state = .ready := by
  have acted := stopActed_moves (r := restRecord uptime minOff r) rfl rfl
  unfold stoppedRecord restPassed
  split
  · exact .inr rfl
  · left
    rcases acted with e | e | e
    · exact .inr (.inl e)
    · exact .inr (.inr (.inr (.inl e)))
    · exact .inr (.inr (.inr (.inr e)))

theorem restWith_record (k : EventKind) (v w : Nat) (p : Pump) (s : State) :
    (restWith k v w p s).pumps[p] = stoppedRecord (now s) (planOf s).pumps[p].minOff s.pumps[p] := by
  refine (restWith_turned k v w p s).settled ?_ ?_
  all_goals
    rcases stoppedRecord_states (now s) (planOf s).pumps[p].minOff s.pumps[p] with e | e
  · exact e.ne.2.2.2.2.1
  · rw [e]; exact PumpState.noConfusion
  · exact e.ne.2.2.2.2.2.1
  · rw [e]; exact PumpState.noConfusion

/-- What the end of the event leaves of a pump that has stopped in it (R38, R46, R53). -/
structure Stops (uptime minOff : Nat) (r y : PumpLive) : Prop where
  isolated : r.isolatePending = true → y.state = .isolated
  faulted : r.isolatePending = false → ∀ cause, r.faultPending = some cause → y.state = .faulted ∧ y.fault = some cause
  clear : r.isolatePending = false → r.faultPending = none →
    (0 < minOff → y = restRecord uptime minOff r) ∧ (minOff = 0 → OnItsWay y)

/-- A pump that has stopped, at the end of the event. -/
theorem stops_finish {uptime minOff : Nat} {r : PumpLive} (queue : QueueHoldsTheQueued s)
    (surveyEnd : s.work.surveyEnd = false) (record : s.pumps[p] = stoppedRecord uptime minOff r) :
    Stops uptime minOff r (finish s).pumps[p] := by
  have stays (parked : Parked s.pumps[p]) : (finish s).pumps[p] = stoppedRecord uptime minOff r := by
    rw [(parked.finish_stirs queue surveyEnd .refl).1, record]
  refine ⟨fun pending => ?_, fun clear cause fault => ?_, fun clear fault => ⟨fun later => ?_, fun none => ?_⟩⟩
  · have state := stoppedRecord_isolated (uptime := uptime) (minOff := minOff) pending
    rw [stays (by rw [record]; exact .inr (.inr (.inr (.inr state))))]
    exact state
  · have state := stoppedRecord_faulted (uptime := uptime) (minOff := minOff) clear fault
    rw [stays (by rw [record]; exact .inr (.inr (.inr (.inl state.1))))]
    exact state
  · have rest := stoppedRecord_rest (uptime := uptime) clear fault later
    rw [stays (by rw [record, rest]; exact .inr (.inl rfl)), rest]
  · subst none
    have ready := stoppedRecord_ready (uptime := uptime) clear fault
    have start : Starts p False False s := ⟨queue, surveyEnd, False.elim, False.elim⟩
    refine ((course_waits s p False False).finish_stirs start ?_ .refl).1
    rw [record, ready]
    exact ⟨.inl rfl, clear, fault, rfl⟩

theorem stopAccepted_eq (p : Pump) (s : State) : stopAccepted p s =
    callShedTest (restWith .stopped (stopCauseOf s p) 0 p s) := rfl

theorem UrgentlyPolled.restWith {st : Station} (h : UrgentlyPolled st s) (k : EventKind) (v w : Nat) (p : Pump) :
    UrgentlyPolled st (restWith k v w p s) := by
  refine h.of_bus ?_
  have acted := (actStopped_retires p (raisePump k p v w (enterRest p s))).bus
  have passed (t : State) : (passRest p t).bus = t.bus := by
    unfold passRest
    dsimp only
    split <;> rfl
  have changed := pumpChanged_bus p (passRest p (actStopped p (raisePump k p v w (enterRest p s))))
  refine changed.trans ((passed _).trans (acted.trans ?_))
  simp [enterRest, raisePump]

end

/-- Settles O41: the outcome's record is the start of a course that the work of the event keeps to. -/
theorem orderIsAccepted : Obligations.OrderIsAccepted := by
  unfold Obligations.OrderIsAccepted
  rintro s f st p tag ⟨⟨blank, -⟩, running⟩ waiting queue unit small
  intro h r uptime window minOff before back moved ends reply
  have surveyEnd : s.work.surveyEnd = false := by rw [blank]; rfl
  have heard := heard_busFreed st s
  have delivered (c : OrderKind) (request : f.request = .order { pump := p, command := c } tag) :=
    (exec_orderReply_good (out := .accepted) running waiting request unit small).trans
      (congrArg (fun u => Host.Outcome.next (finish u)) (deliverOrderReply_eq st _ _ _))
  generalize replyHeard st (busFreed s) = u at heard delivered
  have own : u.pumps[p] = r := by rw [heard.pumps]
  have events : u.eventQueue = back.eventQueue := heard.events
  have backTime : back.time = s.time := by
    unfold back
    split <;> rfl
  have records (k : EventKind) (v w : Nat) : withEvent k (some h) (some p) none v w u = withEvent k (some h) (some p) none v w back :=
    withEvent_congr (heard.time.trans backTime.symm) events _ _ _ _ _ _
  refine ⟨fun request ordered => ?_, fun request stopping => ?_⟩
  · have outcome : orderOutcome { pump := p, command := .start } .accepted u = startAccepted p u :=
      if_pos (by rw [own, ordered]; rfl)
    have carries := startAccepted_carries p u
    have queued := (startAccepted_handles p u).keeps (by rw [own, ordered]; exact PumpState.noConfusion) (heard.queued queue)
    have first := startAccepted_records p u
    have begins := startAccepted_starts p u
    have urgent := fun silent => (heard.urgent silent).startAccepted p
    rw [records, own, pumpPlan, heard.plan] at first
    rw [own, heard.now, pumpPlan, heard.plan] at begins
    have leads := delivered .start request
    rw [outcome] at leads
    generalize startAccepted p u = v at carries queued first begins urgent leads
    have start : Starts p False False (setMainSettle h v) :=
      ⟨queued.setMainSettle h, carries.surveyEnd.trans (heard.surveyEnd.trans surveyEnd), False.elim, False.elim⟩
    exact ⟨_, leads, ⟨(finish_standing _).trans (heard.mainMoved carries h), fun silent => ((urgent silent).mainSet h).finish start.queue⟩,
      first.trans (finish_records (setMainSettle h v)),
      (course_startsOrStops _ p (r := startingRecord (uptime + window) r) rfl).finish_stirs start begins .refl⟩
  · have outcome : orderOutcome { pump := p, command := .stop } .accepted u = stopAccepted p u :=
      if_pos (by rw [own, stopping]; rfl)
    rw [stopAccepted_eq] at outcome
    have cause : stopCauseOf u p = (r.stopCause.map stopCauseCode).getD 0 := by rw [stopCauseOf, own]
    rw [cause] at outcome
    generalize (r.stopCause.map stopCauseCode).getD 0 = code at outcome
    have carries : Carries u (callShedTest (restWith .stopped code 0 p u)) := (restWith_carries _ _ _ p u).shed
    have queued := ((restWith_handles .stopped code 0 p u).keeps (by rw [own, stopping]; exact PumpState.noConfusion)
      (heard.queued queue)).callShedTest
    have first := restWith_records .stopped code 0 p u
    have record := restWith_record .stopped code 0 p u
    have urgent := fun silent => ((heard.urgent silent).restWith .stopped code 0 p).shed
    rw [records] at first
    rw [own, heard.now, heard.plan] at record
    have leads := delivered .stop request
    rw [outcome] at leads
    rw [← callShedTest_eventQueue] at first
    rw [← callShedTest_pumps] at record
    generalize callShedTest (restWith .stopped code 0 p u) = v at carries queued first record urgent leads
    have stopped : Stops uptime minOff r (finish (setMainSettle h v)).pumps[p] :=
      stops_finish (queued.setMainSettle h) (carries.surveyEnd.trans (heard.surveyEnd.trans surveyEnd)) record
    exact ⟨_, leads, ⟨(finish_standing _).trans (heard.mainMoved carries h),
      fun silent => ((urgent silent).mainSet h).finish (queued.setMainSettle h)⟩,
      first.trans (finish_records (setMainSettle h v)), stopped.isolated, stopped.faulted, stopped.clear⟩

end Sys2Proof.Machine
end

section
/-! SUPPORT. A REFUSED reply to a start and to a stop (R42, R47, R53, R142), up to the end of the event; O42. -/

namespace Sys2Proof.Machine

/-! ### The interlock -/

section
variable {s t : State}

/-- The interlock of a refusal recorded, before the house's entries leave the Start Queue (R142). -/
def interlockTold (h : House) (marking : Nat) (s : State) : State :=
  if s.protection[h].interlock then s
  else
    raiseHouse .interlockOn h marking (stationAddress (stationOf s h)) (updProtection h (fun r => { r with interlock := true }) s)

theorem interlockOn_stirs {adopting loose : Prop} (h : House) (marking : Nat) (s : State) :
    Stirs adopting loose (interlockTold h marking s) (interlockOn h marking s) := by
  unfold interlockTold interlockOn
  split
  · exact .refl
  · exact Stirs.quiet (dropHouseQueue_stirs h _) (quiet_notice h _)

theorem interlockTold_aside (h : House) (marking : Nat) (s : State) : Aside s (interlockTold h marking s) := by
  unfold interlockTold
  split
  · exact Aside.refl s
  · exact ((Aside.refl s).updProtection h _).raise ..

theorem interlockTold_protected (h : House) (marking : Nat) (s : State) :
    Protected h { s.protection[h] with interlock := true } s (interlockTold h marking s) := by
  unfold interlockTold
  split
  · next on =>
    have same : { s.protection[h] with interlock := true } = s.protection[h] := by rw [← on]
    rw [same]
    exact Protected.refl h s
  · exact ((Protected.refl h s).updProtection _).event ..

theorem interlockTold_events (h : House) (marking : Nat) (s : State) : (interlockTold h marking s).eventQueue =
    (if s.protection[h].interlock then s
      else logged .interlockOn (some h) none none marking (stationAddress (stationOf s h)) s).eventQueue := by
  unfold interlockTold
  split <;> rfl

end

/-! ### Records and events -/

/-- The record of a pump out of service, ISOLATED where isolate-pending waits (R53). -/
def goneRecord (state : PumpState) (fault : Option FaultCause) (r : PumpLive) : PumpLive :=
  if r.isolatePending then { outRecord .isolated none r with isolatePending := false, protectPending := false }
  else outRecord state fault r

theorem localRecord_gone (r : PumpLive) :
    localRecord r = goneRecord .localControl none { r with faultPending := none } := by
  unfold localRecord isolateActed goneRecord
  exact if_congr Iff.rfl rfl rfl

theorem faultedRecord_gone (c : FaultCause) (r : PumpLive) :
    faultedRecord c r = goneRecord .faulted (some c) { r with faultPending := none } := by
  unfold faultedRecord isolateActed goneRecord
  exact if_congr Iff.rfl rfl rfl

/-- What a refusal makes of the pump's record (R42, R47). -/
def refusedRecord : RefuseReason → PumpLive → PumpLive
  | .localControl => goneRecord .localControl none
  | .tripped => goneRecord .faulted (some .refusedTripped)
  | .interlocked => goneRecord .faulted (some .refusedTripped)
  | .unknownPump => goneRecord .faulted (some .unknownPump)

section
variable {p : Pump} {s t u v : State}

theorem raisePump_events_of (time : s.time = t.time) (events : s.eventQueue = t.eventQueue) (k : EventKind) (p : Pump)
    (v w : Nat) :
    (raisePump k p v w s).eventQueue = (logged k (some (houseOf p)) (some p) none v w t).eventQueue := by
  simp only [raisePump, raise, logged, eventNow, now, networkMinute, time, events]

/-- What a refusal leaves of a pump and of the rest, before the interlock: the pump is out of service. -/
structure Refuses (p : Pump) (x : PumpLive) (told s t : State) : Prop where
  carries : Carries s t
  queued : QueueHoldsTheQueued s → QueueHoldsTheQueued t
  record : t.pumps[p] = x
  out : OutOfService p t
  events : t.eventQueue = told.eventQueue
  urgent : ∀ st, UrgentlyPolled st s → UrgentlyPolled st t

/-- A refusal that makes the pump LOCAL. -/
theorem refuses_local (idle : s.pumps[p].state ≠ .queued) : Refuses p
    (goneRecord .localControl none { s.pumps[p] with faultPending := none }) s s (localFromReport p s) where
  carries := (Carries.refl s).localReported p
  queued := (localFromReport_handles p s).keeps idle
  record := (localFromReport_record p s).trans (localRecord_gone _)
  out := localFromReport_out p s
  events := localFromReport_events p s
  urgent := fun _ h => (h.retired (enterLocal_retires p s)).changed p

/-- A refusal that makes the pump FAULTED. -/
theorem refuses_fault (idle : s.pumps[p].state ≠ .queued) (c : FaultCause) : Refuses p
    (goneRecord .faulted (some c) { s.pumps[p] with faultPending := none })
    (logged .pumpFault (some (houseOf p)) (some p) none (faultCode c) (faultAlarm c) s) s (faultFromReport p c s) where
  carries := (Carries.refl s).faultReported p c
  queued := (faultFromReport_handles p c s).keeps idle
  record := (faultFromReport_record p c s).trans (faultedRecord_gone c _)
  out := faultFromReport_out p c s
  events := (faultFromReport_events p c s).trans (raisePump_events_of rfl rfl _ _ _ _)
  urgent := fun _ h => (h.retired (enterFaulted_retires p s c)).changed p

/-- A refusal with an event behind it. -/
theorem Refuses.raised {x : PumpLive} {told : State} (h : Refuses p x told s t) (time : told.time = s.time) (k : EventKind)
    (a b : Nat) : Refuses p x (logged k (some (houseOf p)) (some p) none a b told) s (raisePump k p a b t) where
  carries := h.carries.raised k p a b
  queued := fun q => (h.queued q).raise ..
  record := h.record
  out := h.out.of_same rfl rfl
  events := raisePump_events_of (h.carries.time.trans time.symm) h.events k p a b
  urgent := fun st u => (h.urgent st u).raised k p a b

/-- A refusal seen from an earlier state. -/
theorem Refuses.after {x : PumpLive} {told : State} (h : Refuses p x told u t) (carries : Carries s u)
    (queued : QueueHoldsTheQueued s → QueueHoldsTheQueued u) (urgent : ∀ st, UrgentlyPolled st s → UrgentlyPolled st u) :
    Refuses p x told s t :=
  ⟨carries.trans h.carries, fun q => h.queued (queued q), h.record, h.out, h.events, fun st w => h.urgent st (urgent st w)⟩

/-- The same events, logged from another state. -/
theorem Refuses.told {x : PumpLive} {told told' : State} (h : Refuses p x told s t) (same : told.eventQueue = told'.eventQueue) :
    Refuses p x told' s t := ⟨h.carries, h.queued, h.record, h.out, h.events.trans same, h.urgent⟩

/-! ### A refused start -/

theorem undoAdmission_record (p : Pump) (s : State) : (undoAdmission p s).pumps[p] = undoneRecord s.pumps[p] := by
  rw [get_of_set (undoAdmission_pumps p s), if_pos rfl]

theorem undoAdmission_events (p : Pump) (s : State) : (undoAdmission p s).eventQueue = s.eventQueue := by simp [undoAdmission]

theorem logged_events_of (time : s.time = t.time) (events : s.eventQueue = t.eventQueue) (k : EventKind) (h : Option House)
    (p : Option Pump) (c : Option Tank) (v w : Nat) : (logged k h p c v w s).eventQueue = (logged k h p c v w t).eventQueue := by
  simp only [logged, eventNow, now, networkMinute, time, events]

theorem goneRecord_undone (state : PumpState) (fault : Option FaultCause) (r : PumpLive) :
    goneRecord state fault { undoneRecord r with faultPending := none } =
      goneRecord state fault (unadmitted { r with faultPending := none }) := by
  unfold goneRecord
  exact if_congr Iff.rfl rfl rfl

/-- The events of a refused start (R42): START_REFUSED names the state that the reason calls for. -/
def startRefusedTold (reason : RefuseReason) (p : Pump) (s : State) : State :=
  let fault := fun (c : FaultCause) => logged .pumpFault (some (houseOf p)) (some p) none (faultCode c) 0 s
  let refused := logged .startRefused (some (houseOf p)) (some p) none (refuseCode reason)
  match reason with
  | .localControl => refused 9 s
  | .tripped => refused 10 (fault .refusedTripped)
  | .interlocked => refused 10 (fault .refusedTripped)
  | .unknownPump => refused 10 (fault .unknownPump)

theorem startRefused_refuses (ordered : s.pumps[p].state = .ordered) (reason : RefuseReason) {back : State}
    (time : s.time = back.time) (events : s.eventQueue = back.eventQueue) :
    Refuses p (refusedRecord reason (unadmitted { s.pumps[p] with faultPending := none })) (startRefusedTold reason p back) s
      (startRefused reason p s) := by
  have undone := undoAdmission_record p s
  have carries : Carries s (undoAdmission p s) := (Carries.refl s).undone p
  have ready : (undoAdmission p s).pumps[p].state ≠ .queued := by
    rw [undone]
    have : (undoneRecord s.pumps[p]).state = .ordered := ordered
    rw [this]
    exact PumpState.noConfusion
  have quiet : (undoAdmission p s).eventQueue = back.eventQueue := (undoAdmission_events p s).trans events
  have clock : (undoAdmission p s).time = back.time := carries.time.trans time
  have after {x : PumpLive} {told t : State} (h : Refuses p x told (undoAdmission p s) t) : Refuses p x told s t :=
    h.after carries ((undoAdmission_handles p s).keeps (by rw [ordered]; exact PumpState.noConfusion))
      fun _ u => u.retired (undoAdmission_retires p s)
  have faulted (c : FaultCause) (alarm : faultAlarm c = 0) :
      Refuses p (goneRecord .faulted (some c) (unadmitted { s.pumps[p] with faultPending := none }))
        (logged .startRefused (some (houseOf p)) (some p) none (refuseCode reason) 10
          (logged .pumpFault (some (houseOf p)) (some p) none (faultCode c) 0 back)) s
        (raisePump .startRefused p (refuseCode reason) 10 (faultFromReport p c (undoAdmission p s))) := by
    have fault := after (((refuses_fault ready c).told (logged_events_of clock quiet _ _ _ _ _ _)))
    rw [alarm, undone, goneRecord_undone] at fault
    exact fault.raised time.symm .startRefused (refuseCode reason) 10
  cases reason with
  | localControl =>
    have gone := after ((refuses_local ready).told quiet)
    rw [undone, goneRecord_undone] at gone
    exact gone.raised time.symm .startRefused 1 9
  | tripped => exact faulted .refusedTripped rfl
  | interlocked => exact faulted .refusedTripped rfl
  | unknownPump => exact faulted .unknownPump rfl

/-! ### A refused stop -/

/-- The events of a refused stop (R47). -/
def stopRefusedTold (reason : RefuseReason) (cause : Nat) (p : Pump) (s : State) : State :=
  let stopped := logged .stopped (some (houseOf p)) (some p) none cause (refuseCode reason) s
  let fault := fun (c : FaultCause) => logged .pumpFault (some (houseOf p)) (some p) none (faultCode c) 0 stopped
  match reason with
  | .localControl => stopped
  | .tripped => fault .refusedTripped
  | .interlocked => stopped
  | .unknownPump => fault .unknownPump

/-- A stop refused, up to the state the pump takes. -/
def stopRefusedRaised (reason : RefuseReason) (p : Pump) (s : State) : State :=
  raisePump .stopped p (stopCauseOf s p) (refuseCode reason) (callShedTest s)

theorem stopRefusedRaised_carries (reason : RefuseReason) (p : Pump) (s : State) :
    Carries s (stopRefusedRaised reason p s) := ((Carries.refl s).shed).raised .stopped p _ _

theorem stopRefused_refuses (stopping : s.pumps[p].state = .stopping) (reason : RefuseReason) (apart : reason ≠ .interlocked)
    {back : State} (time : s.time = back.time) (events : s.eventQueue = back.eventQueue) :
    Refuses p (refusedRecord reason { s.pumps[p] with faultPending := none }) (stopRefusedTold reason (stopCauseOf s p) p back) s
      (stopRefused reason p s) := by
  have carries := stopRefusedRaised_carries reason p s
  have raised : (stopRefusedRaised reason p s).eventQueue =
      (logged .stopped (some (houseOf p)) (some p) none (stopCauseOf s p) (refuseCode reason) back).eventQueue :=
    raisePump_events_of time events _ _ _ _
  have idle : (stopRefusedRaised reason p s).pumps[p].state ≠ .queued := by
    have pumps : (stopRefusedRaised reason p s).pumps = s.pumps := rfl
    rw [pumps, stopping]
    exact PumpState.noConfusion
  have after {x : PumpLive} {told t : State} (h : Refuses p x told (stopRefusedRaised reason p s) t) : Refuses p x told s t :=
    h.after carries (fun q => q.callShedTest.raise ..) fun _ u => u.shed.raised _ p _ _
  have faulted (c : FaultCause) (alarm : faultAlarm c = 0) :
      Refuses p (goneRecord .faulted (some c) { s.pumps[p] with faultPending := none })
        (logged .pumpFault (some (houseOf p)) (some p) none (faultCode c) 0
          (logged .stopped (some (houseOf p)) (some p) none (stopCauseOf s p) (refuseCode reason) back)) s
        (faultFromReport p c (stopRefusedRaised reason p s)) := by
    have fault := after ((refuses_fault idle c).told (logged_events_of
      (t := logged .stopped (some (houseOf p)) (some p) none (stopCauseOf s p) (refuseCode reason) back)
      (carries.time.trans time) raised _ _ _ _ _ _))
    rw [alarm] at fault
    exact fault
  cases reason with
  | localControl => exact after ((refuses_local idle).told raised)
  | tripped => exact faulted .refusedTripped rfl
  | interlocked => exact absurd rfl apart
  | unknownPump => exact faulted .unknownPump rfl

end

end Sys2Proof.Machine
end

section
/-! SUPPORT. A stop refused INTERLOCKED (R47, R142), and the statement about REFUSED replies; O42. -/

namespace Sys2Proof.Machine

section
variable {p : Pump} {s t u v : State}

theorem course_unconfirmed (x : State) (p : Pump) {r : PumpLive} (unconfirmed : r.state = .unconfirmed) :
    Course x p False False fun y => unprotected y = unprotected r := by
  have never {y : PumpLive} {st : PumpState} {P : Prop} (h : unprotected y = unprotected r) (e : y.state = st)
      (n : st ≠ .unconfirmed) : P := absurd (e.symm.trans ((unprotected_state h).trans unconfirmed)) n
  constructor
  · rintro y b h (e | e) <;> exact never h e PumpState.noConfusion
  · rintro y c h (e | e) <;> exact never h e PumpState.noConfusion
  · exact fun h e _ _ => never h e PumpState.noConfusion
  · exact fun h _ => h
  · exact fun h e => never h e PumpState.noConfusion
  · exact fun h e _ => never h e PumpState.noConfusion
  · exact fun h e => never h e PumpState.noConfusion
  · exact fun _ _ _ h e _ => never h e PumpState.noConfusion

/-- A stop refused INTERLOCKED, before the urgent poll. -/
def stopUnsettled (p : Pump) (s : State) : State := pumpChanged p (stopUnresolved p (stopRefusedRaised .interlocked p s))

theorem stopRefused_interlocked (p : Pump) (s : State) :
    stopRefused .interlocked p s = urgentPollOf p (stopUnsettled p s) := rfl

theorem stopUnsettled_carries (p : Pump) (s : State) : Carries s (stopUnsettled p s) :=
  ((stopRefusedRaised_carries .interlocked p s).upd p _).changed p

theorem stopUnsettled_record (p : Pump) (s : State) :
    (stopUnsettled p s).pumps[p] = { s.pumps[p] with state := .unconfirmed, timedOut := some .stop } := by
  have turned : Turned p { s.pumps[p] with state := .unconfirmed, timedOut := some .stop } s (stopUnsettled p s) :=
    Turned.of_changed rfl
  exact turned.settled PumpState.noConfusion PumpState.noConfusion

theorem stopUnsettled_events {back : State} (time : s.time = back.time) (events : s.eventQueue = back.eventQueue) :
    (stopUnsettled p s).eventQueue =
      (logged .stopped (some (houseOf p)) (some p) none (stopCauseOf s p) 3 back).eventQueue := by
  rw [stopUnsettled, pumpChanged_eventQueue]
  exact raisePump_events_of time events _ _ _ _

/-! ### The end of the event -/

theorem OutOfService.aside (h : OutOfService p s) (a : Aside s t) : OutOfService p t := h.of_same a.pumps a.houses

/-- What the end of the event leaves of a refusal, the interlock left as it is. -/
theorem Refuses.ends {x : PumpLive} {told : State} (h : Refuses p x told s v) (queue : QueueHoldsTheQueued s)
    (surveyEnd : s.work.surveyEnd = false) :
    standing (finish v) = standing s ∧ (finish v).pumps[p] = x ∧ p ∉ (finish v).houses[houseOf p].dutyList ∧
      BeginsWith told.eventQueue.records (finish v) ∧ ∀ st, UrgentlyPolled st s → UrgentlyPolled st (finish v) := by
  obtain ⟨same, duty, -⟩ := h.out.finish_stirs (h.queued queue) (h.carries.surveyEnd.trans surveyEnd) .refl
  refine ⟨h.carries.finish_standing, same.trans h.record, duty, ?_, fun st u => (h.urgent st u).finish (h.queued queue)⟩
  rw [← h.events]
  exact finish_records v

theorem UrgentlyPolled.aside {st : Station} (h : UrgentlyPolled st s) (a : Aside s t) : UrgentlyPolled st t := by
  unfold UrgentlyPolled
  rw [a.busQueue, a.flight]
  exact h

/-- What the end of the event leaves of a pump whose stop was refused INTERLOCKED, and the polls asked for (R47, R142). -/
theorem stopInterlocked_ends (p : Pump) (g : House) (queue : QueueHoldsTheQueued s) (surveyEnd : s.work.surveyEnd = false)
    (stopping : s.pumps[p].state = .stopping) :
    unprotected (finish (interlockOn g 1 (urgentPollOf p (stopUnsettled p s)))).pumps[p] =
        unprotected { s.pumps[p] with state := .unconfirmed, timedOut := some .stop } ∧
      (∀ st, UrgentlyPolled st s → UrgentlyPolled st (finish (interlockOn g 1 (urgentPollOf p (stopUnsettled p s))))) ∧
      UrgentlyPolled (stationOf s (houseOf p)) (finish (interlockOn g 1 (urgentPollOf p (stopUnsettled p s)))) := by
  have carries := stopUnsettled_carries p s
  have record := stopUnsettled_record (p := p) (s := s)
  have queued : QueueHoldsTheQueued (urgentPollOf p (stopUnsettled p s)) :=
    (stopRefused_handles .interlocked p s).keeps (by rw [stopping]; exact PumpState.noConfusion) queue
  have asked (st : Station) (h : UrgentlyPolled st s) : UrgentlyPolled st (stopUnsettled p s) :=
    ((h.shed.raised .stopped p _ _).upd p _).changed p
  generalize stopUnsettled p s = u at carries record queued asked
  have ownPolled : UrgentlyPolled (stationOf s (houseOf p)) (urgentPollOf p u) := by
    have served : stationOf u (houseOf p) = stationOf s (houseOf p) := by rw [stationOf, carries.plan, stationOf]
    rw [urgentPollOf, served]
    exact urgentlyPolled_requestUrgent _ u
  have urgent (st : Station) (h : UrgentlyPolled st s) : UrgentlyPolled st (urgentPollOf p u) := (asked st h).requestUrgent _
  have calm : (urgentPollOf p u).work.surveyEnd = false := (carries.urgent _).surveyEnd.trans surveyEnd
  have same : (urgentPollOf p u).pumps[p] = u.pumps[p] := by rw [urgentPollOf, requestUrgent_pumps]
  rw [record] at same
  generalize urgentPollOf p u = v at queued ownPolled urgent calm same
  have aside := interlockTold_aside g 1 v
  have run : Stirs False False (interlockTold g 1 v) (interlockOn g 1 v) := interlockOn_stirs g 1 v
  have start : Starts p False False (interlockTold g 1 v) :=
    ⟨aside.queued queued, aside.surveyEnd.trans calm, False.elim, False.elim⟩
  rw [← aside.pumps] at same
  have polled {st : Station} (h : UrgentlyPolled st v) : UrgentlyPolled st (finish (interlockOn g 1 v)) :=
    ((h.aside aside).stirs run).finish (run.queued start.queue)
  refine ⟨?_, fun st h => polled (urgent st h), polled ownPolled⟩
  rw [← same]
  exact (course_unconfirmed _ p (congrArg PumpLive.state same)).finish_stirs start rfl run

/-- The interlock of a refusal, at the end of the event. -/
theorem interlocked_ends (h : House) (carries : Carries s v) :
    standing (finish (interlockOn h 1 v)) =
        { standing s with protection := s.protection.set h { s.protection[h] with interlock := true } } ∧
      BeginsWith (if v.protection[h].interlock then v
        else logged .interlockOn (some h) none none 1 (stationAddress (stationOf v h)) v).eventQueue.records
        (finish (interlockOn h 1 v)) := by
  have run : Stirs False False (interlockTold h 1 v) (interlockOn h 1 v) := interlockOn_stirs h 1 v
  have written : standing (interlockTold h 1 v) = _ := interlockTold_protected h 1 v
  refine ⟨?_, ?_⟩
  · rw [finish_standing, run.follows.standing, written, carries.standing, carries.protection]
  · rw [BeginsWith, ← interlockTold_events]
    exact run.follows.records.trans (finish_records _)

/-- What the end of the event leaves of a refusal that names the interlock (R142). -/
theorem Refuses.ends_interlocked {x : PumpLive} {told : State} (h : Refuses p x told s v) (queue : QueueHoldsTheQueued s)
    (surveyEnd : s.work.surveyEnd = false) (g : House) :
    (finish (interlockOn g 1 v)).pumps[p] = x ∧ p ∉ (finish (interlockOn g 1 v)).houses[houseOf p].dutyList ∧
      ∀ st, UrgentlyPolled st s → UrgentlyPolled st (finish (interlockOn g 1 v)) := by
  have aside := interlockTold_aside g 1 v
  have run : Stirs False False (interlockTold g 1 v) (interlockOn g 1 v) := interlockOn_stirs g 1 v
  have queued := aside.queued (h.queued queue)
  obtain ⟨same, duty, -⟩ := (h.out.aside aside).finish_stirs queued
    (aside.surveyEnd.trans (h.carries.surveyEnd.trans surveyEnd)) run
  refine ⟨?_, duty, fun st u => (((h.urgent st u).aside aside).stirs run).finish (run.queued queued)⟩
  rw [same, aside.pumps, h.record]

end

/-- The events of a refusal that names the interlock (R142). -/
theorem logLock_events {v told : State} (h : House) (on : Bool) (address : Nat) (interlock : v.protection[h].interlock = on)
    (station : stationAddress (stationOf v h) = address) (time : v.time = told.time) (events : v.eventQueue = told.eventQueue) :
    (if v.protection[h].interlock then v
      else logged .interlockOn (some h) none none 1 (stationAddress (stationOf v h)) v).eventQueue =
      (if on then told else logged .interlockOn (some h) none none 1 address told).eventQueue := by
  rw [interlock, station]
  split
  · exact events
  · exact logged_events_of time events _ _ _ _ _ _

/-- Settles O42: the pump is out of service once the refusal has been taken, and the interlock's own work does not touch
it. -/
theorem orderIsRefused : Obligations.OrderIsRefused := by
  unfold Obligations.OrderIsRefused
  rintro s f st p tag ⟨⟨blank, -⟩, running⟩ waiting queue unit small
  have surveyEnd : s.work.surveyEnd = false := by rw [blank]; rfl
  have heard := heard_busFreed st s
  have delivered (c : OrderKind) (reason : RefuseReason) (request : f.request = .order { pump := p, command := c } tag) :=
    (exec_orderReply_good (out := .refused reason) running waiting request unit small).trans
      (congrArg (fun u => Host.Outcome.next (finish u)) (deliverOrderReply_eq st _ _ _))
  generalize replyHeard st (busFreed s) = u at heard delivered
  intro h r own before back heardPart locked logLock log gone ends
  have queued : QueueHoldsTheQueued u := heard.queued queue
  have closed : u.work.surveyEnd = false := heard.surveyEnd.trans surveyEnd
  have ownPump : u.pumps[p] = s.pumps[p] := by rw [heard.pumps]
  have events : u.eventQueue = back.eventQueue := heard.events
  have time : u.time = back.time := by
    rw [heard.time]
    unfold back
    split <;> rfl
  have stands : standing u = heardPart := heard.standing
  have protection : u.protection = s.protection := heard.protection
  have plan : planOf u = planOf s := heard.plan
  have urgent : before = .silent → UrgentlyPolled st u := heard.urgent
  -- a refusal that leaves the interlock
  have plain {c : OrderKind} {reason : RefuseReason} {x : PumpLive} {told : State}
      (request : f.request = .order { pump := p, command := c } tag)
      (leads : houseOutcome h (.refused reason) (orderOutcome { pump := p, command := c } (.refused reason) u) =
        orderOutcome { pump := p, command := c } (.refused reason) u)
      (refuses : Refuses p x told u (orderOutcome { pump := p, command := c } (.refused reason) u)) :
      ends (BitVec.ofNat 8 (refuseCode reason)) heardPart x told := by
    have runs := delivered c reason request
    have same : houseOutcome (houseOf p) (.refused reason) (orderOutcome { pump := p, command := c } (.refused reason) u) =
      orderOutcome { pump := p, command := c } (.refused reason) u := leads
    obtain ⟨part, record, duty, records, polled⟩ := refuses.ends queued closed
    rw [same] at runs
    exact ⟨_, runs, part.trans stands, record, duty, records, fun silent => polled st (urgent silent)⟩
  -- a refusal that names the interlock
  have locks {v told : State} (carries : Carries u v) (toldTime : told.time = u.time)
      (toldEvents : v.eventQueue = told.eventQueue) :
      standing (finish (interlockOn h 1 v)) = locked ∧
        BeginsWith (logLock told).eventQueue.records (finish (interlockOn h 1 v)) := by
    obtain ⟨part, records⟩ := interlocked_ends h carries
    have lock : v.protection[h].interlock = s.protection[h].interlock := by rw [carries.protection, protection]
    have address : stationAddress (stationOf v h) = stationAddress own := by rw [stationOf, carries.plan, plan]
    have told' := logLock_events h _ _ lock address (carries.time.trans toldTime.symm) toldEvents
    refine ⟨?_, ?_⟩
    · rw [part, stands, protection]
    · rw [told'] at records
      exact records
  refine ⟨fun request ordered => ?_, fun request stopping => ?_⟩
  · have outcome (reason : RefuseReason) : orderOutcome { pump := p, command := .start } (.refused reason) u =
        startRefused reason p u := if_pos (by rw [ownPump]; exact beq_iff_eq.mpr ordered)
    have refuses (reason : RefuseReason) := startRefused_refuses (p := p) (s := u) (by rw [ownPump]; exact ordered)
      reason time events
    rw [ownPump] at refuses
    refine ⟨plain (reason := .localControl) request rfl ?_, plain (reason := .tripped) request rfl ?_, ?_, plain (reason := .unknownPump) request rfl ?_⟩
    · rw [outcome]; exact refuses .localControl
    · rw [outcome]; exact refuses .tripped
    · have runs := delivered .start .interlocked request
      rw [outcome] at runs
      have given := refuses .interlocked
      obtain ⟨record, duty, polled⟩ := given.ends_interlocked queued closed h
      obtain ⟨part, records⟩ := locks (told := startRefusedTold .interlocked p back) given.carries time.symm given.events
      exact ⟨_, runs, part, record, duty, records, fun silent => polled st (urgent silent)⟩
    · rw [outcome]; exact refuses .unknownPump
  · have outcome (reason : RefuseReason) : orderOutcome { pump := p, command := .stop } (.refused reason) u =
        stopRefused reason p u := if_pos (by rw [ownPump]; exact beq_iff_eq.mpr stopping)
    have refuses (reason : RefuseReason) (apart : reason ≠ .interlocked) := stopRefused_refuses (p := p) (s := u)
      (by rw [ownPump]; exact stopping) reason apart time events
    have cause : stopCauseOf u p = (r.stopCause.map stopCauseCode).getD 0 := by rw [stopCauseOf, ownPump]
    rw [ownPump, cause] at refuses
    intro stopped refused
    refine ⟨plain (reason := .localControl) request rfl ?_, plain (reason := .tripped) request rfl ?_, ?_, plain (reason := .unknownPump) request rfl ?_⟩
    · rw [outcome]; exact refuses .localControl RefuseReason.noConfusion
    · rw [outcome]; exact refuses .tripped RefuseReason.noConfusion
    · have runs := delivered .stop .interlocked request
      rw [outcome, stopRefused_interlocked] at runs
      have carries := (stopUnsettled_carries p u).urgent (.station (stationOf (stopUnsettled p u) (houseOf p)))
      obtain ⟨part, records⟩ := locks (told := logged .stopped (some (houseOf p)) (some p) none
        ((r.stopCause.map stopCauseCode).getD 0) 3 back) carries time.symm
        ((requestUrgent_events _ _).trans ((stopUnsettled_events time events).trans
          (congrArg (fun c => (logged .stopped (some (houseOf p)) (some p) none c 3 back).eventQueue) cause)))
      obtain ⟨unconfirmed, polled, ownPolled⟩ := stopInterlocked_ends p h queued closed (by rw [ownPump]; exact stopping)
      rw [ownPump] at unconfirmed
      rw [stationOf, plan] at ownPolled
      exact ⟨_, runs, part, unconfirmed, records, ownPolled, fun silent => polled st (urgent silent)⟩
    · rw [outcome]; exact refuses .unknownPump RefuseReason.noConfusion

end Sys2Proof.Machine
end

section
/-! SUPPORT. A report reconciled with a pump whose pending flags are clear (R50, R51): the record it takes, its events, and
the re-booking of its house; O40. -/

namespace Sys2Proof.Machine

/-! ### No flag that waits -/

/-- A pump with no flag that waits (R53). -/
structure Unflagged (r : PumpLive) : Prop where
  isolate : r.isolatePending = false
  protect : r.protectPending = false
  fault : r.faultPending = none

section
variable {p : Pump} {r x : PumpLive} {s t u told : State}

theorem Unflagged.faultless (h : Unflagged r) : { r with faultPending := none } = r := by
  rw [← h.fault]

theorem Unflagged.goneRecord (h : Unflagged r) (state : PumpState) (fault : Option FaultCause) :
    goneRecord state fault { r with faultPending := none } = outRecord state fault r := by
  rw [h.faultless, Machine.goneRecord, h.isolate]
  rfl

theorem Unflagged.faultedRecord (h : Unflagged r) (c : FaultCause) :
    faultedRecord c r = outRecord .faulted (some c) r := by rw [faultedRecord_gone, h.goneRecord]

theorem Unflagged.localRecord (h : Unflagged r) : localRecord r = outRecord .localControl none r := by
  rw [localRecord_gone, h.goneRecord]

theorem Unflagged.rebooked (h : Unflagged r) (s : State) (k : House) (p : Pump) : Unflagged (rebooked s k p r) := by
  obtain ⟨b, eq, -⟩ := rebooked_booking s k p r
  rw [eq]
  exact ⟨h.isolate, h.protect, h.fault⟩

theorem Unflagged.adopted (h : Unflagged r) (at_ : Nat) : Unflagged (adoptedFields at_ r) :=
  ⟨h.isolate, h.protect, h.fault⟩

theorem Unflagged.undone (h : Unflagged r) : Unflagged (undoneRecord r) := ⟨h.isolate, h.protect, h.fault⟩

theorem actStarted_of_clear (h : Unflagged s.pumps[p]) : actStarted p s = s := by
  unfold actStarted
  exact if_neg (by rw [h.protect, h.fault]; exact Bool.noConfusion)

theorem actStopped_of_clear (h : Unflagged s.pumps[p]) : actStopped p s = s := by
  unfold actStopped
  rw [h.fault]
  exact if_neg (by rw [h.isolate]; exact Bool.noConfusion)

/-! ### A pump that a report moves -/

/-- A pump has taken a record, its house is re-booked, and the Event Queue stands as in `told`. -/
structure Reconciled (p : Pump) (x : PumpLive) (told s t : State) : Prop where
  carries : Carries s t
  sums : SumsHold t
  turned : Turned p x s t
  events : t.eventQueue = told.eventQueue

theorem reconciled_of_changed (carries : Carries s u) (pumps : u.pumps = s.pumps.set p x)
    (events : u.eventQueue = told.eventQueue) : Reconciled p x told s (pumpChanged p u) :=
  ⟨carries.changed p, pumpChanged_sums p u, Turned.of_changed pumps, (pumpChanged_eventQueue p u).trans events⟩

theorem Reconciled.raised (h : Reconciled p x told s t) (time : told.time = s.time) (k : EventKind) (v w : Nat) :
    Reconciled p x (logged k (some (houseOf p)) (some p) none v w told) s (raisePump k p v w t) :=
  ⟨h.carries.raised k p v w, h.sums.of_same rfl rfl, h.turned.congr rfl rfl,
    raisePump_events_of (h.carries.time.trans time.symm) h.events k p v w⟩

theorem Reconciled.unflagged (h : Reconciled p x told s t) (clear : Unflagged x) : Unflagged t.pumps[p] := by
  rw [h.turned.self]
  exact clear.rebooked ..

theorem Reconciled.startActed (h : Reconciled p x told s t) (clear : Unflagged x) :
    Reconciled p x told s (actStarted p t) := by
  rw [actStarted_of_clear (h.unflagged clear)]
  exact h

/-- A report reconciled after other changes of the same pump. -/
theorem Reconciled.after {y : PumpLive} (h : Reconciled p x told u t) (carries : Carries s u)
    (pumps : u.pumps = s.pumps.set p y) : Reconciled p x told s t := by
  refine ⟨carries.trans h.carries, h.sums, fun q => ?_, h.events⟩
  rw [h.turned q]
  split
  · rfl
  · next apart => rw [get_of_set pumps, if_neg apart]

theorem Reconciled.retold {told' : State} (h : Reconciled p x told s t) (same : told.eventQueue = told'.eventQueue) :
    Reconciled p x told' s t := ⟨h.carries, h.sums, h.turned, h.events.trans same⟩

theorem Reconciled.settled (h : Reconciled p x told s t) (running : x.state ≠ .running) (stopping : x.state ≠ .stopping) :
    t.pumps[p] = x := h.turned.settled running stopping

theorem Reconciled.running (h : Reconciled p x told s t) (running : x.state = .running) :
    t.pumps[p] = { x with booking := drawB s p (bookingCount t (houseOf p)) } := by
  rw [h.turned.self, rebooked_drawing rfl (.inl running), drawB_of_banks h.carries.banks]

/-! ### Each report -/

section
variable (clear : Unflagged s.pumps[p])
include clear

theorem reconciled_fault (c : FaultCause) : Reconciled p (outRecord .faulted (some c) s.pumps[p])
    (logged .pumpFault (some (houseOf p)) (some p) none (faultCode c) (faultAlarm c) s) s (faultFromReport p c s) := by
  refine reconciled_of_changed ((Carries.refl s).faulted p c) ?_ (enterFaulted_events p c s)
  rw [enterFaulted_pumps, clear.faultedRecord]

theorem reconciled_local : Reconciled p (outRecord .localControl none s.pumps[p]) s s (localFromReport p s) := by
  refine reconciled_of_changed ((Carries.refl s).localTaken p) ?_ ?_
  · rw [enterLocal_pumps, clear.localRecord]
  · have same := localFromReport_events p s
    rwa [localFromReport, pumpChanged_eventQueue] at same

theorem reconciled_adopt (before : PumpState) : Reconciled p (adoptedFields (now s) s.pumps[p])
    (logged .unexpectedRun (some (houseOf p)) (some p) none (pumpStateCode before)
      (drawB s p (bookingCount (adopt p before s) (houseOf p))) s) s (adopt p before s) := by
  have taken : Reconciled p (adoptedFields (now s) s.pumps[p]) s s
      (pumpChanged p (updPump p (adoptedFields (now s)) (leaveStartQueue p s))) :=
    reconciled_of_changed (((Carries.refl s).unqueued p).upd p _) rfl rfl
  unfold adopt
  dsimp only
  generalize pumpChanged p (updPump p (adoptedFields (now s)) (leaveStartQueue p s)) = t at taken
  have booking : t.pumps[p].booking = drawB s p (bookingCount t (houseOf p)) := by rw [taken.running rfl]
  have told := taken.raised rfl .unexpectedRun (pumpStateCode before) t.pumps[p].booking
  rw [actStarted_of_clear (told.unflagged (clear.adopted _)), booking]
  rw [booking] at told
  exact told

theorem reconciled_rest (k : EventKind) (v w : Nat) :
    Reconciled p (stoppedRecord (now s) (planOf s).pumps[p].minOff s.pumps[p])
      (logged k (some (houseOf p)) (some p) none v w s) s (restWith k v w p s) := by
  refine ⟨restWith_carries k v w p s, pumpChanged_sums p _, restWith_turned k v w p s, ?_⟩
  have entered : (raisePump k p v w (enterRest p s)).pumps[p] =
      restRecord (now s) (planOf s).pumps[p].minOff s.pumps[p] := by
    rw [raisePump, raise_pumps, get_of_set (enterRest_pumps p s), if_pos rfl]
  have told : (raisePump k p v w (enterRest p s)).eventQueue = _ :=
    raisePump_events_of (((Carries.refl s).restEntered p).time) (enterRest_events p s) k p v w
  have passed (t : State) : (passRest p t).eventQueue = t.eventQueue := by
    unfold passRest
    dsimp only
    split <;> rfl
  rw [restWith, settleRest, pumpChanged_eventQueue, passed, actStopped_of_clear, told]
  rw [entered]
  exact ⟨clear.isolate, clear.protect, clear.fault⟩

end

/-- A pump resolved RUN, UNCONFIRMED or LOCAL before (R50, R51). -/
theorem reconciled_run (carries : Carries s u) (pumps : u.pumps = s.pumps.set p x) (events : u.eventQueue = s.eventQueue)
    (flags : Unflagged x) (v w : Nat) :
    Reconciled p x (logged .resolved (some (houseOf p)) (some p) none v w s) s
      (actStarted p (raisePump .resolved p v w (pumpChanged p u))) :=
  ((reconciled_of_changed (told := s) carries pumps events).raised rfl .resolved v w).startActed flags

end

end Sys2Proof.Machine
end

section
/-! SUPPORT. A reported state reconciled with each state of a pump whose pending flags are clear (R50, R51); O40. -/

namespace Sys2Proof.Machine

section
variable {p : Pump} {rep : Reported} {x : PumpLive} {s t u told : State}

/-! ### The report of each state -/

theorem reconcile_idle (h : s.pumps[p].state = .ready ∨ s.pumps[p].state = .rest ∨ s.pumps[p].state = .queued) :
    reconcile p rep s = reportStopped p rep s := by
  unfold reconcile
  rcases h with h | h | h <;> rw [h]

theorem reconcile_ordered (h : s.pumps[p].state = .ordered) : reconcile p rep s = reportOrdered p rep s := by
  unfold reconcile
  rw [h]

theorem reconcile_starting (h : s.pumps[p].state = .starting) : reconcile p rep s = reportStarting p rep s := by
  unfold reconcile
  rw [h]

theorem reconcile_running (h : s.pumps[p].state = .running) : reconcile p rep s = reportRunning p rep s := by
  unfold reconcile
  rw [h]

theorem reconcile_stopping (h : s.pumps[p].state = .stopping) : reconcile p rep s = reportStopping p rep s := by
  unfold reconcile
  rw [h]

theorem reconcile_unconfirmed (h : s.pumps[p].state = .unconfirmed) : reconcile p rep s = resolve p rep s := by
  unfold reconcile
  rw [h]

theorem reconcile_local (h : s.pumps[p].state = .localControl) : reconcile p rep s = reportLocal p rep s := by
  unfold reconcile
  rw [h]

theorem reconcile_faulted (h : s.pumps[p].state = .faulted) : reconcile p rep s = reportFaulted p rep s := by
  unfold reconcile
  rw [h]

theorem reconcile_isolated (h : s.pumps[p].state = .isolated) : reconcile p rep s = reportIsolated p rep s := by
  unfold reconcile
  rw [h]

theorem reconcile_unused (h : s.pumps[p].state = .unused) : reconcile p rep s = s := by
  unfold reconcile
  rw [h]

/-! ### What a report does on the whole -/

/-- What a reconciled report makes of the pumps: it leaves them all, or moves its own pump to another state. -/
inductive Moves (p : Pump) (s t : State) : Prop
  | stays (carries : Carries s t) (pumps : t.pumps = s.pumps) (feeder : t.feeder = s.feeder)
  | moves (x : PumpLive) (told : State) (taken : Reconciled p x told s t) (moved : x.state ≠ s.pumps[p].state)

theorem Moves.refl (p : Pump) (s : State) : Moves p s s := .stays (Carries.refl s) rfl rfl

theorem noteRunning_moves (p : Pump) (before : PumpState) (s : State) : Moves p s (noteRunning p before s) := by
  unfold noteRunning
  split
  · exact Moves.refl p s
  · exact .stays ((Carries.refl s).raised _ p _ _) rfl rfl

theorem Moves.raised (h : Moves p s t) (k : EventKind) (v w : Nat) : Moves p s (raisePump k p v w t) := by
  cases h with
  | stays carries pumps feeder => exact .stays (carries.raised k p v w) pumps feeder
  | moves x told taken moved =>
    exact .moves x (raisePump k p v w t)
      ⟨taken.carries.raised k p v w, taken.sums.of_same rfl rfl, taken.turned.congr rfl rfl, rfl⟩ moved

theorem Moves.after (h : Moves p u t) (carries : Carries s u) (pumps : u.pumps = s.pumps) (feeder : u.feeder = s.feeder) :
    Moves p s t := by
  cases h with
  | stays on same kept => exact .stays (carries.trans on) (same.trans pumps) (kept.trans feeder)
  | moves x told taken moved =>
    rw [pumps] at moved
    exact .moves x told (taken.after carries (pumps.trans (set_same s p))) moved

theorem Moves.carries (h : Moves p s t) : Carries s t := by
  cases h with
  | stays carries => exact carries
  | moves x told taken => exact taken.carries

theorem Moves.sums (h : Moves p s t) (sums : SumsHold s) : SumsHold t := by
  cases h with
  | stays carries pumps feeder => exact sums.of_same pumps feeder
  | moves x told taken => exact taken.sums

/-- Where its own pump moves, the other pumps of its house are re-booked (R87). -/
theorem Moves.others (h : Moves p s t) {q : Pump} (apart : q ≠ p) : t.pumps[q] =
    if t.pumps[p].state ≠ s.pumps[p].state ∧ houseOf q = houseOf p ∧
        (s.pumps[q].state = .running ∨ s.pumps[q].state = .stopping) then
      { s.pumps[q] with booking := drawB s q (bookingCount t (houseOf p)) }
    else s.pumps[q] := by
  cases h with
  | stays carries pumps => rw [pumps, if_neg (by tauto)]
  | moves x told taken moved =>
    have state : t.pumps[p].state ≠ s.pumps[p].state := by
      rw [taken.turned.state, if_pos rfl]
      exact moved
    rw [taken.turned.other (Ne.symm apart), rebooked, drawB_of_banks taken.carries.banks]
    exact if_congr (by tauto) rfl rfl

/-! ### Records -/

theorem stoppedRecord_moved (clear : Unflagged x) (uptime minOff : Nat) :
    (stoppedRecord uptime minOff x).state = .rest ∨ (stoppedRecord uptime minOff x).state = .ready := by
  rcases Nat.eq_zero_or_pos minOff with rfl | later
  · rw [stoppedRecord_ready clear.isolate clear.fault]
    exact .inr rfl
  · rw [stoppedRecord_rest clear.isolate clear.fault later]
    exact .inl rfl

theorem resolvedRunning_state (s : State) (p : Pump) (x : PumpLive) : (resolvedRunning s p x).state = .running := by
  unfold resolvedRunning
  split <;> rfl

theorem resolvedRunning_unflagged (clear : Unflagged x) (s : State) (p : Pump) : Unflagged (resolvedRunning s p x) := by
  unfold resolvedRunning
  split
  · exact ⟨clear.isolate, clear.protect, clear.fault⟩
  · exact clear.adopted _

/-- A record with its permit released (R43). -/
def unpermitted (r : PumpLive) : PumpLive := { r with permit := none, permitRelease := none }

theorem releasePermit_set (p : Pump) (s : State) : (releasePermit p s).pumps = s.pumps.set p (unpermitted s.pumps[p]) :=
  releasePermit_pumps p s

/-! ### Reports, one by one -/

theorem withdrawStart_events (p : Pump) (s : State) : (withdrawStart p s).eventQueue = s.eventQueue :=
  (undoAdmission_events p _).trans rfl

section
variable (clear : Unflagged s.pumps[p])
include clear

theorem unflagged_withdrawn : Unflagged (withdrawStart p s).pumps[p] := by
  rw [get_of_set (withdrawStart_pumps p s), if_pos rfl]
  exact clear.undone

theorem reconciled_resolveRun : Reconciled p (resolvedRunning s p (unpermitted s.pumps[p]))
    (logged .resolved (some (houseOf p)) (some p) none (reportedCode .run) (pumpStateCode .running) s) s
    (resolve p .run s) := by
  have flags : Unflagged (unpermitted s.pumps[p]) := ⟨clear.isolate, clear.protect, clear.fault⟩
  refine reconciled_run (u := updPump p (resolvedRunning s p) (releasePermit p s)) (((Carries.refl s).released p).upd p _) ?_
    (by simp) (resolvedRunning_unflagged flags s p) _ _
  rw [updPump_pumps, releasePermit_set]
  simp

theorem reconciled_localRun : Reconciled p (adoptedFields (now s) s.pumps[p])
    (logged .resolved (some (houseOf p)) (some p) none (reportedCode .run) (pumpStateCode .running) s) s
    (reportLocal p .run s) :=
  reconciled_run (u := updPump p (adoptedFields (now s)) (joinDuty p s))
    (((Carries.refl s).dutyWritten (houseOf p) fun ps => if ps.contains p then ps else ps ++ [p]).upd p _) rfl rfl
    (clear.adopted _) _ _

theorem reconciled_localStop : Reconciled p (stoppedRecord (now s) (planOf s).pumps[p].minOff s.pumps[p])
    (logged .resolved (some (houseOf p)) (some p) none (reportedCode .stop) (pumpStateCode .rest) s) s
    (reportLocal p .stop s) := by
  have carries : Carries s (joinDuty p s) :=
    (Carries.refl s).dutyWritten (houseOf p) fun ps => if ps.contains p then ps else ps ++ [p]
  have rest := reconciled_rest (s := joinDuty p s) clear .resolved (reportedCode .stop) (pumpStateCode .rest)
  exact (rest.after carries (set_same s p)).retold (logged_events_of rfl rfl _ _ _ _ _ _)

theorem reconciled_withdrawnFault (c : FaultCause) :
    Reconciled p (outRecord .faulted (some c) (undoneRecord s.pumps[p]))
      (logged .pumpFault (some (houseOf p)) (some p) none (faultCode c) (faultAlarm c) s) s
      (faultFromReport p c (withdrawStart p s)) := by
  have carries := (Carries.refl s).withdrawnStart p
  have fault := (reconciled_fault (unflagged_withdrawn clear) c).after carries (withdrawStart_pumps p s)
  rw [get_of_set (withdrawStart_pumps p s), if_pos rfl] at fault
  exact fault.retold (logged_events_of carries.time (withdrawStart_events p s) _ _ _ _ _ _)

theorem reconciled_withdrawnLocal :
    Reconciled p (outRecord .localControl none (undoneRecord s.pumps[p])) s s (localFromReport p (withdrawStart p s)) := by
  have gone := (reconciled_local (unflagged_withdrawn clear)).after ((Carries.refl s).withdrawnStart p) (withdrawStart_pumps p s)
  rw [get_of_set (withdrawStart_pumps p s), if_pos rfl] at gone
  exact gone.retold (withdrawStart_events p s)

theorem reconciled_withdrawnAdopt (before : PumpState) :
    Reconciled p (adoptedFields (now s) (undoneRecord s.pumps[p]))
      (logged .unexpectedRun (some (houseOf p)) (some p) none (pumpStateCode before)
        (drawB s p (bookingCount (adopt p before (withdrawStart p s)) (houseOf p))) s) s
      (adopt p before (withdrawStart p s)) := by
  have carries := (Carries.refl s).withdrawnStart p
  have run := (reconciled_adopt (unflagged_withdrawn clear) before).after carries (withdrawStart_pumps p s)
  rw [get_of_set (withdrawStart_pumps p s), if_pos rfl, carries.now, drawB_of_banks carries.banks] at run
  exact run.retold (logged_events_of carries.time (withdrawStart_events p s) _ _ _ _ _ _)

/-! ### Each report on the whole -/

theorem fault_moves (c : FaultCause) (other : s.pumps[p].state ≠ .faulted) : Moves p s (faultFromReport p c s) :=
  .moves _ _ (reconciled_fault clear c) other.symm

theorem local_moves (other : s.pumps[p].state ≠ .localControl) : Moves p s (localFromReport p s) :=
  .moves _ _ (reconciled_local clear) other.symm

theorem adopt_moves (before : PumpState) (other : s.pumps[p].state ≠ .running) : Moves p s (adopt p before s) :=
  .moves _ _ (reconciled_adopt clear before) other.symm

theorem stopped_moves (rest : s.pumps[p].state ≠ .rest) (ready : s.pumps[p].state ≠ .ready) (uptime minOff : Nat) :
    (stoppedRecord uptime minOff s.pumps[p]).state ≠ s.pumps[p].state := fun same => by
  rcases stoppedRecord_moved clear uptime minOff with e | e
  · exact rest (same.symm.trans e)
  · exact ready (same.symm.trans e)

theorem rest_moves (rest : s.pumps[p].state ≠ .rest) (ready : s.pumps[p].state ≠ .ready) (k : EventKind) (v w : Nat) :
    Moves p s (restWith k v w p s) := .moves _ _ (reconciled_rest clear k v w) (stopped_moves clear rest ready _ _)

theorem reportStopped_moves (running : s.pumps[p].state ≠ .running) (faulted : s.pumps[p].state ≠ .faulted)
    (other : s.pumps[p].state ≠ .localControl) : Moves p s (reportStopped p rep s) := by
  cases rep with
  | run =>
    unfold reportStopped
    exact adopt_moves clear s.pumps[p].state running
  | stop => exact Moves.refl p s
  | trip => exact fault_moves clear _ faulted
  | localControl => exact local_moves clear other

theorem reportOrdered_moves (ordered : s.pumps[p].state = .ordered) : Moves p s (reportOrdered p rep s) := by
  have apart {st : PumpState} (h : st ≠ .ordered) : st ≠ s.pumps[p].state := by rwa [ordered]
  cases rep with
  | run => exact .moves _ _ (reconciled_withdrawnAdopt clear .ordered) (apart PumpState.noConfusion)
  | stop => exact Moves.refl p s
  | trip => exact .moves _ _ (reconciled_withdrawnFault clear .stationTrip) (apart PumpState.noConfusion)
  | localControl => exact .moves _ _ (reconciled_withdrawnLocal clear) (apart PumpState.noConfusion)

theorem reportStarting_moves (starting : s.pumps[p].state = .starting) : Moves p s (reportStarting p rep s) := by
  have apart {st : PumpState} (h : PumpState.starting ≠ st) : s.pumps[p].state ≠ st := by rwa [starting]
  cases rep with
  | run => exact Moves.refl p s
  | stop => exact fault_moves clear _ (apart PumpState.noConfusion)
  | trip => exact fault_moves clear _ (apart PumpState.noConfusion)
  | localControl => exact local_moves clear (apart PumpState.noConfusion)

theorem reportRunning_moves (running : s.pumps[p].state = .running) : Moves p s (reportRunning p rep s) := by
  have apart {st : PumpState} (h : PumpState.running ≠ st) : s.pumps[p].state ≠ st := by rwa [running]
  cases rep with
  | run => exact Moves.refl p s
  | stop => exact rest_moves clear (apart PumpState.noConfusion) (apart PumpState.noConfusion) _ _ _
  | trip => exact fault_moves clear _ (apart PumpState.noConfusion)
  | localControl => exact local_moves clear (apart PumpState.noConfusion)

omit clear in
theorem withdrawStop_carries (p : Pump) (s : State) : Carries s (withdrawStop p s) := ((Carries.refl s).withdrawn p).shed

theorem reportStopping_moves (stopping : s.pumps[p].state = .stopping) : Moves p s (reportStopping p rep s) := by
  have withdrawn {t : State} (h : Moves p (withdrawStop p s) t) : Moves p s t := h.after (withdrawStop_carries p s) rfl rfl
  have flags : Unflagged (withdrawStop p s).pumps[p] := clear
  have apart {st : PumpState} (h : PumpState.stopping ≠ st) : (withdrawStop p s).pumps[p].state ≠ st := by
    rw [show (withdrawStop p s).pumps = s.pumps from rfl, stopping]
    exact h
  cases rep with
  | run => exact Moves.refl p s
  | stop => exact withdrawn (rest_moves flags (apart PumpState.noConfusion) (apart PumpState.noConfusion) _ _ _)
  | trip => exact withdrawn (fault_moves flags _ (apart PumpState.noConfusion))
  | localControl => exact withdrawn (local_moves flags (apart PumpState.noConfusion))

theorem resolve_moves (unconfirmed : s.pumps[p].state = .unconfirmed) : Moves p s (resolve p rep s) := by
  have apart {st : PumpState} (h : PumpState.unconfirmed ≠ st) : s.pumps[p].state ≠ st := by rwa [unconfirmed]
  cases rep with
  | run =>
    exact .moves _ _ (reconciled_resolveRun clear) (by rw [resolvedRunning_state]; exact (apart PumpState.noConfusion).symm)
  | stop => exact rest_moves clear (apart PumpState.noConfusion) (apart PumpState.noConfusion) _ _ _
  | trip => exact (fault_moves clear _ (apart PumpState.noConfusion)).raised _ _ _
  | localControl => exact (local_moves clear (apart PumpState.noConfusion)).raised _ _ _

theorem reportLocal_moves (local_ : s.pumps[p].state = .localControl) : Moves p s (reportLocal p rep s) := by
  have apart {st : PumpState} (h : PumpState.localControl ≠ st) : s.pumps[p].state ≠ st := by rwa [local_]
  cases rep with
  | run => exact .moves _ _ (reconciled_localRun clear) (apart PumpState.noConfusion).symm
  | stop =>
    exact .moves _ _ (reconciled_localStop clear) (stopped_moves clear (apart PumpState.noConfusion) (apart PumpState.noConfusion) _ _)
  | trip => exact fault_moves clear _ (apart PumpState.noConfusion)
  | localControl => exact Moves.refl p s

theorem reportFaulted_moves (faulted : s.pumps[p].state = .faulted) : Moves p s (reportFaulted p rep s) := by
  cases rep with
  | run => exact noteRunning_moves p _ s
  | stop => exact Moves.refl p s
  | trip => exact Moves.refl p s
  | localControl => exact (local_moves clear (by rw [faulted]; exact PumpState.noConfusion)).raised _ _ _

omit clear in
theorem reportIsolated_moves (p : Pump) (rep : Reported) (s : State) : Moves p s (reportIsolated p rep s) := by
  cases rep with
  | run => exact noteRunning_moves p _ s
  | stop => exact Moves.refl p s
  | trip => exact Moves.refl p s
  | localControl => exact Moves.refl p s

/-- What a report does on the whole, whatever the pump's state. -/
theorem reconcile_moves (rep : Reported) : Moves p s (reconcile p rep s) := by
  have idle (h : s.pumps[p].state = .ready ∨ s.pumps[p].state = .rest ∨ s.pumps[p].state = .queued) :
      Moves p s (reconcile p rep s) := by
    rw [reconcile_idle h]
    apply reportStopped_moves clear <;> rcases h with h | h | h <;> rw [h] <;> exact PumpState.noConfusion
  cases state : s.pumps[p].state with
  | unused => rw [reconcile_unused state]; exact Moves.refl p s
  | rest => exact idle (.inr (.inl state))
  | ready => exact idle (.inl state)
  | queued => exact idle (.inr (.inr state))
  | ordered => rw [reconcile_ordered state]; exact reportOrdered_moves clear state
  | starting => rw [reconcile_starting state]; exact reportStarting_moves clear state
  | running => rw [reconcile_running state]; exact reportRunning_moves clear state
  | stopping => rw [reconcile_stopping state]; exact reportStopping_moves clear state
  | unconfirmed => rw [reconcile_unconfirmed state]; exact resolve_moves clear state
  | localControl => rw [reconcile_local state]; exact reportLocal_moves clear state
  | faulted => rw [reconcile_faulted state]; exact reportFaulted_moves clear state
  | isolated => rw [reconcile_isolated state]; exact reportIsolated_moves p rep s

end

end

end Sys2Proof.Machine
end

section
/-! SUPPORT. What a reconciled report leaves in the duty list, the Start Queue and the transmit queue (R35, R51), and the
records it makes, spelt as the statement about reports spells them; O40. -/

namespace Sys2Proof.Machine

section
variable {p : Pump} {s t u : State}

/-! ### Out of the Start Queue, the duty list and the transmit queue -/

theorem absent_of_entriesBut (h : t.feeder.queue = entriesBut p s.feeder.queue) : ∀ e ∈ t.feeder.queue, e.pump ≠ p := by
  intro e mem
  rw [h] at mem
  simpa using (List.mem_filter.mp mem).2

/-- An entry of the Start Queue that is gone does not come back while its pump is handled. -/
theorem Handles.absent (h : Handles p s t) (absent : ∀ e ∈ s.feeder.queue, e.pump ≠ p) : ∀ e ∈ t.feeder.queue, e.pump ≠ p := by
  rcases h.queue with same | but
  · rwa [same]
  · exact absent_of_entriesBut but

theorem takeOut_absent (p : Pump) (st : PumpState) (s : State) : ∀ e ∈ (takeOut p st s).feeder.queue, e.pump ≠ p :=
  absent_of_entriesBut (takeOut_queue p s st)

/-- A pump gone from its duty list and the Start Queue (R35). -/
def Gone (p : Pump) (s : State) : Prop := p ∉ s.houses[houseOf p].dutyList ∧ ∀ e ∈ s.feeder.queue, e.pump ≠ p

theorem Gone.raised (h : Gone p s) (k : EventKind) (v w : Nat) : Gone p (raisePump k p v w s) := h

theorem faultFromReport_gone (p : Pump) (c : FaultCause) (s : State) : Gone p (faultFromReport p c s) := by
  refine ⟨(faultFromReport_out p c s).duty, ?_⟩
  have rest : Handles p (takeOut p .faulted s) (faultFromReport p c s) :=
    (((Handles.refl p _).updPump _ (by simp)).raise .pumpFault _ _).trans (actIsolate_handles p _) |>.pumpChanged
  exact rest.absent (takeOut_absent p _ s)

theorem localFromReport_gone (p : Pump) (s : State) : Gone p (localFromReport p s) := by
  refine ⟨(localFromReport_out p s).duty, ?_⟩
  have rest : Handles p (takeOut p .localControl s) (localFromReport p s) :=
    (((Handles.refl p _).updPump _ (by simp)).trans (actIsolate_handles p _)).pumpChanged
  exact rest.absent (takeOut_absent p _ s)

theorem adopt_absent (p : Pump) (before : PumpState) (s : State) : ∀ e ∈ (adopt p before s).feeder.queue, e.pump ≠ p := by
  have rest : Handles p (leaveStartQueue p s) (adopt p before s) := by
    unfold adopt
    dsimp only
    exact ((((Handles.refl p _).updPump _ (by simp [adoptedFields])).pumpChanged).raise _ _ _).trans (actStarted_handles p _)
  exact rest.absent (absent_of_entriesBut rfl)

/-- No order of the pump waits (R158). -/
def NoOrder (p : Pump) (s : State) : Prop := ∀ e ∈ s.bus.queue, ∀ o, e.order = some o → o.pump ≠ p

theorem withdrawOrder_noOrder (p : Pump) (s : State) : NoOrder p (withdrawOrder p s) := by
  rintro e mem o order rfl
  have kept := (List.mem_filter.mp mem).2
  simp [order] at kept

theorem NoOrder.of_bus (h : NoOrder p s) (bus : t.bus = s.bus) : NoOrder p t := by rwa [NoOrder, bus]

theorem withdrawStart_noOrder (p : Pump) (s : State) : NoOrder p (withdrawStart p s) :=
  (withdrawOrder_noOrder p s).of_bus (by simp [withdrawStart, undoAdmission])

theorem faultFromReport_bus (p : Pump) (c : FaultCause) (s : State) : (faultFromReport p c s).bus = s.bus :=
  (pumpChanged_bus p _).trans (enterFaulted_retires p s c).bus

theorem localFromReport_bus (p : Pump) (s : State) : (localFromReport p s).bus = s.bus :=
  (pumpChanged_bus p _).trans (enterLocal_retires p s).bus

theorem actStarted_told (clear : Unflagged u.pumps[p]) (k : EventKind) (v w : Nat) :
    actStarted p (raisePump k p v w (pumpChanged p u)) = raisePump k p v w (pumpChanged p u) := by
  refine actStarted_of_clear ?_
  rw [raisePump, raise_pumps, pumpChanged_get]
  exact clear.rebooked ..

theorem adopt_bus (clear : Unflagged s.pumps[p]) (before : PumpState) : (adopt p before s).bus = s.bus := by
  have flags : Unflagged (updPump p (adoptedFields (now s)) (leaveStartQueue p s)).pumps[p] := by
    rw [updPump_self]
    exact clear.adopted _
  unfold adopt
  dsimp only
  rw [actStarted_told flags, raisePump, raise_bus, pumpChanged_bus]
  rfl

theorem mem_joinDuty (p : Pump) (s : State) : p ∈ (joinDuty p s).houses[houseOf p].dutyList := by
  rw [joinDuty, updHouse_get, if_pos rfl]
  dsimp only
  split
  · next within => simpa using within
  · simp

theorem localRun_duty (clear : Unflagged s.pumps[p]) : p ∈ (reportLocal p .run s).houses[houseOf p].dutyList := by
  have flags : Unflagged (updPump p (adoptedFields (now s)) (joinDuty p s)).pumps[p] := by
    rw [updPump_self]
    exact clear.adopted _
  have joined := mem_joinDuty p s
  unfold reportLocal
  dsimp only
  rw [actStarted_told flags, raisePump, raise_houses, pumpChanged_houses, updPump_houses]
  exact joined

theorem restWith_houses (clear : Unflagged s.pumps[p]) (k : EventKind) (v w : Nat) :
    (restWith k v w p s).houses = s.houses := by
  have entered : (raisePump k p v w (enterRest p s)).pumps[p] =
      restRecord (now s) (planOf s).pumps[p].minOff s.pumps[p] := by
    rw [raisePump, raise_pumps, get_of_set (enterRest_pumps p s), if_pos rfl]
  have flags : Unflagged (raisePump k p v w (enterRest p s)).pumps[p] := by
    rw [entered]
    exact ⟨clear.isolate, clear.protect, clear.fault⟩
  have passed (t : State) : (passRest p t).houses = t.houses := by
    unfold passRest
    dsimp only
    split <;> rfl
  rw [restWith, settleRest, pumpChanged_houses, passed, actStopped_of_clear flags, raisePump, raise_houses]
  simp [enterRest]

theorem restWith_bus (p : Pump) (s : State) (k : EventKind) (v w : Nat) : (restWith k v w p s).bus = s.bus := by
  have acted := (actStopped_retires p (raisePump k p v w (enterRest p s))).bus
  have passed (t : State) : (passRest p t).bus = t.bus := by
    unfold passRest
    dsimp only
    split <;> rfl
  rw [restWith, settleRest, pumpChanged_bus, passed, acted, raisePump, raise_bus]
  simp [enterRest]

theorem localStop_duty (clear : Unflagged s.pumps[p]) : p ∈ (reportLocal p .stop s).houses[houseOf p].dutyList := by
  have joined := mem_joinDuty p s
  have same := restWith_houses (s := joinDuty p s) clear .resolved (reportedCode .stop) (pumpStateCode .rest)
  have is : reportLocal p .stop s =
    restWith .resolved (reportedCode .stop) (pumpStateCode .rest) p (joinDuty p s) := rfl
  rw [is, same]
  exact joined

end

end Sys2Proof.Machine
end

section
/-! SUPPORT. The first half of the statement about reports: a reported state reconciled with each state of a pump; O40. -/

namespace Sys2Proof.Machine

section
variable {p : Pump} {s : State}

/-- The record of a pump at the end of a run, READY where min off is 0 (R38, log 21). -/
theorem stoppedRecord_clear {r : PumpLive} (clear : Unflagged r) (uptime minOff : Nat) : stoppedRecord uptime minOff r =
    if minOff = 0 then { restRecord uptime 0 r with state := .ready, minOffUntil := none }
    else restRecord uptime minOff r := by
  split
  · next zero =>
    subst zero
    exact stoppedRecord_ready clear.isolate clear.fault
  · next later => exact stoppedRecord_rest clear.isolate clear.fault (Nat.pos_of_ne_zero later)

theorem stoppedRecord_settled {r : PumpLive} (clear : Unflagged r) (uptime minOff : Nat) :
    (stoppedRecord uptime minOff r).state ≠ .running ∧ (stoppedRecord uptime minOff r).state ≠ .stopping := by
  rcases stoppedRecord_moved clear uptime minOff with e | e <;> rw [e] <;> decide

/-- Min run from a known start time (R39). -/
theorem minRunOf_some {u : Nat} (start : s.pumps[p].startTime = some u) : minRunOf s p =
    if s.time.uptime < u + (planOf s).pumps[p].minRun then some (u + (planOf s).pumps[p].minRun) else none := by
  rw [minRunOf, start]
  rfl

theorem resolvedRunning_admitted {r : PumpLive} (admittedStart : r.admittedStart = true) : resolvedRunning s p r =
    { r with
      state := .running, timedOut := none, stopCause := none, reachedRunning := true
      minRunUntil := if r.minRunUntil.isSome then r.minRunUntil else if r.reachedRunning then none else minRunOf s p } := by
  rw [resolvedRunning, if_pos admittedStart]
  cases r.minRunUntil <;> rfl

theorem resolvedRunning_adopted {r : PumpLive} (other : r.admittedStart = false) :
    resolvedRunning s p r = adoptedFields (now s) r := by
  rw [resolvedRunning, if_neg (by rw [other]; exact Bool.noConfusion)]

end

end Sys2Proof.Machine
end

section
/-! SUPPORT. What the report of another pump leaves of a pump (R51, R87): its record but for its booking; O40. -/

namespace Sys2Proof.Machine

/-- An event's change of other pumps, seen from a pump: only a RUNNING or STOPPING one is re-booked. -/
structure Bystander (p : Pump) (s t : State) : Prop where
  carries : Carries s t
  unbooked : unbooked t.pumps[p] = unbooked s.pumps[p]
  settled : s.pumps[p].state ≠ .running → s.pumps[p].state ≠ .stopping → t.pumps[p] = s.pumps[p]

section
variable {p q : Pump} {s t u : State}

theorem Bystander.of_pumps (carries : Carries s t) (pumps : t.pumps = s.pumps) : Bystander p s t :=
  ⟨carries, by rw [pumps], fun _ _ => by rw [pumps]⟩

theorem Bystander.refl (p : Pump) (s : State) : Bystander p s s := .of_pumps (Carries.refl s) rfl

theorem Bystander.trans (a : Bystander p s t) (b : Bystander p t u) : Bystander p s u := by
  refine ⟨a.carries.trans b.carries, b.unbooked.trans a.unbooked, fun running stopping => ?_⟩
  have same := a.settled running stopping
  rw [b.settled (by rwa [same]) (by rwa [same]), same]

theorem Bystander.raised (h : Bystander p s t) (k : EventKind) (q : Pump) (v w : Nat) :
    Bystander p s (raisePump k q v w t) := h.trans (.of_pumps ((Carries.refl t).raised k q v w) rfl)

section
variable (apart : q ≠ p)
include apart

theorem Bystander.of_set {r : PumpLive} (carries : Carries s t) (pumps : t.pumps = s.pumps.set q r) : Bystander p s t := by
  have same : t.pumps[p] = s.pumps[p] := by rw [get_of_set pumps, if_neg apart]
  exact ⟨carries, by rw [same], fun _ _ => same⟩

theorem Bystander.turned {r : PumpLive} (carries : Carries s t) (turned : Turned q r s t) : Bystander p s t := by
  refine ⟨carries, ?_, fun running stopping => ?_⟩
  · rw [turned.other apart, unbooked_rebooked]
  · rw [turned.other apart, rebooked_idle running stopping]

theorem issueStop_bystander (c : StopCause) (s : State) : Bystander p s (issueStop c q s) := by
  have carries := (Carries.refl s).stopIssued c q
  have marked (f : PumpLive → PumpLive) : Bystander p s (updPump q f s) := .of_set apart ((Carries.refl s).upd q f) rfl
  have begun : Bystander p s (beginStop c q s) := .turned apart ((Carries.refl s).stopBegun c q) (beginStop_turned c q s)
  unfold issueStop
  split
  case h_1 => exact begun
  case h_2 => exact begun
  case h_3 =>
    split
    · by_cases flies : orderInFlight s q = true
      · rw [protectOrdered, if_pos flies]
        exact marked _
      · exact .turned apart ((Carries.refl s).orderedProtected q) (protectOrdered_turned q s (Bool.eq_false_iff.mpr flies))
    · exact .refl p s
  case h_4 =>
    split
    · exact marked _
    · exact .refl p s
  case h_5 =>
    split
    · exact marked _
    · exact .refl p s
  all_goals exact .refl p s

theorem actStarted_bystander (s : State) : Bystander p s (actStarted q s) := by
  unfold actStarted
  dsimp only
  split
  · exact (Bystander.of_set apart ((Carries.refl s).upd q _) rfl).trans (issueStop_bystander apart _ _)
  · exact .refl p s

theorem Bystander.startActed (h : Bystander p s t) : Bystander p s (actStarted q t) := h.trans (actStarted_bystander apart t)

theorem faultFromReport_bystander (c : FaultCause) (s : State) : Bystander p s (faultFromReport q c s) :=
  .turned apart ((Carries.refl s).faultReported q c) (faultFromReport_turned q c s)

theorem localFromReport_bystander (s : State) : Bystander p s (localFromReport q s) :=
  .turned apart ((Carries.refl s).localReported q) (localFromReport_turned q s)

theorem restWith_bystander (k : EventKind) (v w : Nat) (s : State) : Bystander p s (restWith k v w q s) :=
  .turned apart (restWith_carries k v w q s) (restWith_turned k v w q s)

theorem withdrawStart_bystander (s : State) : Bystander p s (withdrawStart q s) :=
  .of_set apart ((Carries.refl s).withdrawnStart q) (withdrawStart_pumps q s)

theorem changed_bystander {r : PumpLive} (carries : Carries s u) (pumps : u.pumps = s.pumps.set q r) :
    Bystander p s (pumpChanged q u) := .turned apart (carries.changed q) (Turned.of_changed pumps)

theorem adopt_bystander (before : PumpState) (s : State) : Bystander p s (adopt q before s) := by
  unfold adopt
  dsimp only
  exact ((changed_bystander apart (((Carries.refl s).unqueued q).upd q _) rfl).raised _ q _ _).startActed apart

omit apart in
theorem joinDuty_carries (q : Pump) (s : State) : Carries s (joinDuty q s) :=
  (Carries.refl s).dutyWritten (houseOf q) fun ps => if ps.contains q then ps else ps ++ [q]

/-! ### Each report -/

theorem resolve_bystander (rep : Reported) (s : State) : Bystander p s (resolve q rep s) := by
  cases rep with
  | run =>
    have pumps : (updPump q (resolvedRunning s q) (releasePermit q s)).pumps =
        s.pumps.set q (resolvedRunning s q (unpermitted s.pumps[q])) := by
      rw [updPump_pumps, releasePermit_set]
      simp
    unfold resolve
    exact ((changed_bystander apart (((Carries.refl s).released q).upd q _) pumps).raised _ q _ _).startActed apart
  | stop => exact restWith_bystander apart _ _ _ s
  | trip => exact (faultFromReport_bystander apart _ s).raised _ q _ _
  | localControl => exact (localFromReport_bystander apart s).raised _ q _ _

theorem reportStopped_bystander (rep : Reported) (s : State) : Bystander p s (reportStopped q rep s) := by
  unfold reportStopped
  cases rep with
  | run => exact adopt_bystander apart _ s
  | stop => exact .refl p s
  | trip => exact faultFromReport_bystander apart _ s
  | localControl => exact localFromReport_bystander apart s

theorem reportOrdered_bystander (rep : Reported) (s : State) : Bystander p s (reportOrdered q rep s) := by
  have withdrawn := withdrawStart_bystander apart s
  unfold reportOrdered
  cases rep with
  | run => exact withdrawn.trans (adopt_bystander apart _ _)
  | stop => exact .refl p s
  | trip => exact withdrawn.trans (faultFromReport_bystander apart _ _)
  | localControl => exact withdrawn.trans (localFromReport_bystander apart _)

theorem reportStarting_bystander (rep : Reported) (s : State) : Bystander p s (reportStarting q rep s) := by
  unfold reportStarting
  cases rep with
  | run => exact .refl p s
  | stop => exact faultFromReport_bystander apart _ s
  | trip => exact faultFromReport_bystander apart _ s
  | localControl => exact localFromReport_bystander apart s

theorem reportRunning_bystander (rep : Reported) (s : State) : Bystander p s (reportRunning q rep s) := by
  cases rep with
  | run => exact .refl p s
  | stop => exact restWith_bystander apart _ _ _ s
  | trip => exact faultFromReport_bystander apart _ s
  | localControl => exact localFromReport_bystander apart s

theorem reportStopping_bystander (rep : Reported) (s : State) : Bystander p s (reportStopping q rep s) := by
  have withdrawn : Bystander p s (withdrawStop q s) := .of_pumps (withdrawStop_carries q s) rfl
  cases rep with
  | run => exact .refl p s
  | stop => exact withdrawn.trans (restWith_bystander apart _ _ _ _)
  | trip => exact withdrawn.trans (faultFromReport_bystander apart _ _)
  | localControl => exact withdrawn.trans (localFromReport_bystander apart _)

theorem reportLocal_bystander (rep : Reported) (s : State) : Bystander p s (reportLocal q rep s) := by
  have joined : Bystander p s (joinDuty q s) := .of_pumps (joinDuty_carries q s) rfl
  cases rep with
  | run =>
    unfold reportLocal
    exact ((changed_bystander apart ((joinDuty_carries q s).upd q _) rfl).raised _ q _ _).startActed apart
  | stop => exact joined.trans (restWith_bystander apart _ _ _ _)
  | trip => exact faultFromReport_bystander apart _ s
  | localControl => exact .refl p s

omit apart in
theorem noteRunning_bystander (before : PumpState) (s : State) : Bystander p s (noteRunning q before s) := by
  unfold noteRunning
  split
  · exact .refl p s
  · exact (Bystander.refl p s).raised _ q _ _

theorem reportFaulted_bystander (rep : Reported) (s : State) : Bystander p s (reportFaulted q rep s) := by
  cases rep with
  | run => exact noteRunning_bystander _ s
  | stop => exact .refl p s
  | trip => exact .refl p s
  | localControl => exact (localFromReport_bystander apart s).raised _ q _ _

omit apart in
theorem reportIsolated_bystander (rep : Reported) (s : State) : Bystander p s (reportIsolated q rep s) := by
  cases rep with
  | run => exact noteRunning_bystander _ s
  | stop => exact .refl p s
  | trip => exact .refl p s
  | localControl => exact .refl p s

/-- The report of another pump. -/
theorem reconcile_bystander (rep : Reported) (s : State) : Bystander p s (reconcile q rep s) := by
  unfold reconcile
  split
  case h_1 => exact .refl p s
  case h_5 => exact reportOrdered_bystander apart rep s
  case h_6 => exact reportStarting_bystander apart rep s
  case h_7 => exact reportRunning_bystander apart rep s
  case h_8 => exact reportStopping_bystander apart rep s
  case h_9 => exact resolve_bystander apart rep s
  case h_10 => exact reportLocal_bystander apart rep s
  case h_11 => exact reportFaulted_bystander apart rep s
  case h_12 => exact reportIsolated_bystander rep s
  all_goals exact reportStopped_bystander apart rep s

theorem setReported_bystander (rep : Reported) (s : State) :
    (setReported s (q, rep)).pumps[p] = s.pumps[p] := by rw [setReported, updPump_get, if_neg apart]

end

end

end Sys2Proof.Machine
end

section
/-! SUPPORT. A good REPORT with no alarm item, seen from a pump it names: the pump's own entry, the other entries, and what
the house's alarm list and interlock may still make of it; O40. -/

namespace Sys2Proof.Machine

/-! ### The pump entries -/

/-- A record with what was last reported of the pump (R36, R51). -/
def named (rep : Reported) (uptime : Nat) (r : PumpLive) : PumpLive :=
  { r with lastReported := some rep, lastReportedAt := some uptime }

section
variable {p : Pump} {rep : Reported} {s t u : State}

theorem reconcile_fold_bystander (xs : List (Pump × Reported)) (others : ∀ x ∈ xs, x.1 ≠ p) (s : State) :
    Bystander p s (xs.foldl (fun s x => reconcile x.1 x.2 s) s) := by
  induction xs generalizing s with
  | nil => exact .refl p s
  | cons x xs ih =>
    exact (reconcile_bystander (others x List.mem_cons_self) x.2 s).trans (ih (fun y mem => others y (List.mem_cons_of_mem _ mem)) _)

/-- What the last entries of the pumps leave of a state. -/
theorem setReported_fold (xs : List (Pump × Reported)) (s : State) :
    (xs.foldl setReported s).time = s.time ∧ (xs.foldl setReported s).work = s.work ∧
      (xs.foldl setReported s).survey = s.survey := by
  induction xs generalizing s with
  | nil => exact ⟨rfl, rfl, rfl⟩
  | cons x xs ih => exact ih (setReported s x)

theorem setReported_fold_apart (xs : List (Pump × Reported)) (others : ∀ x ∈ xs, x.1 ≠ p) (s : State) :
    (xs.foldl setReported s).pumps[p] = s.pumps[p] := by
  induction xs generalizing s with
  | nil => rfl
  | cons x xs ih =>
    rw [List.foldl_cons, ih (fun y mem => others y (List.mem_cons_of_mem _ mem))]
    exact setReported_bystander (others x List.mem_cons_self) x.2 s

/-- A pump's own entry among those of its house. -/
theorem namedPumps_split {h : House} {entries : List Reported} (mem : (p, rep) ∈ namedPumps s h entries) :
    ∃ before after, namedPumps s h entries = before ++ (p, rep) :: after ∧ (∀ x ∈ before, x.1 ≠ p) ∧ ∀ x ∈ after, x.1 ≠ p := by
  obtain ⟨before, after, eq⟩ := List.append_of_mem mem
  have nodup := namedPumps_nodup s h entries
  rw [eq, List.map_append, List.map_cons, List.nodup_append] at nodup
  obtain ⟨-, own, apart⟩ := nodup
  refine ⟨before, after, eq, fun x within same => ?_, fun x within same => ?_⟩
  · exact apart _ (List.mem_map_of_mem within) _ List.mem_cons_self same
  · exact (List.nodup_cons.mp own).1 (List.mem_map.mpr ⟨x, within, same⟩)

/-- A pump's own entry is reconciled between those of the others, and what was reported is entered then (R51). -/
theorem applyPumpEntries_own {h : House} {entries : List Reported} (awake : s.survey.running = false)
    (mem : (p, rep) ∈ namedPumps s h entries) :
    ∃ a b, Bystander p s a ∧ Bystander p (reconcile p rep a) b ∧
      (applyPumpEntries h entries s).pumps[p] = named rep (now b) b.pumps[p] ∧
      (applyPumpEntries h entries s).work = b.work ∧ (applyPumpEntries h entries s).survey = b.survey := by
  obtain ⟨before, after, eq, first, last⟩ := namedPumps_split mem
  have is : applyPumpEntries h entries s =
      (namedPumps s h entries).foldl setReported ((namedPumps s h entries).foldl (fun s x => reconcile x.1 x.2 s) s) := by
    unfold applyPumpEntries
    rw [awake]
    rfl
  refine ⟨before.foldl (fun s x => reconcile x.1 x.2 s) s, (namedPumps s h entries).foldl (fun s x => reconcile x.1 x.2 s) s,
    reconcile_fold_bystander before first s, ?_, ?_, ?_⟩
  · rw [eq, List.foldl_append, List.foldl_cons]
    exact reconcile_fold_bystander after last _
  · rw [is]
    generalize (namedPumps s h entries).foldl (fun s x => reconcile x.1 x.2 s) s = b
    rw [eq, List.foldl_append, List.foldl_cons, setReported_fold_apart after last, setReported, updPump_self,
      setReported_fold_apart before first, now, (setReported_fold before b).1]
    rfl
  · rw [is]
    obtain ⟨-, work, survey⟩ := setReported_fold (namedPumps s h entries)
      ((namedPumps s h entries).foldl (fun s x => reconcile x.1 x.2 s) s)
    exact ⟨work, survey⟩

/-! ### Behind the pump entries -/

theorem Stir.survey {loose : Prop} (step : Stir False loose s t) : t.survey = s.survey := by
  have start := Carries.refl s
  cases step with
  | quiet quiet => exact quiet.survey
  | stop c q _ => exact (start.stopBegun c q).survey
  | withdraw q _ _ _ => exact (start.orderedProtected q).survey
  | mark q _ => rfl
  | aggravate q _ => rfl
  | queue q _ => exact pumpChanged_survey q _
  | unqueue q _ => exact (start.unqueue q).survey
  | adopt q allowed _ => exact allowed.elim
  | rebook k allowed => exact allowed.elim
  | surveyed allowed => exact allowed.elim

theorem stirs_survey {loose : Prop} (run : Stirs False loose s t) : t.survey = s.survey := by
  induction run with
  | refl => rfl
  | tail _ step ih => exact step.survey.trans ih

/-- A record on a course that no block diverts, in a state whose work has yet to be done. -/
structure Steers (K : PumpLive → Prop) (p : Pump) (s : State) : Prop where
  holds : K s.pumps[p]
  queue : QueueHoldsTheQueued s
  surveyEnd : s.work.surveyEnd = false
  awake : s.survey.running = false

variable {K : PumpLive → Prop}

theorem Steers.aside (h : Steers K p s) (a : Aside s t) : Steers K p t :=
  ⟨by rw [a.pumps]; exact h.holds, a.queued h.queue, a.surveyEnd.trans h.surveyEnd, by rw [a.survey]; exact h.awake⟩

theorem Steers.stirs (h : Steers K p s) (course : ∀ x, Course x p False False K) (run : Stirs False False s t) :
    Steers K p t := by
  have start : Starts p False False s := ⟨h.queue, h.surveyEnd, False.elim, False.elim⟩
  have onCourse : OnCourse s p False K s := ⟨rfl, start.flight, h.holds⟩
  have held := (start.holding onCourse).stirs (course s).kept run
  exact ⟨held.holds.holds, held.queued, held.closed id, by rw [stirs_survey run]; exact h.awake⟩

theorem Steers.finish (h : Steers K p s) (course : ∀ x, Course x p False False K) : K (finish s).pumps[p] :=
  (course s).finish h.holds h.queue h.surveyEnd False.elim False.elim

/-- A REPORT with no alarm item empties the house's list (R128, R131). -/
theorem applyItems_none (h : House) (s : State) : applyItems h [] s =
    if s.protection[h].alarms.any fun _ => true then listChanged h (inhibited s h) (updProtection h (dropAbsent []) s)
    else updProtection h (dropAbsent []) s := by
  have inactive : (s.protection[h].alarms.filter fun e =>
      e.activeAt.isNone && !(s.protection[h].alarms.any fun d => d.code == e.code)) = [] := by
    refine List.filter_eq_nil_iff.mpr fun e mem => ?_
    have within : (s.protection[h].alarms.any fun d => d.code == e.code) = true :=
      List.any_eq_true.mpr ⟨e, mem, beq_self_eq_true e.code⟩
    rw [within]
    simp
  unfold applyItems
  rw [List.foldl_nil]
  dsimp only
  rw [inactive]
  simp only [activateAll, lockouts, List.any_nil, List.isEmpty_nil, List.foldl_nil, List.filter_nil, Bool.not_false,
    Bool.not_true, Bool.or_false]

theorem Steers.items (h : Steers K p s) (course : ∀ x, Course x p False False K) (k : House) :
    Steers K p (applyItems k [] s) := by
  have dropped : Steers K p (updProtection k (dropAbsent []) s) := h.aside ((Aside.refl s).updProtection k _)
  rw [applyItems_none]
  split
  · exact dropped.stirs course (listChanged_stirs k _ _)
  · exact dropped

theorem Steers.interlock (h : Steers K p s) (course : ∀ x, Course x p False False K) (k : House) (flag : Bool) :
    Steers K p (applyInterlock k flag s) := by
  unfold applyInterlock
  split
  · exact (h.aside (interlockTold_aside k 0 s)).stirs course (interlockOn_stirs k 0 s)
  · exact h.aside (interlockOff_aside s k)

end

end Sys2Proof.Machine
end

section
/-! SUPPORT. The record that a reported state makes of a pump whose flags are clear (R50, R51), and the statement about
reports; O40. -/

namespace Sys2Proof.Machine

section
variable {p : Pump} {s : State}

/-- A pump adopted at an uptime, and what a later stop leaves of that (R51). -/
def AdoptedAt (uptime : Nat) (y : PumpLive) : Prop :=
  (y.state = .running ∨ y.state = .stopping) ∧ y.startTime = some uptime ∧ y.admittedStart = false

theorem course_adoptedAt (x : State) (p : Pump) (uptime : Nat) : Course x p False False (AdoptedAt uptime) := by
  have never {y : PumpLive} {st : PumpState} {P : Prop} (h : AdoptedAt uptime y) (e : y.state = st) (running : st ≠ .running)
      (stopping : st ≠ .stopping) : P := by
    subst e
    exact absurd h.1 (not_or.mpr ⟨running, stopping⟩)
  constructor
  · exact fun b h _ => h
  · exact fun c h _ => ⟨.inr rfl, h.2⟩
  · exact fun h e _ _ => never h e PumpState.noConfusion PumpState.noConfusion
  · rintro y h (e | e) <;> exact never h e PumpState.noConfusion PumpState.noConfusion
  · exact fun h _ => h
  · exact fun h e _ => never h e PumpState.noConfusion PumpState.noConfusion
  · exact fun h e => never h e PumpState.noConfusion PumpState.noConfusion
  · exact fun _ _ _ h e _ => never h e PumpState.noConfusion PumpState.noConfusion

theorem reportStopped_run (p : Pump) (s : State) : reportStopped p .run s = adopt p s.pumps[p].state s := rfl

section
variable (clear : Unflagged s.pumps[p])
include clear

theorem reconcile_stop (h : s.pumps[p].state = .running ∨ s.pumps[p].state = .stopping ∨ s.pumps[p].state = .unconfirmed ∨
    s.pumps[p].state = .localControl) :
    (reconcile p .stop s).pumps[p] = stoppedRecord (now s) (planOf s).pumps[p].minOff s.pumps[p] := by
  have settled := stoppedRecord_settled clear (now s) (planOf s).pumps[p].minOff
  have rested (k : EventKind) (v w : Nat) := (reconciled_rest clear k v w).settled settled.1 settled.2
  rcases h with h | h | h | h
  · rw [reconcile_running h]
    exact rested _ _ _
  · rw [reconcile_stopping h]
    exact restWith_record .stopped (stopCauseOf s p) 5 p (withdrawStop p s)
  · rw [reconcile_unconfirmed h]
    exact rested _ _ _
  · rw [reconcile_local h]
    exact (reconciled_localStop clear).settled settled.1 settled.2

theorem reconcile_trip (h : s.pumps[p].state = .ready ∨ s.pumps[p].state = .rest ∨ s.pumps[p].state = .queued ∨
    s.pumps[p].state = .starting ∨ s.pumps[p].state = .running ∨ s.pumps[p].state = .stopping ∨
    s.pumps[p].state = .unconfirmed ∨ s.pumps[p].state = .localControl) :
    (reconcile p .trip s).pumps[p] = outRecord .faulted (some .stationTrip) s.pumps[p] := by
  have faulted (is : reconcile p .trip s = faultFromReport p .stationTrip s) :
      (reconcile p .trip s).pumps[p] = outRecord .faulted (some .stationTrip) s.pumps[p] := by
    rw [is, faultFromReport_record, clear.faultedRecord]
  rcases h with h | h | h | h | h | h | h | h
  · exact faulted (reconcile_idle (.inl h))
  · exact faulted (reconcile_idle (.inr (.inl h)))
  · exact faulted (reconcile_idle (.inr (.inr h)))
  · exact faulted (reconcile_starting h)
  · exact faulted (reconcile_running h)
  · rw [reconcile_stopping h]
    exact (faultFromReport_record p .stationTrip (withdrawStop p s)).trans (clear.faultedRecord _)
  · have is : reconcile p .trip s = raisePump .resolved p (reportedCode .trip) (pumpStateCode .faulted)
        (faultFromReport p .stationTrip s) := reconcile_unconfirmed h
    rw [is, raisePump, raise_pumps, faultFromReport_record, clear.faultedRecord]
  · exact faulted (reconcile_local h)

theorem reconcile_local_record (h : s.pumps[p].state = .ready ∨ s.pumps[p].state = .rest ∨ s.pumps[p].state = .queued ∨
    s.pumps[p].state = .starting ∨ s.pumps[p].state = .running ∨ s.pumps[p].state = .stopping ∨
    s.pumps[p].state = .unconfirmed ∨ s.pumps[p].state = .faulted) :
    (reconcile p .localControl s).pumps[p] = outRecord .localControl none s.pumps[p] := by
  have gone (is : reconcile p .localControl s = localFromReport p s) :
      (reconcile p .localControl s).pumps[p] = outRecord .localControl none s.pumps[p] := by
    rw [is, localFromReport_record, clear.localRecord]
  have resolved (is : reconcile p .localControl s =
      raisePump .resolved p (reportedCode .localControl) (pumpStateCode .localControl) (localFromReport p s)) :
      (reconcile p .localControl s).pumps[p] = outRecord .localControl none s.pumps[p] := by
    rw [is, raisePump, raise_pumps, localFromReport_record, clear.localRecord]
  rcases h with h | h | h | h | h | h | h | h
  · exact gone (reconcile_idle (.inl h))
  · exact gone (reconcile_idle (.inr (.inl h)))
  · exact gone (reconcile_idle (.inr (.inr h)))
  · exact gone (reconcile_starting h)
  · exact gone (reconcile_running h)
  · rw [reconcile_stopping h]
    exact (localFromReport_record p (withdrawStop p s)).trans clear.localRecord
  · exact resolved (reconcile_unconfirmed h)
  · exact resolved (reconcile_faulted h)

theorem reconcile_trip_ordered (h : s.pumps[p].state = .ordered) : (reconcile p .trip s).pumps[p] =
    outRecord .faulted (some .stationTrip) (undoneRecord s.pumps[p]) := by
  rw [reconcile_ordered h]
  exact (reconciled_withdrawnFault clear .stationTrip).settled PumpState.noConfusion PumpState.noConfusion

theorem reconcile_startFailed (h : s.pumps[p].state = .starting) : (reconcile p .stop s).pumps[p] =
    outRecord .faulted (some .startFailed) s.pumps[p] := by
  rw [reconcile_starting h]
  exact (reconciled_fault clear .startFailed).settled PumpState.noConfusion PumpState.noConfusion

theorem reconcile_run (h : s.pumps[p].state = .ready ∨ s.pumps[p].state = .rest ∨ s.pumps[p].state = .queued ∨
    s.pumps[p].state = .localControl ∨ s.pumps[p].state = .ordered) : AdoptedAt (now s) (reconcile p .run s).pumps[p] := by
  have adopted {r : PumpLive} {told t : State} (taken : Reconciled p (adoptedFields (now s) r) told s t) :
      AdoptedAt (now s) t.pumps[p] := by
    rw [taken.running rfl]
    exact ⟨.inl rfl, rfl, rfl⟩
  have idle (h : s.pumps[p].state = .ready ∨ s.pumps[p].state = .rest ∨ s.pumps[p].state = .queued) :
      AdoptedAt (now s) (reconcile p .run s).pumps[p] := by
    rw [reconcile_idle h, reportStopped_run]
    exact adopted (reconciled_adopt clear s.pumps[p].state)
  rcases h with h | h | h | h | h
  · exact idle (.inl h)
  · exact idle (.inr (.inl h))
  · exact idle (.inr (.inr h))
  · rw [reconcile_local h]
    exact adopted (reconciled_localRun clear)
  · rw [reconcile_ordered h]
    exact adopted (reconciled_withdrawnAdopt clear .ordered)

end

/-! ### The whole REPORT -/

theorem AdoptedAt.unbooked {uptime : Nat} {y r : PumpLive} (same : unbooked y = unbooked r) (h : AdoptedAt uptime r) :
    AdoptedAt uptime y := by
  have state := unbooked_state same
  have start : y.startTime = r.startTime := (congrArg PumpLive.startTime same :)
  have admittedStart : y.admittedStart = r.admittedStart := (congrArg PumpLive.admittedStart same :)
  unfold AdoptedAt
  rw [state, start, admittedStart]
  exact h

theorem AdoptedAt.named {rep : Reported} {at_ uptime : Nat} {r : PumpLive} (h : AdoptedAt uptime r) :
    AdoptedAt uptime (named rep at_ r) := h

/-! ### Records that end a booking -/

theorem restRecord_unbooked {y r : PumpLive} (same : unbooked y = unbooked r) (uptime minOff : Nat) :
    restRecord uptime minOff y = restRecord uptime minOff r :=
  (congrArg (restRecord uptime minOff) same :)

theorem outRecord_unbooked {y r : PumpLive} (same : unbooked y = unbooked r) (state : PumpState) (fault : Option FaultCause) :
    outRecord state fault y = outRecord state fault r := (congrArg (outRecord state fault) same :)

theorem outRecord_undone {y r : PumpLive} (same : unbooked y = unbooked r) (state : PumpState) (fault : Option FaultCause) :
    outRecord state fault (undoneRecord y) = outRecord state fault (unadmitted r) :=
  (congrArg (fun z => outRecord state fault (unadmitted z)) same :)

/-- A pump whose course is kept stays as its own entry left it, where it is parked then. -/
theorem parked_named {rep : Reported} {uptime : Nat} {z w y : PumpLive} (same : z = w) (parked : Parked w)
    (course : ∀ {K : PumpLive → Prop}, (∀ x, Course x p False False K) → K (named rep uptime z) → K y) :
    y = named rep uptime w := by
  subst same
  have kept : Parked (named rep uptime z) := parked
  exact course (fun x => course_parked x p kept) rfl

/-- A REPORT behind its pump entries (R128, R131, R141, R151). -/
theorem Steers.delivered {K : PumpLive → Prop} {st : Station} {x : Report} {h : House}
    (steers : Steers K p (entriesTaken h st x s)) (course : ∀ y, Course y p False False K)
    (served : (planOf s).servedHouse st = some h) (items : x.alarms = []) : K (Machine.finish (deliverReport st x s)).pumps[p] := by
  have taken : Steers K p (contentsTaken st x s) := by
    rw [contentsTaken_some x served, items]
    exact (steers.items course _).interlock course _ _
  have still : leaveAwaited st true (contentsTaken st x s) = contentsTaken st x s := by
    rw [leaveAwaited, taken.awake]
    rfl
  rw [deliverReport_eq, still]
  exact (taken.aside (setPollDue_aside _ _)).finish course

/-- What a good REPORT with no alarm item makes of a pump it names: its own entry is reconciled with its record but for its
booking, and what is left stays on its course (R51, R131, R141). -/
theorem report_own {st : Station} {x : Report} {rep : Reported} (blank : s.work.surveyEnd = false)
    (queue : QueueHoldsTheQueued s) (awake : s.survey.running = false) (items : x.alarms = [])
    (served : (planOf s).servedHouse st = some (houseOf p)) (counted : positionOf p < (planOf s).houses[houseOf p].pumpCount)
    (entry : x.pumps[positionOf p]? = some rep) (clear : Unflagged s.pumps[p]) :
    ∃ a, unbooked a.pumps[p] = unbooked s.pumps[p] ∧ now a = now s ∧ planOf a = planOf s ∧
      (Parked (reconcile p rep a).pumps[p] →
        (finish (deliverReport st x s)).pumps[p] = named rep (now s) (reconcile p rep a).pumps[p]) ∧
      ∀ uptime, AdoptedAt uptime (reconcile p rep a).pumps[p] →
        AdoptedAt uptime (finish (deliverReport st x s)).pumps[p] := by
  have aside : Aside s (levelled st x s) := (goodReply_aside s st).trans (applyLevels_aside _ st _)
  have keeps := levelled_keeps st x s
  have uptime : now (levelled st x s) = now s := keeps.uptime
  have plan : planOf (levelled st x s) = planOf s := keeps.plan
  have mem : (p, rep) ∈ namedPumps (levelled st x s) (houseOf p) x.pumps :=
    mem_namedPumps rfl (by rw [plan]; exact counted) entry
  obtain ⟨a, b, before, after, own, work, survey⟩ := applyPumpEntries_own (by rw [aside.survey]; exact awake) mem
  clear mem entry counted
  have queued := (aside.queued queue).applyPumpEntries (houseOf p) x.pumps
  rw [← entriesTaken] at own work survey queued
  have record : unbooked a.pumps[p] = unbooked s.pumps[p] := by rw [before.unbooked, aside.pumps]
  have flags : Unflagged a.pumps[p] := ⟨(congrArg PumpLive.isolatePending record).trans clear.isolate,
    (congrArg PumpLive.protectPending record).trans clear.protect, (congrArg PumpLive.faultPending record).trans clear.fault⟩
  have reconciled : Carries a (reconcile p rep a) := (reconcile_moves flags rep).carries
  have carries := (before.carries.trans reconciled).trans after.carries
  have closed : (entriesTaken (houseOf p) st x s).work.surveyEnd = false := by
    rw [work, carries.surveyEnd, aside.surveyEnd, blank]
  have asleep : (entriesTaken (houseOf p) st x s).survey.running = false := by
    rw [survey, carries.survey, aside.survey, awake]
  have course {K : PumpLive → Prop} (course : ∀ y, Course y p False False K) (holds : K (named rep (now s) b.pumps[p])) :
      K (finish (deliverReport st x s)).pumps[p] := by
    have steers : Steers K p (entriesTaken (houseOf p) st x s) :=
      ⟨by rw [own, carries.now, uptime]; exact holds, queued, closed, asleep⟩
    exact steers.delivered course served items
  refine ⟨a, record, before.carries.now.trans uptime, before.carries.plan.trans plan, fun parked => ?_, fun u adopted => ?_⟩
  · exact parked_named (after.settled parked.ne.2.2.2.2.1 parked.ne.2.2.2.2.2.1) parked course
  · exact course (fun y => course_adoptedAt y p u) (adopted.unbooked after.unbooked).named

end

end Sys2Proof.Machine
end

section
/-! SUPPORT. The statement about reports; O40. -/

namespace Sys2Proof.Machine

/-- Settles O40: each report is one operation on its pump, and what the REPORT's further work leaves of the pump is the record's
course. -/
theorem reportsAreReconciled : Obligations.ReportsAreReconciled := by
  unfold Obligations.ReportsAreReconciled
  refine ⟨?_, ?_⟩
  · intro s p rep isolate protect fault
    have clear : Unflagged s.pumps[p] := ⟨isolate, protect, fault⟩
    have whole := reconcile_moves clear rep
    intro h r uptime plan t booked log becomes running undone rested faulted local_ tripped resolved noOrder out
    have settles {x : PumpLive} {told : State} (taken : Reconciled p x told s t) (run : x.state ≠ .running)
        (stop : x.state ≠ .stopping) : becomes x told := ⟨taken.settled run stop, taken.events⟩
    have runs {x : PumpLive} {told : State} (taken : Reconciled p x told s t) (run : x.state = .running) :
        becomes { x with booking := booked } told := ⟨taken.running run, taken.events⟩
    have faults {x : PumpLive} {told : State} {c : FaultCause} (taken : Reconciled p (outRecord .faulted (some c) x) told s t) :
        becomes (outRecord .faulted (some c) x) told := settles taken PumpState.noConfusion PumpState.noConfusion
    have leaves {x : PumpLive} {told : State} (taken : Reconciled p (outRecord .localControl none x) told s t) :
        becomes (outRecord .localControl none x) told := settles taken PumpState.noConfusion PumpState.noConfusion
    have rests {told : State} (taken : Reconciled p (stoppedRecord uptime plan.minOff r) told s t) : becomes rested told := by
      have settled := stoppedRecord_settled clear uptime plan.minOff
      have record : stoppedRecord uptime plan.minOff r = rested := stoppedRecord_clear clear uptime plan.minOff
      rw [← record]
      exact settles taken settled.1 settled.2
    have faultCase (c : FaultCause) (same : t = faultFromReport p c s) :
        becomes (faulted c) (log .pumpFault (faultCode c) (faultAlarm c) s) ∧ out := by
      have taken := reconciled_fault clear c
      have gone := faultFromReport_gone p c s
      rw [← same] at taken gone
      exact ⟨faults taken, gone⟩
    have localCase (same : t = localFromReport p s) : becomes local_ s ∧ out := by
      have taken := reconciled_local clear
      have gone := localFromReport_gone p s
      rw [← same] at taken gone
      exact ⟨leaves taken, gone⟩
    have restCase (k : EventKind) (v w : Nat) (same : t = restWith k v w p s) : becomes rested (log k v w s) := by
      have taken := reconciled_rest clear k v w
      rw [← same] at taken
      exact rests taken
    have noteCase (same : t = noteRunning p r.state s) : (r.lastReported = some .run → t = s) ∧
        (r.lastReported ≠ some .run → becomes r (log .unexpectedRun (pumpStateCode r.state) 0 s)) := by
      refine ⟨fun before => ?_, fun before => ?_⟩
      · rw [same, noteRunning, if_pos (beq_iff_eq.mpr before)]
      · rw [noteRunning, if_neg (mt beq_iff_eq.mp before)] at same
        refine ⟨?_, ?_⟩ <;> rw [same] <;> rfl
    refine ⟨whole.carries.standing, whole.sums, fun q apart => whole.others apart, fun idle => ?_, fun ordered => ?_,
      fun starting => ?_, fun moving => ?_, fun stopping => ?_, fun unconfirmed => ?_, fun held => ?_, fun gone => ?_,
      fun unused => reconcile_unused unused⟩
    · have is : t = reportStopped p rep s := reconcile_idle (by tauto)
      refine ⟨?_, ?_, ?_, ?_⟩ <;> rintro rfl
      · have same : t = adopt p r.state s := is
        have taken := reconciled_adopt clear r.state
        have absent := adopt_absent p r.state s
        rw [← same] at taken absent
        exact ⟨runs taken rfl, absent⟩
      · exact is
      · exact faultCase .stationTrip is
      · exact localCase is
    · have is : t = reportOrdered p rep s := reconcile_ordered ordered
      have waits := withdrawStart_noOrder p s
      refine ⟨?_, ?_, ?_, ?_⟩ <;> rintro rfl
      · have same : t = adopt p .ordered (withdrawStart p s) := is
        have taken := reconciled_withdrawnAdopt clear .ordered
        have bus := adopt_bus (unflagged_withdrawn clear) .ordered
        rw [← same] at taken bus
        exact ⟨runs taken rfl, waits.of_bus bus⟩
      · exact is
      · have same : t = faultFromReport p .stationTrip (withdrawStart p s) := is
        have taken := reconciled_withdrawnFault clear .stationTrip
        have gone := faultFromReport_gone p .stationTrip (withdrawStart p s)
        have bus := faultFromReport_bus p .stationTrip (withdrawStart p s)
        rw [← same] at taken gone bus
        exact ⟨faults taken, gone, waits.of_bus bus⟩
      · have same : t = localFromReport p (withdrawStart p s) := is
        have taken := reconciled_withdrawnLocal clear
        have gone := localFromReport_gone p (withdrawStart p s)
        have bus := localFromReport_bus p (withdrawStart p s)
        rw [← same] at taken gone bus
        exact ⟨leaves taken, gone, waits.of_bus bus⟩
    · have is : t = reportStarting p rep s := reconcile_starting starting
      refine ⟨?_, ?_, ?_, ?_⟩ <;> rintro rfl
      · exact is
      · exact faultCase .startFailed is
      · exact faultCase .stationTrip is
      · exact localCase is
    · have is : t = reportRunning p rep s := reconcile_running moving
      refine ⟨?_, ?_, ?_, ?_⟩
      · rintro rfl
        exact is
      · rintro u rfl start
        have since : sinceStart s p = uptime - u := by rw [sinceStart, start]; rfl
        rw [← since]
        exact restCase .unexpectedStop _ _ is
      · rintro rfl
        exact faultCase .stationTrip is
      · rintro rfl
        exact localCase is
    · have is : t = reportStopping p rep s := reconcile_stopping stopping
      have carries := withdrawStop_carries p s
      have waits : NoOrder p (withdrawStop p s) := (withdrawOrder_noOrder p s).of_bus rfl
      refine ⟨?_, ?_, ?_, ?_⟩
      · rintro rfl
        exact is
      · rintro cause rfl stop
        have same : t = restWith .stopped (stopCauseOf s p) 5 p (withdrawStop p s) := is
        have taken := (reconciled_rest (s := withdrawStop p s) clear .stopped (stopCauseOf s p) 5).after carries (set_same s p)
        have bus := restWith_bus p (withdrawStop p s) .stopped (stopCauseOf s p) 5
        have code : stopCauseOf s p = stopCauseCode cause := by rw [stopCauseOf, stop]; rfl
        rw [← same] at taken bus
        rw [← code]
        exact ⟨rests (taken.retold rfl), waits.of_bus bus⟩
      · rintro rfl
        have same : t = faultFromReport p .stationTrip (withdrawStop p s) := is
        have taken := (reconciled_fault (s := withdrawStop p s) clear .stationTrip).after carries (set_same s p)
        have gone := faultFromReport_gone p .stationTrip (withdrawStop p s)
        have bus := faultFromReport_bus p .stationTrip (withdrawStop p s)
        rw [← same] at taken gone bus
        exact ⟨faults (x := r) (taken.retold rfl), gone, waits.of_bus bus⟩
      · rintro rfl
        have same : t = localFromReport p (withdrawStop p s) := is
        have taken := (reconciled_local (s := withdrawStop p s) clear).after carries (set_same s p)
        have gone := localFromReport_gone p (withdrawStop p s)
        have bus := localFromReport_bus p (withdrawStop p s)
        rw [← same] at taken gone bus
        exact ⟨leaves (x := r) (taken.retold rfl), gone, waits.of_bus bus⟩
    · have is : t = resolve p rep s := reconcile_unconfirmed unconfirmed
      refine ⟨?_, ?_, ?_, ?_, ?_⟩
      · rintro rfl other
        have taken := reconciled_resolveRun clear
        have same : t = resolve p .run s := is
        rw [← same, resolvedRunning_adopted (r := unpermitted s.pumps[p]) other] at taken
        exact runs taken rfl
      · rintro u rfl admittedStart start
        have taken := reconciled_resolveRun clear
        have same : t = resolve p .run s := is
        rw [← same, resolvedRunning_admitted (r := unpermitted s.pumps[p]) admittedStart, minRunOf_some start] at taken
        exact runs taken rfl
      · rintro rfl
        exact restCase .resolved _ _ is
      · rintro rfl
        have taken := (reconciled_fault clear .stationTrip).raised rfl .resolved (reportedCode .trip) (pumpStateCode .faulted)
        have gone := (faultFromReport_gone p .stationTrip s).raised .resolved (reportedCode .trip) (pumpStateCode .faulted)
        have same : t = raisePump .resolved p (reportedCode .trip) (pumpStateCode .faulted) (faultFromReport p .stationTrip s) := is
        rw [← same] at taken gone
        exact ⟨faults taken, gone⟩
      · rintro rfl
        have taken := (reconciled_local clear).raised rfl .resolved (reportedCode .localControl) (pumpStateCode .localControl)
        have gone := (localFromReport_gone p s).raised .resolved (reportedCode .localControl) (pumpStateCode .localControl)
        have same : t = raisePump .resolved p (reportedCode .localControl) (pumpStateCode .localControl) (localFromReport p s) := is
        rw [← same] at taken gone
        exact ⟨leaves taken, gone⟩
    · have is : t = reportLocal p rep s := reconcile_local held
      refine ⟨?_, ?_, ?_, ?_⟩ <;> rintro rfl
      · have taken := reconciled_localRun clear
        have duty := localRun_duty clear
        rw [← is] at taken duty
        exact ⟨runs taken rfl, duty⟩
      · have taken := reconciled_localStop clear
        have duty := localStop_duty clear
        rw [← is] at taken duty
        exact ⟨rests taken, duty⟩
      · exact (faultCase .stationTrip is).1
      · exact is
    · have isFaulted (state : r.state = .faulted) : t = reportFaulted p rep s := reconcile_faulted state
      have isIsolated (state : r.state = .isolated) : t = reportIsolated p rep s := reconcile_isolated state
      have noted (run : rep = .run) : t = noteRunning p r.state s := by
        rcases gone with state | state
        · rw [isFaulted state, run, state]; rfl
        · rw [isIsolated state, run, state]; rfl
      refine ⟨fun run => (noteCase (noted run)).1, fun run => (noteCase (noted run)).2, ?_, ?_, ?_⟩
      · intro idle
        rcases gone with state | state
        · rw [isFaulted state]
          rcases idle with rfl | rfl <;> rfl
        · rw [isIsolated state]
          rcases idle with rfl | rfl <;> rfl
      · rintro rfl state
        have taken := (reconciled_local clear).raised rfl .resolved (reportedCode .localControl) (pumpStateCode .localControl)
        have same : t = raisePump .resolved p (reportedCode .localControl) (pumpStateCode .localControl) (localFromReport p s) :=
          isFaulted state
        rw [← same] at taken
        exact leaves taken
      · rintro rfl state
        exact isIsolated state
  · intro s f st body x p rep settled queue waiting request unit parsed items asleep served counted entry isolate protect fault
    obtain ⟨⟨blank, -⟩, running⟩ := settled
    intro r uptime minOff named moving waits
    have clear : Unflagged r := ⟨isolate, protect, fault⟩
    have surveyEnd : s.work.surveyEnd = false := by rw [blank]; rfl
    have runs := exec_report_good running waiting request unit parsed
    obtain ⟨a, same, time, plan, parks, adopts⟩ := report_own (s := busFreed s) (st := st) surveyEnd (queue.of_same rfl rfl) asleep
      items served counted entry clear
    have state : a.pumps[p].state = r.state := unbooked_state same
    have flags : Unflagged a.pumps[p] := ⟨(congrArg PumpLive.isolatePending same :).trans isolate,
      (congrArg PumpLive.protectPending same :).trans protect, (congrArg PumpLive.faultPending same :).trans fault⟩
    have minOff_a : (planOf a).pumps[p].minOff = minOff := by rw [plan]; rfl
    refine ⟨_, runs, ?_, ?_, ?_, ?_, ?_, ?_⟩
    · rintro rfl moved later
      have record := reconcile_stop flags (by rw [state]; exact moved)
      rw [minOff_a, stoppedRecord_rest flags.isolate flags.fault later, restRecord_unbooked same, time] at record
      rw [parks (by rw [record]; exact .inr (.inl rfl)), record]
      rfl
    · rintro rfl starting
      have record := reconcile_startFailed flags (state.trans starting)
      rw [outRecord_unbooked same] at record
      rw [parks (by rw [record]; exact .inr (.inr (.inr (.inl rfl)))), record]
      rfl
    · rintro rfl moved
      have record := reconcile_trip flags (by rw [state]; simpa only [waits, moving, or_assoc] using moved)
      rw [outRecord_unbooked same] at record
      rw [parks (by rw [record]; exact .inr (.inr (.inr (.inl rfl)))), record]
      rfl
    · rintro rfl ordered
      have record := reconcile_trip_ordered flags (state.trans ordered)
      rw [outRecord_undone same] at record
      rw [parks (by rw [record]; exact .inr (.inr (.inr (.inl rfl)))), record]
      rfl
    · rintro rfl moved
      have record := reconcile_local_record flags (by rw [state]; simpa only [waits, moving, or_assoc] using moved)
      rw [outRecord_unbooked same] at record
      rw [parks (by rw [record]; exact .inr (.inr (.inl rfl))), record]
      rfl
    · rintro rfl moved
      have adopted := reconcile_run flags (by rw [state]; simpa only [waits, moving, or_assoc] using moved)
      rw [time] at adopted
      exact adopts uptime adopted

end Sys2Proof.Machine
end

section
/-! SUPPORT. A pump's place in its house's duty list through the work of an event (R56): only a pump that an admission of the
event moves to the back comes to stand behind it. -/

namespace Sys2Proof.Machine

/-! ### What a step makes of a duty list -/

section
variable {p q : Pump} {s t : State}

/-- A house's duty list after a step: as it was, or without a pump that has been taken out of service. -/
def DutyBut (h : House) (s t : State) : Prop :=
  t.houses[h].dutyList = s.houses[h].dutyList ∨
    ∃ q : Pump, t.houses[h].dutyList = (s.houses[h].dutyList.filter fun d => d != q) ∧
      (t.pumps[q].state = .faulted ∨ t.pumps[q].state = .isolated)

theorem DutyBut.of_houses {h : House} (houses : t.houses = s.houses) : DutyBut h s t := .inl (by rw [houses])

theorem Retires.dutyBut (r : Retires q s t) (h : House) (state : t.houses = s.houses ∨
    (t.pumps[q].state = .faulted ∨ t.pumps[q].state = .isolated)) : DutyBut h s t := by
  rcases state with same | out
  · exact .of_houses same
  · rcases r.houses with e | e
    · exact .of_houses e
    · by_cases own : houseOf q = h
      · subst own
        refine .inr ⟨q, ?_, out⟩
        rw [e, leaveDuty, updHouse_get, if_pos rfl]
      · refine .inl ?_
        rw [e, leaveDuty, updHouse_get, if_neg own]

/-- Flags acted on take a pump out of service, or leave everything as it is (R53). -/
theorem actStopped_leaves (q : Pump) (s : State) : actStopped q s = s ∨
    ((actStopped q s).pumps[q].state = .faulted ∨ (actStopped q s).pumps[q].state = .isolated) := by
  have record : (actStopped q s).pumps[q] = stopActed s.pumps[q] := by rw [get_of_set (actStopped_pumps q s), if_pos rfl]
  rw [record]
  cases fault : s.pumps[q].faultPending with
  | some c =>
    have acted : stopActed s.pumps[q] = faultedRecord c s.pumps[q] := by
      unfold stopActed
      rw [fault]
    right
    rw [acted, faultedRecord_gone, goneRecord]
    split
    · exact .inr rfl
    · exact .inl rfl
  | none =>
    cases isolate : s.pumps[q].isolatePending with
    | true =>
      have acted : stopActed s.pumps[q] = isolateActed s.pumps[q] := by
        unfold stopActed
        rw [fault]
      right
      rw [acted, isolateActed_of_pending isolate]
      exact .inr rfl
    | false =>
      left
      unfold actStopped
      rw [fault]
      exact if_neg (by rw [isolate]; exact Bool.noConfusion)

theorem actStopped_dutyBut {u : State} (houses : u.houses = s.houses) (h : House) :
    DutyBut h s (pumpChanged q (actStopped q u)) := by
  have changed := pumpChanged_houses q (actStopped q u)
  have states := pumpChanged_states q (actStopped q u)
  have acted : DutyBut h u (actStopped q u) :=
    (actStopped_retires q u).dutyBut h ((actStopped_leaves q u).imp_left fun e => by rw [e])
  rcases acted with same | ⟨d, but, out⟩
  · exact .inl (by rw [changed, same, houses])
  · exact .inr ⟨d, by rw [changed, but, houses], by rw [states]; exact out⟩

theorem Stir.dutyBut {loose : Prop} (step : Stir False loose s t) (h : House) : DutyBut h s t := by
  cases step with
  | quiet quiet => exact .inl (quiet.duty h)
  | stop c q _ => exact .of_houses (beginStop_houses c q s)
  | withdraw q _ _ _ =>
    unfold protectOrdered
    split
    · exact .of_houses rfl
    · exact actStopped_dutyBut (by simp [raisePump, withdrawStart, undoAdmission]) h
  | mark q _ => exact .of_houses rfl
  | aggravate q _ => exact .of_houses rfl
  | queue q _ => exact .of_houses (pumpChanged_houses q _)
  | unqueue q _ =>
    unfold Machine.unqueue
    split
    · exact actStopped_dutyBut (by rfl) h
    · exact .of_houses rfl
  | adopt q allowed _ => exact allowed.elim
  | rebook k allowed => exact allowed.elim
  | surveyed allowed => exact allowed.elim

/-- An ORDERED pump stays so, unless its house calls for PROTECT stops (R45). -/
theorem Stir.ordered (step : Stir False False s t) {q : Pump} (ordered : s.pumps[q].state = .ordered) :
    t.pumps[q].state = .ordered ∨ Protects s (houseOf q) := by
  have turned {d : Pump} {r : PumpLive} (turned : Turned d r s t) (apart : s.pumps[d].state ≠ .ordered) :
      t.pumps[q].state = .ordered ∨ Protects s (houseOf q) := by
    refine .inl ?_
    rw [turned.state, if_neg (fun e => by subst e; exact apart ordered)]
    exact ordered
  cases step with
  | quiet quiet => exact .inl (by rw [quiet.pumps]; exact ordered)
  | stop c d running => exact turned (beginStop_turned c d s) (by rcases running with e | e <;> rw [e] <;> exact PumpState.noConfusion)
  | withdraw d _ waits protects =>
    by_cases own : d = q
    · subst own
      exact .inr (protects.resolve_left id)
    · refine .inl ?_
      rw [(protectOrdered_turned d s waits).state, if_neg own]
      exact ordered
  | mark d _ =>
    refine .inl ?_
    rw [updPump_get]
    split <;> simpa using ordered
  | aggravate d _ =>
    refine .inl ?_
    rw [updPump_get]
    split <;> simpa using ordered
  | queue d ready =>
    simp only [eligible, Bool.and_eq_true, beq_iff_eq] at ready
    exact turned (queuePump_turned d s) (by rw [ready.1]; exact PumpState.noConfusion)
  | unqueue d queued => exact turned (unqueue_turned d s queued) (by rw [queued]; exact PumpState.noConfusion)
  | adopt d allowed _ => exact allowed.elim
  | rebook k allowed => exact allowed.elim
  | surveyed allowed => exact allowed.elim

end

/-! ### Behind a pump -/

/-- The pump stands in its duty list, and each pump behind it has been admitted since `x`. -/
def Followed (x : State) (p : Pump) (t : State) : Prop :=
  ∃ front back, t.houses[houseOf p].dutyList = front ++ p :: back ∧ p ∉ front ∧ p ∉ back ∧
    ∀ q ∈ back, houseOf q = houseOf p ∧ ¬Protects x (houseOf p) ∧ x.pumps[q].state ≠ .ordered ∧ t.pumps[q].state = .ordered

/-- A pump's place in its duty list, at the back of it or not when it took it. -/
structure Placed (x : State) (p : Pump) (atBack : Prop) (t : State) : Prop where
  mem : p ∈ t.houses[houseOf p].dutyList
  followed : atBack → Followed x p t
  ordered : ∀ q : Pump, houseOf q = houseOf p → x.pumps[q].state = .ordered →
    t.pumps[q].state = .ordered ∨ Protects x (houseOf p)

section
variable {x s t : State} {p : Pump} {atBack : Prop}

theorem Placed.refl (mem : p ∈ x.houses[houseOf p].dutyList)
    (back : atBack → ∃ front, x.houses[houseOf p].dutyList = front ++ [p] ∧ p ∉ front) : Placed x p atBack x := by
  refine ⟨mem, fun b => ?_, fun q _ ordered => .inl ordered⟩
  obtain ⟨front, eq, apart⟩ := back b
  exact ⟨front, [], eq, apart, List.not_mem_nil, fun q within => absurd within List.not_mem_nil⟩

theorem Followed.of_duty (h : Followed x p s) (duty : t.houses[houseOf p].dutyList = s.houses[houseOf p].dutyList)
    (ordered : ∀ q : Pump, houseOf q = houseOf p → ¬Protects x (houseOf p) → s.pumps[q].state = .ordered → t.pumps[q].state = .ordered) :
    Followed x p t := by
  obtain ⟨front, back, eq, out, apart, behind⟩ := h
  refine ⟨front, back, duty.trans eq, out, apart, fun q within => ?_⟩
  obtain ⟨house, free, before, now_⟩ := behind q within
  exact ⟨house, free, before, ordered q house free now_⟩

theorem Followed.of_filter (h : Followed x p s) {d : Pump} (other : d ≠ p)
    (duty : t.houses[houseOf p].dutyList = s.houses[houseOf p].dutyList.filter fun q => q != d)
    (ordered : ∀ q : Pump, houseOf q = houseOf p → ¬Protects x (houseOf p) → s.pumps[q].state = .ordered → t.pumps[q].state = .ordered) :
    Followed x p t := by
  obtain ⟨front, back, eq, out, apart, behind⟩ := h
  have kept : (p != d) = true := by simpa using other.symm
  refine ⟨front.filter fun q => q != d, back.filter fun q => q != d, ?_, fun m => out (List.mem_filter.mp m).1,
    fun m => apart (List.mem_filter.mp m).1, fun q within => ?_⟩
  · rw [duty, eq, List.filter_append, List.filter_cons, if_pos kept]
  · obtain ⟨house, free, before, now_⟩ := behind q (List.mem_filter.mp within).1
    exact ⟨house, free, before, ordered q house free now_⟩

/-- A step of the work leaves a pump in service at its place. -/
theorem Placed.stir (h : Placed x p atBack s) (standing : standing s = standing x) (step : Stir False False s t)
    (service : t.pumps[p].state ≠ .faulted ∧ t.pumps[p].state ≠ .isolated) : Placed x p atBack t := by
  have stays {q : Pump} (house : houseOf q = houseOf p) (ordered : s.pumps[q].state = .ordered) :
      t.pumps[q].state = .ordered ∨ Protects x (houseOf p) :=
    (step.ordered ordered).imp_right fun protects => by
      rw [← house]
      exact (protects_of_standing standing _).mp protects
  have free (q : Pump) (house : houseOf q = houseOf p) (none : ¬Protects x (houseOf p)) (ordered : s.pumps[q].state = .ordered) :
      t.pumps[q].state = .ordered := (stays house ordered).resolve_right none
  have tracked (q : Pump) (house : houseOf q = houseOf p) (before : x.pumps[q].state = .ordered) :
      t.pumps[q].state = .ordered ∨ Protects x (houseOf p) :=
    (h.ordered q house before).elim (stays house) .inr
  rcases step.dutyBut (houseOf p) with same | ⟨d, but, out⟩
  · exact ⟨by rw [same]; exact h.mem, fun b => (h.followed b).of_duty same free, tracked⟩
  · have other : d ≠ p := by
      rintro rfl
      rcases out with e | e
      · exact service.1 e
      · exact service.2 e
    refine ⟨?_, fun b => (h.followed b).of_filter other but free, tracked⟩
    rw [but]
    exact List.mem_filter.mpr ⟨h.mem, by simpa using other.symm⟩

/-- An admission moves its own pump alone to the back (R56). -/
theorem Placed.admitted (h : Placed x p atBack s) (q : Pump) (queued : s.pumps[q].state = .queued)
    (free : houseOf q = houseOf p → ¬Protects x (houseOf p)) : Placed x p atBack (admitPump q s) := by
  have state (d : Pump) := (admitPump_turned q s).state d
  have stays {d : Pump} (ordered : s.pumps[d].state = .ordered) : (admitPump q s).pumps[d].state = .ordered := by
    rw [state, if_neg (fun e => by subst e; rw [queued] at ordered; cases ordered)]
    exact ordered
  have own : (admitPump q s).pumps[q].state = .ordered := by
    rw [state, if_pos rfl]
    rfl
  have tracked (d : Pump) (house : houseOf d = houseOf p) (before : x.pumps[d].state = .ordered) :
      (admitPump q s).pumps[d].state = .ordered ∨ Protects x (houseOf p) := (h.ordered d house before).imp_left stays
  rcases admitPump_duty q s (houseOf p) with same | ⟨house, back⟩
  · exact ⟨by rw [same]; exact h.mem, fun b => (h.followed b).of_duty same fun _ _ _ => stays, tracked⟩
  · have fresh : x.pumps[q].state ≠ .ordered := fun before => by
      rcases h.ordered q house before with e | e
      · rw [queued] at e
        cases e
      · exact free house e
    refine ⟨?_, fun b => ?_, tracked⟩
    · rw [back]
      by_cases e : q = p
      · subst e
        simp
      · exact List.mem_append_left _ (List.mem_filter.mpr ⟨h.mem, by simpa using Ne.symm e⟩)
    · by_cases e : q = p
      · subst e
        exact ⟨_, [], back, by simp, List.not_mem_nil, fun d within => absurd within List.not_mem_nil⟩
      · obtain ⟨front, behind, eq, out, apart, since⟩ := h.followed b
        have kept : (p != q) = true := by simpa using Ne.symm e
        refine ⟨front.filter fun d => d != q, (behind.filter fun d => d != q) ++ [q], ?_,
          fun m => out (List.mem_filter.mp m).1, fun m => ?_, fun d within => ?_⟩
        · rw [back, eq, List.filter_append, List.filter_cons, if_pos kept, List.append_assoc]
          rfl
        · rcases List.mem_append.mp m with m | m
          · exact apart (List.mem_filter.mp m).1
          · exact e (List.mem_singleton.mp m).symm
        · rcases List.mem_append.mp within with m | m
          · obtain ⟨at_, none, before, ordered⟩ := since d (List.mem_filter.mp m).1
            exact ⟨at_, none, before, stays ordered⟩
          · obtain rfl := List.mem_singleton.mp m
            exact ⟨house, free house, fresh, own⟩

/-- A pump on a course that keeps it in service keeps its place. -/
theorem Course.keptPlaced {K : PumpLive → Prop} (c : Course x p True False K)
    (service : ∀ r, K r → r.state ≠ .faulted ∧ r.state ≠ .isolated) :
    Kept False (fun g => True ∧ g = houseOf p) fun s => OnCourse x p False K s ∧ Placed x p atBack s := by
  refine ⟨fun queue step h => ?_, fun {s} q queue queued free h => ?_, fun w h => ⟨c.kept.reworked w h.1, h.2.mem, h.2.followed, h.2.ordered⟩⟩
  · have next := c.kept.stir queue step h.1
    exact ⟨next, h.2.stir h.1.standing step (service _ next.holds)⟩
  · refine ⟨c.kept.admitted q queue queued free h.1, h.2.admitted q queued fun house => ?_⟩
    rw [← house]
    exact (protects_of_standing h.1.standing _).not.mp (free ⟨trivial, house⟩)

/-- A pump that has taken its place, at the end of the event. -/
theorem Course.finish_placed {K : PumpLive → Prop} (c : Course s p True False K)
    (service : ∀ r, K r → r.state ≠ .faulted ∧ r.state ≠ .isolated) (start : Starts p True False s) (holds : K s.pumps[p])
    (placed : Placed s p atBack s) : K (Machine.finish s).pumps[p] ∧ Placed s p atBack (Machine.finish s) := by
  have onCourse : OnCourse s p False K s ∧ Placed s p atBack s := ⟨⟨rfl, start.flight, holds⟩, placed⟩
  have run := ((start.holding onCourse).settleAll (c.keptPlaced service)).1
  have pumps : (Machine.finish s).pumps = (Machine.settleAll s).pumps := busGoesOn_pumps (Machine.settleAll s)
  have houses : (Machine.finish s).houses = (Machine.settleAll s).houses := busGoesOn_houses (Machine.settleAll s)
  refine ⟨by rw [pumps]; exact run.1.holds, ?_, fun b => ?_, fun q house before => ?_⟩
  · rw [houses]
    exact run.2.mem
  · have followed := run.2.followed b
    unfold Followed at followed ⊢
    rw [houses, pumps]
    exact followed
  · rw [pumps]
    exact run.2.ordered q house before

end

end Sys2Proof.Machine
end

section
/-! SUPPORT. A pump request taken (R54, R55): its effect, the work of the event, and the reply; O35. -/

namespace Sys2Proof.Machine

/-! ### A request that is carried out to the end of its work -/

/-- What a request leaves that changes pumps alone: its work is done before the reply is written (R54). -/
structure Replied (k tag : Byte) (body : List Byte) (s v t : State) : Prop where
  pumps : t.pumps = (finish v).pumps
  houses : t.houses = (finish v).houses
  queue : t.feeder.queue = (finish v).feeder.queue
  standing : standing t = standing (answered k tag body s)
  records : v.eventQueue.records <+: t.eventQueue.records

section
variable {s v t : State} {p : Pump} {c : Instr} {f : Frame} {k : Byte} {body : List Byte}

theorem workStep_done (h : WorkDone s) : workStep s = none := by
  have surveyEnd : s.work.surveyEnd = false := congrArg Work.surveyEnd h
  have shedTest : s.work.shedTest = false := congrArg Work.shedTest h
  have passes : s.work.passes = 0 := congrArg Work.passes h
  have notices : s.work.notices = Vector.replicate 8 false := congrArg Work.notices h
  have none : nextNotice s = none := by
    unfold nextNotice
    refine List.find?_eq_none.mpr fun x _ => ?_
    rw [notices]
    simp
  unfold workStep
  simp [none, surveyEnd, shedTest, passes]

/-- Work that is done is not done again. -/
theorem settle_done (h : WorkDone s) (n : Nat) : ∃ w, settle n s = { s with work := w } := by
  cases n with
  | zero => exact ⟨_, rfl⟩
  | succ n =>
    unfold settle
    rw [workStep_done h]
    exact ⟨s.work, rfl⟩

theorem finish_relinked (v : State) (l : SupervisoryLink) :
    (finish { settleAll v with link := l }).pumps = (finish v).pumps ∧
      (finish { settleAll v with link := l }).houses = (finish v).houses ∧
      (finish { settleAll v with link := l }).feeder.queue = (finish v).feeder.queue := by
  have pumps (u : State) : (finish u).pumps = (settleAll u).pumps := busGoesOn_pumps (settleAll u)
  have feeder (u : State) : (finish u).feeder = (settleAll u).feeder := busGoesOn_feeder (settleAll u)
  have sums : SumsHold { settleAll v with link := l } := (settleAll_sums v).of_same rfl rfl
  have again : ∃ w, settleAll { settleAll v with link := l } = { settleAll v with link := l, work := w } := by
    have done : WorkDone { settleAll v with link := l } := settleAll_work v
    unfold settleAll at sums done ⊢
    rw [resum_of sums]
    exact settle_done done _
  obtain ⟨w, eq⟩ := again
  refine ⟨?_, ?_, ?_⟩
  · rw [pumps, pumps, eq]
  · rw [finish_houses, finish_houses, eq]
  · rw [feeder, feeder, eq]

theorem exec_replied (hs : Ready s) (request : requestFrame c = some f) (plain : isRestart f = false)
    (kind : replyKindOf f.kind = k) (carries : Carries (counted s) v)
    (carried : carryOut f.kind.toNat f.body (counted s) = (settleAll v, body)) :
    ∃ t, exec c s = .next t ∧ Replied k f.tag body s v t := by
  refine ⟨_, (exec_request request s).trans (ready_take hs f), ?_⟩
  have taken : takeRequest f s = { settleAll v with link :=
      { (settleAll v).link with reply := some { kind := k, tag := f.tag, body, restarts := false } } } := by
    unfold takeRequest
    have : updCounters (fun c => { c with framesTaken := satSucc 65535 c.framesTaken }) s = counted s := rfl
    rw [this, carried, kind, plain]
  have rest := finish_records { settleAll v with link :=
    { (settleAll v).link with reply := some { kind := k, tag := f.tag, body, restarts := false } } }
  rw [taken]
  obtain ⟨pumps, houses, queue⟩ := finish_relinked v
    { (settleAll v).link with reply := some { kind := k, tag := f.tag, body, restarts := false } }
  have follows := settleAll_follows v
  have stands : standing (settleAll v) = standing (counted s) := follows.standing.trans carries.standing
  refine ⟨pumps, houses, queue, ?_, follows.records.trans rest⟩
  rw [finish_standing]
  have link : (settleAll v).link = (counted s).link := congrArg Standing.link stands
  have relinked (u : State) (l : SupervisoryLink) : standing { u with link := l } = { standing u with link := l } := rfl
  rw [relinked, stands, link]
  rfl

end

end Sys2Proof.Machine
end

section
/-! SUPPORT. PUMP_ISOLATE, PUMP_RESTORE and PUMP_CLEAR (R54, R55): what each makes of its pump before the work of the event
begins; O35. -/

namespace Sys2Proof.Machine

section
variable {p : Pump} {s t v : State} {tag : Byte}

/-! ### The three requests -/

/-- The reply to PUMP_ISOLATE (R54). -/
def isolateReply (r : PumpLive) : List Byte :=
  [0#8] ++ toBytes 1 (pumpStateCode r.state) ++ [if r.isolatePending then 1#8 else 0#8]

theorem isolateReply_eq (r : PumpLive) :
    num 1 0 ++ (num 1 (pumpStateCode r.state) ++ flag r.isolatePending) = isolateReply r := by
  have status : num 1 0 = [0#8] := by decide
  have flagged : flag r.isolatePending = [if r.isolatePending then 1#8 else 0#8] := by
    cases r.isolatePending <;> decide
  rw [status, flagged, isolateReply, num, List.append_assoc]

section
variable (hs : Ready s) (plan : planned s = true) (used : pumpInUse s p = true)
include hs plan used

theorem pumpIsolate_replied (carries : Carries (counted s) (isolatePump p (counted s))) :
    ∃ t, exec (.pumpIsolate tag [BitVec.ofNat 8 p.val]) s = .next t ∧
      Replied 0x8D#8 tag (isolateReply (finish (isolatePump p (counted s))).pumps[p]) s (isolatePump p (counted s)) t := by
  refine exec_replied (f := { kind := 13#8, tag, body := _ }) hs rfl rfl rfl carries ?_
  change carryPumpIsolate [BitVec.ofNat 8 p.val] (counted s) = _
  rw [carryPumpIsolate, withLength_exact (by rfl), withPump_used (s := counted s) plan used, isolateOf, taken, isolateReply_eq,
    ← finish_pump]

theorem pumpRestore_replied (carries : Carries (counted s) (restorePump p (counted s))) :
    ∃ t, exec (.pumpRestore tag [BitVec.ofNat 8 p.val]) s = .next t ∧
      Replied 0x8E#8 tag [0#8] s (restorePump p (counted s)) t := by
  refine exec_replied (f := { kind := 14#8, tag, body := _ }) hs rfl rfl rfl carries ?_
  change carryPumpRestore [BitVec.ofNat 8 p.val] (counted s) = _
  rw [carryPumpRestore, withLength_exact (by rfl), withPump_used (s := counted s) plan used]
  rfl

theorem pumpClear_replied {cause : FaultCause} (faulted : s.pumps[p].state = .faulted) (fault : s.pumps[p].fault = some cause)
    (carries : Carries (counted s) (clearPumpFault p cause (counted s))) :
    ∃ t, exec (.pumpClear tag [BitVec.ofNat 8 p.val]) s = .next t ∧
      Replied 0x8F#8 tag [0#8] s (clearPumpFault p cause (counted s)) t := by
  refine exec_replied (f := { kind := 15#8, tag, body := _ }) hs rfl rfl rfl carries ?_
  change carryPumpClear [BitVec.ofNat 8 p.val] (counted s) = _
  have state : (counted s).pumps[p].state = .faulted := faulted
  have named : (counted s).pumps[p].fault = some cause := fault
  rw [carryPumpClear, withLength_exact (by rfl), withPump_used (s := counted s) plan used, clearFaultOf, state, named]
  rfl

end

/-! ### PUMP_ISOLATE -/

theorem isolatePump_stopped (h : s.pumps[p].state = .ready ∨ s.pumps[p].state = .rest ∨ s.pumps[p].state = .queued ∨
    s.pumps[p].state = .faulted ∨ s.pumps[p].state = .localControl) :
    isolatePump p s = pumpChanged p (enterIsolated p s) := by
  unfold isolatePump
  rcases h with h | h | h | h | h <;> rw [h]

theorem isolatePump_moving (h : s.pumps[p].state = .running ∨ s.pumps[p].state = .starting ∨ s.pumps[p].state = .ordered ∨
    s.pumps[p].state = .stopping ∨ s.pumps[p].state = .unconfirmed) :
    isolatePump p s = notice (houseOf p) (updPump p (fun r => { r with isolatePending := true }) s) := by
  unfold isolatePump
  rcases h with h | h | h | h | h <;> rw [h]

theorem isolatePump_isolated (h : s.pumps[p].state = .isolated) : isolatePump p s = notice (houseOf p) s := by
  unfold isolatePump
  rw [h]

theorem isolatedRecord_parked (r : PumpLive) : Parked (isolatedRecord r) := .inr (.inr (.inr (.inr rfl)))

theorem isolated_record (p : Pump) (s : State) : (pumpChanged p (enterIsolated p s)).pumps[p] = isolatedRecord s.pumps[p] :=
  (Turned.of_changed (enterIsolated_pumps p s)).parked (isolatedRecord_parked _)

theorem isolated_out (p : Pump) (s : State) : OutOfService p (pumpChanged p (enterIsolated p s)) :=
  ⟨by rw [isolated_record]; exact isolatedRecord_parked _, by rw [pumpChanged_houses]; exact enterIsolated_notMem p s⟩

/-- A pump that is to be ISOLATED, or is so. -/
def Isolating (r : PumpLive) : Prop := r.isolatePending = true ∨ r.state = .isolated

theorem stopActed_isolating {r : PumpLive} (pending : r.isolatePending = true) : Isolating (stopActed r) := by
  unfold stopActed
  split
  · next c _ =>
    right
    have out : faultedRecord c r = isolatedRecord { outRecord .faulted (some c) r with faultPending := none } :=
      isolateActed_of_pending pending
    rw [out]
    rfl
  · right
    rw [isolateActed_of_pending pending]
    rfl

theorem course_isolating (x : State) (p : Pump) (guarded flying : Prop) : Course x p guarded flying Isolating := by
  have pending {r : PumpLive} {st : PumpState} (h : Isolating r) (e : r.state = st) (other : st ≠ .isolated) :
      r.isolatePending = true := h.resolve_right fun isolated => other (e.symm.trans isolated)
  constructor
  · exact fun b h _ => h
  · intro r c h e
    have waits : r.isolatePending = true := by rcases e with e | e <;> exact pending h e PumpState.noConfusion
    exact .inl (by rw [stopRecord, waits]; rfl)
  · intro r h e _ _
    have waits := pending h e PumpState.noConfusion
    exact stopActed_isolating waits
  · exact fun h _ => h
  · exact fun h _ => h
  · intro r h e _
    have waits := pending h e PumpState.noConfusion
    exact .inl waits
  · intro r h e
    have waits := pending h e PumpState.noConfusion
    exact stopActed_isolating waits
  · intro r _ _ _ h e _
    have waits := pending h e PumpState.noConfusion
    exact .inl waits

/-! ### The return to service -/

/-- The record of a pump that returns, with min off still to come or not (R55). -/
def returnRecord (due : Option Nat) (r : PumpLive) : PumpLive :=
  { r with
    state := if due.isSome then .rest else .ready, fault := none, minOffUntil := due, admittedM := none, stopCause := none }

/-- Min off from the last stop, if still to come (R55). -/
def dueOf (s : State) (p : Pump) : Option Nat := s.pumps[p].lastStop.bind fun t => stillToCome s (t + (pumpPlan s p).minOff)

theorem dueOf_waits {u : Nat} (until_ : (s.pumps[p].lastStop.map fun t => t + (planOf s).pumps[p].minOff) = some u)
    (later : s.time.uptime < u) : dueOf s p = some u := by
  obtain ⟨t, stop, rfl⟩ := Option.map_eq_some_iff.mp until_
  rw [dueOf, stop]
  exact if_pos later

theorem dueOf_over (done : ¬∃ u, (s.pumps[p].lastStop.map fun t => t + (planOf s).pumps[p].minOff) = some u ∧ s.time.uptime < u) :
    dueOf s p = none := by
  unfold dueOf
  cases stop : s.pumps[p].lastStop with
  | none => rfl
  | some t => exact if_neg fun later => done ⟨_, by rw [stop]; rfl, later⟩

/-- A pump back in service, before the work of the event. -/
structure Returned (p : Pump) (due : Option Nat) (s v : State) : Prop where
  carries : Carries s v
  handles : Handles p s v
  record : v.pumps[p] = returnRecord due s.pumps[p]
  duty : v.houses = (joinDuty p s).houses
  notice : v.work.notices[houseOf p] = true

theorem actStopped_unmoved (isolate : s.pumps[p].isolatePending = false) (fault : s.pumps[p].faultPending = none) :
    actStopped p s = s := by
  unfold actStopped
  rw [fault]
  exact if_neg (by rw [isolate]; exact Bool.noConfusion)

theorem returnByMinOff_eq (isolate : s.pumps[p].isolatePending = false) (fault : s.pumps[p].faultPending = none) :
    returnByMinOff p s = pumpChanged p (joinDuty p (updPump p (returnRecord (dueOf s p)) s)) := by
  have flags : (joinDuty p (updPump p (returnRecord (dueOf s p)) s)).pumps[p] = returnRecord (dueOf s p) s.pumps[p] :=
    updPump_self p _ s
  have same : returnByMinOff p s = pumpChanged p (actStopped p (joinDuty p (updPump p (returnRecord (dueOf s p)) s))) := rfl
  rw [same, actStopped_unmoved (by rw [flags]; exact isolate) (by rw [flags]; exact fault)]

theorem returnByMinOff_returned (isolate : s.pumps[p].isolatePending = false) (fault : s.pumps[p].faultPending = none) :
    Returned p (dueOf s p) s (returnByMinOff p s) ∧ (returnByMinOff p s).eventQueue = s.eventQueue := by
  have handles := returnByMinOff_handles p s
  rw [returnByMinOff_eq isolate fault] at handles ⊢
  have turned : Turned p (returnRecord (dueOf s p) s.pumps[p]) s
      (pumpChanged p (joinDuty p (updPump p (returnRecord (dueOf s p)) s))) := Turned.of_changed rfl
  refine ⟨⟨?_, handles, turned.settled ?_ ?_, ?_, ?_⟩, ?_⟩
  · exact ((((Carries.refl s).upd p _).dutyWritten (houseOf p) fun ps => if ps.contains p then ps else ps ++ [p])).changed p
  · unfold returnRecord
    split <;> exact PumpState.noConfusion
  · unfold returnRecord
    split <;> exact PumpState.noConfusion
  · rw [pumpChanged_houses]
    rfl
  · rw [pumpChanged_notices]
    simp
  · rw [pumpChanged_eventQueue]
    rfl

theorem Returned.raised {due : Option Nat} (h : Returned p due s v) (k : EventKind) (a b : Nat) :
    Returned p due s (raisePump k p a b v) :=
  ⟨h.carries.raised k p a b, h.handles.raise k a b, h.record, h.duty, h.notice⟩

/-- A pump's place in its duty list at the end of the event in which it joined it (R56). -/
def AtBack (s : State) (p : Pump) (t : State) : Prop :=
  p ∈ t.houses[houseOf p].dutyList ∧
    (p ∉ s.houses[houseOf p].dutyList → ∃ front back, t.houses[houseOf p].dutyList = front ++ p :: back ∧
      p ∉ front ∧ p ∉ back ∧ ∀ q ∈ back, s.pumps[q].state ≠ .ordered ∧ t.pumps[q].state = .ordered)

theorem Placed.atBack (h : Placed v p (p ∉ s.houses[houseOf p].dutyList) t) (handles : Handles p s v) : AtBack s p t := by
  refine ⟨h.mem, fun out => ?_⟩
  obtain ⟨front, back, eq, first, last, behind⟩ := h.followed out
  refine ⟨front, back, eq, first, last, fun q within => ?_⟩
  obtain ⟨-, -, before, now_⟩ := behind q within
  have same : v.pumps[q].state = s.pumps[q].state := handles.others q fun e => last (e ▸ within)
  rw [same] at before
  exact ⟨before, now_⟩

theorem Course.guard {x : State} {K : PumpLive → Prop} {flying : Prop} (c : Course x p False flying K) (guarded : Prop) :
    Course x p guarded flying K :=
  ⟨c.booked, c.stopped, c.withdrawn, c.marked, c.aggravated, c.queued, c.unqueued,
    fun permit m k h queued _ => c.admitted permit m k h queued False.elim⟩

theorem Returned.placed {due : Option Nat} (h : Returned p due s v) : Placed v p (p ∉ s.houses[houseOf p].dutyList) v := by
  refine Placed.refl ?_ fun out => ?_
  · rw [h.duty]
    exact mem_joinDuty p s
  · refine ⟨s.houses[houseOf p].dutyList, ?_, out⟩
    rw [h.duty, joinDuty, updHouse_get, if_pos rfl]
    exact if_neg (by simpa using out)

/-- A pump back in service, at the end of the event (R55, R56). -/
theorem Returned.finish {due : Option Nat} (h : Returned p due s v) (queue : QueueHoldsTheQueued s)
    (surveyEnd : s.work.surveyEnd = false) (idle : s.pumps[p].state ≠ .queued) (isolate : s.pumps[p].isolatePending = false)
    (fault : s.pumps[p].faultPending = none) :
    (due.isSome = true → (Machine.finish v).pumps[p] = returnRecord due s.pumps[p]) ∧
      (due = none → Waits (Machine.finish v).pumps[p]) ∧ AtBack s p (Machine.finish v) := by
  have start : Starts p True False v := ⟨h.handles.keeps idle queue, h.carries.surveyEnd.trans surveyEnd, False.elim,
    fun _ => guarded_of_notice h.notice⟩
  cases due with
  | some u =>
    have parked : Parked (returnRecord (some u) s.pumps[p]) := .inr (.inl rfl)
    obtain ⟨kept, placed⟩ := ((course_parked v p parked).guard True).finish_placed (by rintro _ rfl; exact ⟨PumpState.noConfusion, PumpState.noConfusion⟩)
      start h.record h.placed
    exact ⟨fun _ => kept, fun due => absurd due (Option.some_ne_none u), placed.atBack h.handles⟩
  | none =>
    have waits : Waits v.pumps[p] := by
      rw [h.record]
      exact ⟨.inl rfl, isolate, fault, rfl⟩
    obtain ⟨kept, placed⟩ := (course_waits v p True False).finish_placed
      (fun r k => by rcases k.1 with e | e | e <;> rw [e] <;> decide)
      start waits h.placed
    exact ⟨fun due => Bool.noConfusion due, fun _ => kept, placed.atBack h.handles⟩

end

end Sys2Proof.Machine
end

section
/-! SUPPORT. The statement about the pump requests (R54, R55); O35. -/

namespace Sys2Proof.Machine

section
variable {p : Pump} {s : State}

/-! ### A flag alone -/

theorem updPump_same {f : PumpLive → PumpLive} (h : f s.pumps[p] = s.pumps[p]) : updPump p f s = s := by
  have pumps : s.pumps.set p (f s.pumps[p]) = s.pumps := by rw [h]; simp
  unfold updPump
  rw [pumps]

theorem sumForShed_eq (s : State) :
    sumForShed s = ∑ q : Pump, if s.pumps[q].state == .stopping then 0 else s.pumps[q].booking := vector_sum _ _

/-- A change of a pump that leaves its state and its booking leaves the sums (R88). -/
theorem SumsHold.touch (h : SumsHold s) (p : Pump) (f : PumpLive → PumpLive)
    (hf : ∀ r, (f r).state = r.state ∧ (f r).booking = r.booking) : SumsHold (updPump p f s) := by
  have same (q : Pump) : (updPump p f s).pumps[q].state = s.pumps[q].state ∧
      (updPump p f s).pumps[q].booking = s.pumps[q].booking := by
    rw [updPump_get]
    split
    · next own => subst own; exact hf _
    · exact ⟨rfl, rfl⟩
  obtain ⟨total, shed⟩ := h
  refine ⟨?_, ?_⟩
  · rw [updPump_feeder, total, sumBookings_eq, sumBookings_eq]
    exact Finset.sum_congr rfl fun q _ => (same q).2.symm
  · rw [updPump_feeder, shed, sumForShed_eq, sumForShed_eq]
    exact Finset.sum_congr rfl fun q _ => by rw [(same q).1, (same q).2]

theorem Settled.touch (h : Settled s) (p : Pump) (f : PumpLive → PumpLive)
    (hf : ∀ r, (f r).state = r.state ∧ (f r).booking = r.booking) : Settled (updPump p f s) := by
  obtain ⟨work, sums, bus, pins⟩ := h
  exact ⟨work, sums.touch p f hf, bus, pins⟩

end

/-- PUMP_RESTORE of a pump that is not ISOLATED takes isolate-pending back (R55). -/
theorem restorePump_other {p : Pump} {s : State} (other : s.pumps[p].state ≠ .isolated) :
    restorePump p s = updPump p (fun r => { r with isolatePending := false }) s := by
  refine (if_neg (mt beq_iff_eq.mp other)).trans ?_
  split
  · rfl
  · next clear =>
    have flag : s.pumps[p].isolatePending = false := Bool.eq_false_iff.mpr clear
    exact (updPump_same (by rw [← flag])).symm

theorem isolateReply_isolated {r : PumpLive} (isolated : r.state = .isolated) :
    isolateReply r = [0#8, 11#8, if r.isolatePending then 1#8 else 0#8] := by
  have code : toBytes 1 (pumpStateCode .isolated) = [11#8] := by decide
  rw [isolateReply, isolated, code]
  rfl

/-- Settles O35: each request's record is parked, pending or on its way, and a pump back in service keeps its place in the duty
list. -/
theorem pumpRequestsAreTaken : Obligations.PumpRequestsAreTaken := by
  unfold Obligations.PumpRequestsAreTaken
  intro s tag p hs queue plan used r until_ waits rested atBack cleared
  have surveyEnd : (counted s).work.surveyEnd = false := by
    have blank : (counted s).work = blankWork := hs.1.1
    rw [blank]
    rfl
  have start : QueueHoldsTheQueued (counted s) := queue.of_same rfl rfl
  have carries := Carries.refl (counted s)
  refine ⟨fun stopped => ?_, fun moving => ?_, fun isolated => ?_, fun isolated isolate fault => ?_, fun other => ?_,
    fun cause faulted fault isolate pending => ?_⟩
  · have is : isolatePump p (counted s) = pumpChanged p (enterIsolated p (counted s)) := isolatePump_stopped stopped
    obtain ⟨t, runs, replied⟩ := pumpIsolate_replied (tag := tag) hs plan used (by rw [is]; exact (carries.isolated p).changed p)
    obtain ⟨same, duty, absent⟩ := (isolated_out p (counted s)).finish_stirs start.enterIsolated.pumpChanged
      (((carries.isolated p).changed p).surveyEnd.trans surveyEnd) .refl
    rw [isolated_record] at same
    rw [is] at replied
    rw [same, isolateReply_isolated rfl] at replied
    exact ⟨t, runs, by rw [replied.pumps, same]; rfl, by rw [replied.houses]; exact duty,
      by rw [replied.queue]; exact absent, replied.standing⟩
  · have is : isolatePump p (counted s) = notice (houseOf p) (updPump p (fun r => { r with isolatePending := true }) (counted s)) :=
      isolatePump_moving moving
    have pending := (carries.upd p fun r => { r with isolatePending := true }).told (houseOf p)
    obtain ⟨t, runs, replied⟩ := pumpIsolate_replied (tag := tag) hs plan used (by rw [is]; exact pending)
    have held : Isolating (finish (isolatePump p (counted s))).pumps[p] := by
      refine (course_isolating _ p False False).finish ?_ (start.isolatePump p) ?_ False.elim False.elim
      · rw [is, notice_pumps, updPump_self]
        exact .inl rfl
      · rw [is]
        exact pending.surveyEnd.trans surveyEnd
    rw [← replied.pumps] at replied held
    exact ⟨t, runs, held, replied.standing⟩
  · have is : isolatePump p (counted s) = notice (houseOf p) (counted s) := isolatePump_isolated isolated
    obtain ⟨t, runs, replied⟩ := pumpIsolate_replied (tag := tag) hs plan used (by rw [is]; exact carries.told _)
    have parked : Parked (counted s).pumps[p] := .inr (.inr (.inr (.inr isolated)))
    have same : (finish (isolatePump p (counted s))).pumps[p] = r := by
      rw [is]
      exact (parked.finish_stirs start surveyEnd (quiet_notice (houseOf p) (counted s)).stirs).1
    rw [same, isolateReply_isolated isolated] at replied
    exact ⟨t, runs, by rw [replied.pumps, same], replied.standing⟩
  · have is : restorePump p (counted s) = returnByMinOff p (counted s) := by
      have state : (counted s).pumps[p].state = .isolated := isolated
      unfold restorePump
      exact if_pos (by rw [state]; rfl)
    have returned := (returnByMinOff_returned (p := p) (s := counted s) isolate fault).1
    obtain ⟨t, runs, replied⟩ := pumpRestore_replied (tag := tag) hs plan used (by rw [is]; exact returned.carries)
    obtain ⟨rest, ready, back⟩ := returned.finish start surveyEnd
      (by rw [show (counted s).pumps[p].state = _ from isolated]; exact PumpState.noConfusion) isolate fault
    rw [is] at replied
    have placed : atBack t := by
      unfold atBack
      rw [replied.houses, replied.pumps]
      exact back
    refine ⟨t, runs, replied.standing, fun ⟨u, due, later⟩ => ?_, fun done => ?_⟩
    · have due' : dueOf (counted s) p = some u := dueOf_waits due later
      rw [due'] at rest
      have record : rested = returnRecord (some u) r := (congrArg (fun d => { r with
        state := .rest, fault := none, minOffUntil := d, admittedM := none, stopCause := none }) due :)
      rw [record, replied.pumps]
      exact ⟨rest rfl, placed⟩
    · obtain ⟨way, -, -, minOff⟩ := ready (dueOf_over done)
      rw [← replied.pumps] at way minOff
      exact ⟨way, minOff, placed⟩
  · have is : restorePump p (counted s) = updPump p (fun x => { x with isolatePending := false }) (counted s) :=
      restorePump_other other
    have settled := hs.1.touch p (fun x => { x with isolatePending := false }) fun _ => ⟨rfl, rfl⟩
    have done : settleAll (updPump p (fun x => { x with isolatePending := false }) (counted s)) =
        updPump p (fun x => { x with isolatePending := false }) (counted s) :=
      settleAll_of (settled.2.1.of_same rfl rfl) settled.1
    refine (exec_pumpRestore tag _ s).trans (ready_exact hs { kind := 14#8, tag, body := [BitVec.ofNat 8 p.val] }
      (taken [] (settleAll (restorePump p (counted s)))) _ ?_ ?_
      (settled_answered settled _ _ _))
    · change carryPumpRestore [BitVec.ofNat 8 p.val] (counted s) = _
      rw [carryPumpRestore, withLength_exact (by rfl), withPump_used (s := counted s) plan used]
    · rw [is, done]
      rfl
  · have returned := returnByMinOff_returned (p := p) (s := counted s) isolate pending
    obtain ⟨returned, quiet⟩ := returned
    have state : (counted s).pumps[p].state ≠ .queued := by
      rw [show (counted s).pumps[p].state = _ from faulted]
      exact PumpState.noConfusion
    generalize told : clearPumpFault p cause (counted s) = v
    have is : raisePump .pumpCleared p (faultCode cause) (pumpStateCode (returnByMinOff p (counted s)).pumps[p].state)
      (returnByMinOff p (counted s)) = v := told
    rw [returned.record] at is
    have raised := returned.raised .pumpCleared (faultCode cause)
      (pumpStateCode (returnRecord (dueOf (counted s) p) (counted s).pumps[p]).state)
    have events : v.eventQueue.records = cleared cause (pumpStateCode (returnRecord (dueOf (counted s) p) (counted s).pumps[p]).state) := by
      rw [← is, raisePump_records]
      exact withEvent_congr (s := s) returned.carries.time quiet _ _ _ _ _ _
    rw [is] at raised
    obtain ⟨t, runs, replied⟩ := pumpClear_replied (tag := tag) hs plan used faulted fault (by rw [told]; exact raised.carries)
    rw [told] at replied
    obtain ⟨rest, ready, back⟩ := raised.finish start surveyEnd state isolate pending
    have placed : atBack t := by
      unfold atBack
      rw [replied.houses, replied.pumps]
      exact back
    have records := replied.records
    rw [events] at records
    refine ⟨t, runs, replied.standing, fun ⟨u, due, later⟩ => ?_, fun done => ?_⟩
    · have due' : dueOf (counted s) p = some u := dueOf_waits due later
      rw [due'] at rest records
      have record : rested = returnRecord (some u) r := (congrArg (fun d => { r with
        state := .rest, fault := none, minOffUntil := d, admittedM := none, stopCause := none }) due :)
      rw [record, replied.pumps]
      exact ⟨rest rfl, placed, records⟩
    · have due' : dueOf (counted s) p = none := dueOf_over done
      have way := (ready due').1
      rw [due'] at records
      rw [← replied.pumps] at way
      exact ⟨way, placed, records⟩

end Sys2Proof.Machine
end

section
/-! SUPPORT. What an adoption at the survey's end leaves of the rest (R82, R87): the other pumps but for their bookings, the
passes called for, the duty lists, and the records it adds to the Event Queue; O50. -/

namespace Sys2Proof.Machine

/-! ### Another pump -/

/-- A pump's booking is the one that its house's booking count gives it (R87). -/
def Booked (p : Pump) (s : State) : Prop := s.pumps[p].booking = drawB s p (bookingCount s (houseOf p))

/-- A change of other pumps, seen from a pump: the bookings of its house follow every change of the booking count. -/
structure Spared (p : Pump) (s t : State) : Prop extends Bystander p s t where
  booked : s.pumps[p].state = .running ∨ s.pumps[p].state = .stopping → Booked p s → Booked p t

section
variable {p q : Pump} {s t u : State}

theorem Spared.trans (a : Spared p s t) (b : Spared p t u) : Spared p s u :=
  ⟨a.toBystander.trans b.toBystander, fun drawing held =>
    b.booked (by rw [unbooked_state a.unbooked]; exact drawing) (a.booked drawing held)⟩

theorem booked_of_same (carries : Carries s t) (own : t.pumps[p] = s.pumps[p])
    (states : ∀ d : Pump, houseOf d = houseOf p → t.pumps[d].state = s.pumps[d].state) (held : Booked p s) : Booked p t := by
  have count : bookingCount t (houseOf p) = bookingCount s (houseOf p) := by
    unfold bookingCount pumpsIn
    exact congrArg List.length (List.filter_congr fun d mem => by rw [states d (mem_pumpsOf.mp mem)])
  unfold Booked at held ⊢
  rw [own, held, count, drawB_of_banks carries.banks]

theorem Spared.of_pumps (carries : Carries s t) (pumps : t.pumps = s.pumps) : Spared p s t :=
  ⟨.of_pumps carries pumps, fun _ => booked_of_same carries (by rw [pumps]) fun d _ => by rw [pumps]⟩

theorem Spared.refl (p : Pump) (s : State) : Spared p s s := .of_pumps (Carries.refl s) rfl

/-- A pump's record changed with its state kept. -/
theorem Spared.of_set (apart : q ≠ p) {r : PumpLive} (carries : Carries s t) (pumps : t.pumps = s.pumps.set q r)
    (state : r.state = s.pumps[q].state) : Spared p s t := by
  refine ⟨.of_set apart carries pumps, fun _ => booked_of_same carries (by rw [get_of_set pumps, if_neg apart]) fun d _ => ?_⟩
  rw [get_of_set pumps]
  split
  · next e => rw [state, e]
  · rfl

theorem Spared.turned (apart : q ≠ p) {r : PumpLive} (carries : Carries s t) (turned : Turned q r s t) : Spared p s t := by
  refine ⟨.turned apart carries turned, fun drawing held => ?_⟩
  by_cases house : houseOf p = houseOf q
  · have own := turned.other apart
    rw [rebooked_drawing house drawing, ← house] at own
    unfold Booked
    rw [own]
  · refine booked_of_same carries ?_ (fun d within => ?_) held
    · rw [turned.other apart, rebooked_elsewhere house]
    · rw [turned.state, if_neg fun e => house (by rw [e]; exact within.symm)]

end

/-! ### Records added -/

/-- The RESOLVED records among some, by pump and reported state. -/
def resolvedIn (rs : List EventRecord) : List (Option Pump × Nat) :=
  (rs.filter fun x => x.kind == .resolved).map fun x => (x.pump, x.value1)

/-- While the Event Queue has room for `n` records more, at most so many are added, with `told` resolved in them. -/
def Tells (n : Nat) (told : List (Option Pump × Nat)) (s t : State) : Prop :=
  s.eventQueue.records.length + n ≤ 128 →
    ∃ rs, t.eventQueue.records = s.eventQueue.records ++ rs ∧ rs.length ≤ n ∧ resolvedIn rs = told

section
variable {s t u : State} {n m : Nat} {told more : List (Option Pump × Nat)}

theorem Tells.of_events (h : t.eventQueue = s.eventQueue) : Tells 0 [] s t :=
  fun _ => ⟨[], by rw [h, List.append_nil], le_rfl, rfl⟩

theorem Tells.trans (a : Tells n told s t) (b : Tells m more t u) : Tells (n + m) (told ++ more) s u := by
  intro room
  obtain ⟨rs, first, few, kept⟩ := a (by omega)
  obtain ⟨rest, second, few', kept'⟩ := b (by rw [first, List.length_append]; omega)
  refine ⟨rs ++ rest, by rw [second, first, List.append_assoc], by rw [List.length_append]; omega, ?_⟩
  rw [resolvedIn, List.filter_append, List.map_append, ← kept, ← kept']
  rfl

theorem Tells.widen (a : Tells n told s t) (h : n ≤ m) : Tells m told s t := by
  intro room
  obtain ⟨rs, first, few, kept⟩ := a (by omega)
  exact ⟨rs, first, few.trans h, kept⟩

theorem raise_records_room (room : s.eventQueue.records.length + 1 ≤ 128) (k : EventKind) (h : Option House) (p : Option Pump)
    (c : Option Tank) (v w : Nat) :
    (raise k h p c v w s).eventQueue.records = s.eventQueue.records ++ [eventNow k h p c v w s] := by
  have same : (raise k h p c v w s).eventQueue.records = (enterEvent (eventNow k h p c v w s) s.eventQueue).records := rfl
  rw [same, enterEvent, if_pos (by omega)]

theorem raisePump_tells {k : EventKind} (other : k ≠ .resolved) (p : Pump) (v w : Nat) (s : State) :
    Tells 1 [] s (raisePump k p v w s) := by
  refine fun room => ⟨[_], raise_records_room room .., le_rfl, ?_⟩
  have kind : (k == EventKind.resolved) = false := by simpa using other
  simp [resolvedIn, eventNow, kind]

theorem resolved_tells (p : Pump) (rep : Reported) (w : Nat) (s : State) :
    Tells 1 [(some p, reportedCode rep)] s (raisePump .resolved p (reportedCode rep) w s) := by
  refine fun room => ⟨[_], raise_records_room room .., le_rfl, ?_⟩
  cases rep <;> rfl

/-- The records depend on the Event Queue alone. -/
theorem Tells.of_same (a : Tells n told s t) (before : u.eventQueue = s.eventQueue) : Tells n told u t := by
  intro room
  rw [before] at room ⊢
  exact a room

end

/-! ### Passes and duty lists -/

/-- The passes called for do not fall, and no pump joins a duty list. -/
structure Heeds (s t : State) : Prop where
  passes : s.work.passes ≤ t.work.passes
  duty : ∀ h : House, (t.houses[h].dutyList).Sublist s.houses[h].dutyList

section
variable {s t u : State} {q : Pump}

theorem Heeds.trans (a : Heeds s t) (b : Heeds t u) : Heeds s u :=
  ⟨a.passes.trans b.passes, fun h => (b.duty h).trans (a.duty h)⟩

theorem Heeds.of_same (work : t.work = s.work) (houses : t.houses = s.houses) : Heeds s t :=
  ⟨by rw [work], fun h => by rw [houses]⟩

theorem Heeds.refl (s : State) : Heeds s s := .of_same rfl rfl

theorem Heeds.upd (a : Heeds s t) (q : Pump) (f : PumpLive → PumpLive) : Heeds s (updPump q f t) := ⟨a.passes, a.duty⟩

theorem Heeds.raised (a : Heeds s t) (k : EventKind) (q : Pump) (v w : Nat) : Heeds s (raisePump k q v w t) :=
  ⟨a.passes, a.duty⟩

theorem resum_passes (s : State) : s.work.passes ≤ (resum s).work.passes := by
  have passes : (resum s).work.passes =
      if sumBookings s < s.feeder.committed then s.work.passes + 1 else s.work.passes := rfl
  rw [passes]
  split <;> omega

theorem heeds_pumpChanged (q : Pump) (s : State) : Heeds s (pumpChanged q s) := by
  have first := resum_passes s
  have second := (fallsCounted_rebook (resum_sums s) (houseOf q)).passes
  refine ⟨?_, fun h => by rw [pumpChanged_houses]⟩
  unfold pumpChanged
  generalize rebook resum (houseOf q) (resum s) = t at second ⊢
  exact first.trans second

theorem Heeds.changed (a : Heeds s t) (q : Pump) : Heeds s (pumpChanged q t) := a.trans (heeds_pumpChanged q t)

theorem heeds_releasePermit (q : Pump) (s : State) : Heeds s (releasePermit q s) := by
  unfold releasePermit
  dsimp only
  split
  · exact ⟨Nat.le_succ _, fun _ => List.Sublist.refl _⟩
  · exact .of_same rfl rfl

theorem heeds_takeOut (q : Pump) (st : PumpState) (s : State) : Heeds s (takeOut q st s) := by
  refine ⟨(heeds_releasePermit q (leaveStartQueue q s)).passes, fun h => (takeOut_retires q s st).duty h⟩

theorem heeds_actIsolate (q : Pump) (s : State) : Heeds s (actIsolate q s) := by
  unfold actIsolate
  split
  · exact (heeds_takeOut q .isolated s).upd q _
  · exact .refl s

theorem heeds_enterLocal (q : Pump) (s : State) : Heeds s (enterLocal q s) := by
  unfold enterLocal
  exact ((heeds_takeOut q _ s).upd q _).trans (heeds_actIsolate q _)

theorem heeds_enterFaulted (q : Pump) (c : FaultCause) (s : State) : Heeds s (enterFaulted q c s) := by
  unfold enterFaulted
  exact (((heeds_takeOut q _ s).upd q _).raised .pumpFault q _ _).trans (heeds_actIsolate q _)

theorem heeds_actStopped (q : Pump) (s : State) : Heeds s (actStopped q s) := by
  unfold actStopped
  split
  · exact heeds_enterFaulted q _ s
  · exact heeds_actIsolate q s

theorem heeds_beginStop (c : StopCause) (q : Pump) (s : State) : Heeds s (beginStop c q s) := by
  unfold beginStop
  have joined (u : State) : Heeds u (joinOrder q .stop u) := .of_same (by simp [joinOrder]) (by simp [joinOrder])
  exact ((((heeds_releasePermit q s).upd q _).trans (joined _)).changed q).raised .stopIssued q _ _

end

end Sys2Proof.Machine
end

section
/-! SUPPORT. One pump adopted at the survey's end (R82): what it leaves of the others, and the record it makes where no flag
waits; O50. -/

namespace Sys2Proof.Machine

section
variable {p q : Pump} {rep : Reported} {s t u : State}

/-! ### Records -/

/-- The record of a pump adopted as stopped at the survey's end (R82). -/
def surveyedRecord (r : PumpLive) : PumpLive :=
  { r with
    state := .ready, permit := none, permitRelease := none, booking := 0, admittedM := none, startTime := none
    admittedStart := false, minRunUntil := none, minOffUntil := none, lastStop := none, timedOut := none, stopCause := none }

/-- A pump taken RUNNING at the survey's end, with its event (R82). -/
def surveyedRun (q : Pump) (s : State) : State :=
  raisePump .resolved q (reportedCode .run) (pumpStateCode .running)
    (pumpChanged q (updPump q (adoptedFields (s.pumps[q].lastReportedAt.getD (now s))) s))

theorem adoptSurveyed_run (q : Pump) (s : State) : adoptSurveyed q .run s = actStarted q (surveyedRun q s) := rfl

theorem surveyedRun_turned (q : Pump) (s : State) :
    Turned q (adoptedFields (s.pumps[q].lastReportedAt.getD (now s)) s.pumps[q]) s (surveyedRun q s) :=
  (Turned.of_changed (u := updPump q _ s) rfl).congr (raise_pumps ..) (raise_banks ..)

theorem surveyedRun_state (q : Pump) (s : State) : (surveyedRun q s).pumps[q].state = .running := by
  rw [(surveyedRun_turned q s).state, if_pos rfl]
  rfl

/-- A pump taken stopped at the survey's end, with its event, its flags not acted on (R82). -/
def surveyedStop (q : Pump) (s : State) : State :=
  raisePump .resolved q (reportedCode .stop) (pumpStateCode .ready)
    (updPump q (fun r => { r with state := .ready, booking := 0, admittedM := none, startTime := none,
                                  admittedStart := false, minRunUntil := none, minOffUntil := none,
                                  lastStop := none, timedOut := none, stopCause := none }) (releasePermit q s))

theorem adoptSurveyed_stop (q : Pump) (s : State) : adoptSurveyed q .stop s = pumpChanged q (actStopped q (surveyedStop q s)) :=
  rfl

theorem surveyedStop_pumps (q : Pump) (s : State) : (surveyedStop q s).pumps = s.pumps.set q (surveyedRecord s.pumps[q]) := by
  simp [surveyedStop, raisePump, surveyedRecord]

theorem surveyedStop_turned (q : Pump) (s : State) :
    Turned q (stopActed (surveyedRecord s.pumps[q])) s (adoptSurveyed q .stop s) := by
  rw [adoptSurveyed_stop]
  refine Turned.of_changed ?_
  rw [actStopped_pumps, surveyedStop_pumps]
  simp

/-- A RUNNING pump with flags that wait takes a PROTECT stop (R53). -/
theorem actStarted_running (running : s.pumps[q].state = .running) : actStarted q s = s ∨
    actStarted q s = beginStop .protect q (updPump q (fun r => { r with protectPending := false }) s) := by
  unfold actStarted
  dsimp only
  split
  · right
    have state : (updPump q (fun r => { r with protectPending := false }) s).pumps[q].state = .running := by
      rw [updPump_self]
      exact running
    generalize updPump q (fun r => { r with protectPending := false }) s = t at state
    unfold issueStop
    rw [state]
  · exact .inl rfl

/-! ### What is carried along -/

theorem surveyedRun_carries (q : Pump) (s : State) : Carries s (surveyedRun q s) :=
  (((Carries.refl s).upd q _).changed q).raised .resolved q _ _

theorem surveyedStop_carries (q : Pump) (s : State) : Carries s (surveyedStop q s) :=
  (((Carries.refl s).released q).upd q _).raised .resolved q _ _

theorem adoptSurveyed_carries (q : Pump) (rep : Reported) (s : State) : Carries s (adoptSurveyed q rep s) := by
  cases rep with
  | run => exact (surveyedRun_carries q s).startActed q
  | stop => exact ((surveyedStop_carries q s).stopActed q).changed q
  | trip => exact ((Carries.refl s).faultReported q _).raised .resolved q _ _
  | localControl => exact ((Carries.refl s).localReported q).raised .resolved q _ _

theorem adoptSurveyed_heeds (q : Pump) (rep : Reported) (s : State) : Heeds s (adoptSurveyed q rep s) := by
  cases rep with
  | run =>
    have run : Heeds s (surveyedRun q s) := ((Heeds.refl s).upd q _ |>.changed q).raised .resolved q _ _
    rw [adoptSurveyed_run]
    rcases actStarted_running (surveyedRun_state q s) with same | stops
    · rw [same]
      exact run
    · rw [stops]
      exact (run.upd q _).trans (heeds_beginStop _ q _)
  | stop =>
    have stop : Heeds s (surveyedStop q s) := ((heeds_releasePermit q s).upd q _).raised .resolved q _ _
    exact (stop.trans (heeds_actStopped q _)).changed q
  | trip => exact ((heeds_enterFaulted q _ s).changed q).raised .resolved q _ _
  | localControl => exact ((heeds_enterLocal q s).changed q).raised .resolved q _ _

theorem protectTaken_spared (apart : q ≠ p) (s : State) :
    Spared p s (beginStop .protect q (updPump q (fun r => { r with protectPending := false }) s)) := by
  refine Spared.trans (.of_set apart ((Carries.refl s).upd q fun r => { r with protectPending := false }) rfl rfl) ?_
  exact .turned apart ((Carries.refl _).stopBegun .protect q) (beginStop_turned .protect q _)

/-- The adoption of another pump. -/
theorem adoptSurveyed_spared (apart : q ≠ p) (rep : Reported) (s : State) : Spared p s (adoptSurveyed q rep s) := by
  have carries := adoptSurveyed_carries q rep s
  cases rep with
  | run =>
    have run : Spared p s (surveyedRun q s) := .turned apart (surveyedRun_carries q s) (surveyedRun_turned q s)
    rw [adoptSurveyed_run]
    rcases actStarted_running (surveyedRun_state q s) with same | stops
    · rw [same]
      exact run
    · rw [stops]
      exact run.trans (protectTaken_spared apart _)
  | stop => exact .turned apart carries (surveyedStop_turned q s)
  | trip => exact .turned apart carries ((faultFromReport_turned q .stationTrip s).congr (raise_pumps ..) (raise_banks ..))
  | localControl => exact .turned apart carries ((localFromReport_turned q s).congr (raise_pumps ..) (raise_banks ..))

theorem actStopped_tells (q : Pump) (s : State) : Tells 1 [] s (actStopped q s) := by
  unfold actStopped
  split
  · next c _ =>
    intro room
    rw [enterFaulted_events]
    exact raisePump_tells EventKind.noConfusion q _ _ s room
  · refine (Tells.of_events ?_).widen (Nat.zero_le 1)
    unfold actIsolate
    split
    · simp [enterIsolated, takeOut, leaveDuty, leaveStartQueue]
    · rfl

theorem beginStop_tells (c : StopCause) (q : Pump) (s : State) : Tells 1 [] s (beginStop c q s) := by
  have quiet : (pumpChanged q (joinOrder q .stop (updPump q (fun r =>
      { r with state := .stopping, windowEnd := none, stopCause := some c,
               isolatePending := r.isolatePending || c == .isolate }) (releasePermit q s)))).eventQueue = s.eventQueue := by
    simp [joinOrder]
  exact (raisePump_tells (k := .stopIssued) EventKind.noConfusion q _ 0 _).of_same quiet.symm

theorem protectTaken_tells (q : Pump) (s : State) :
    Tells 1 [] s (beginStop .protect q (updPump q (fun r => { r with protectPending := false }) s)) :=
  (beginStop_tells .protect q _).of_same rfl

/-- The records of an adoption: RESOLVED, and what the flags that wait add (R82). -/
theorem adoptSurveyed_tells (q : Pump) (rep : Reported) (s : State) :
    Tells 2 [(some q, reportedCode rep)] s (adoptSurveyed q rep s) := by
  cases rep with
  | run =>
    have quiet : (pumpChanged q (updPump q (adoptedFields (s.pumps[q].lastReportedAt.getD (now s))) s)).eventQueue = s.eventQueue :=
      pumpChanged_eventQueue q _
    have run : Tells 1 [(some q, reportedCode .run)] s (surveyedRun q s) := (resolved_tells q .run _ _).of_same quiet.symm
    rw [adoptSurveyed_run]
    rcases actStarted_running (surveyedRun_state q s) with same | stops
    · rw [same]
      exact run.widen (by omega)
    · rw [stops]
      simpa using run.trans (protectTaken_tells q _)
  | stop =>
    have quiet : (releasePermit q s).eventQueue = s.eventQueue := releasePermit_eventQueue q s
    have stop : Tells 1 [(some q, reportedCode .stop)] s (surveyedStop q s) := (resolved_tells q .stop _ _).of_same quiet.symm
    have acted := stop.trans (actStopped_tells q (surveyedStop q s))
    intro room
    rw [adoptSurveyed_stop, pumpChanged_eventQueue]
    simpa using acted room
  | trip =>
    have fault : Tells 1 [] s (faultFromReport q .stationTrip s) := fun room => by
      rw [faultFromReport_events]
      exact raisePump_tells EventKind.noConfusion q _ _ s room
    exact fault.trans (resolved_tells q .trip (pumpStateCode .faulted) _)
  | localControl =>
    have told := (Tells.of_events (localFromReport_events q s)).trans (resolved_tells q .localControl (pumpStateCode .localControl) _)
    exact told.widen (by omega)

end

end Sys2Proof.Machine
end

section
/-! SUPPORT. The adoptions at the survey's end, one pump after another (R82): the record that each adopted pump takes, and
what they leave of the others; O50. -/

namespace Sys2Proof.Machine

section
variable {p q : Pump} {rep : Reported} {r : PumpLive} {s t u : State}

/-! ### One adoption -/

/-- The record that a pump with no flag that waits takes from its last reported state, reported at an uptime (R82). -/
def surveyRecord (at_ : Nat) (rep : Reported) (r : PumpLive) : PumpLive :=
  match rep with
  | .run => adoptedFields at_ r
  | .stop => surveyedRecord r
  | .trip => outRecord .faulted (some .stationTrip) r
  | .localControl => outRecord .localControl none r

theorem adoptSurveyed_turned (clear : Unflagged s.pumps[q]) (rep : Reported) :
    Turned q (surveyRecord (s.pumps[q].lastReportedAt.getD (now s)) rep s.pumps[q]) s (adoptSurveyed q rep s) := by
  cases rep with
  | run =>
    have run := surveyedRun_turned q s
    have quiet : actStarted q (surveyedRun q s) = surveyedRun q s := by
      refine actStarted_of_clear ?_
      rw [run.self]
      exact (clear.adopted _).rebooked ..
    rw [adoptSurveyed_run, quiet]
    exact run
  | stop =>
    have stop := surveyedStop_turned q s
    have quiet : stopActed (surveyedRecord s.pumps[q]) = surveyedRecord s.pumps[q] := by
      unfold stopActed
      rw [show (surveyedRecord s.pumps[q]).faultPending = none from clear.fault]
      exact if_neg (by rw [show (surveyedRecord s.pumps[q]).isolatePending = false from clear.isolate]; exact Bool.noConfusion)
    rwa [quiet] at stop
  | trip => exact (reconciled_fault clear .stationTrip).turned.congr (raise_pumps ..) (raise_banks ..)
  | localControl => exact (reconciled_local clear).turned.congr (raise_pumps ..) (raise_banks ..)

theorem adoptSurveyed_trip_out (q : Pump) (s : State) : OutOfService q (adoptSurveyed q .trip s) :=
  (faultFromReport_out q .stationTrip s).of_same (raise_pumps ..) (raise_houses ..)

theorem adoptSurveyed_local_out (q : Pump) (s : State) : OutOfService q (adoptSurveyed q .localControl s) :=
  (localFromReport_out q s).of_same (raise_pumps ..) (raise_houses ..)

theorem Turned.booked (turned : Turned p r s t) (drawing : r.state = .running ∨ r.state = .stopping) : Booked p t := by
  rw [Booked, turned.self, rebooked_drawing rfl drawing]

/-! ### Which pumps are adopted -/

/-- The reported state that a pump is adopted from, none where it stays as it is (R82). -/
def reportToAdopt (s : State) (p : Pump) : Option Reported :=
  if s.pumps[p].state = .unconfirmed ∧ s.bus.stations[stationOf s (houseOf p)].state ≠ .silent then s.pumps[p].lastReported
  else none

theorem adoptAtSurveyEnd_none (none_ : reportToAdopt s p = none) : adoptAtSurveyEnd s p = s := by
  unfold reportToAdopt at none_
  unfold adoptAtSurveyEnd
  dsimp only
  split
  · next c =>
    rw [if_pos (by simpa using c)] at none_
    rw [none_]
  · rfl

theorem adoptAtSurveyEnd_some (some_ : reportToAdopt s p = some rep) : adoptAtSurveyEnd s p = adoptSurveyed p rep s := by
  unfold reportToAdopt at some_
  unfold adoptAtSurveyEnd
  dsimp only
  split at some_
  · next c =>
    rw [if_pos (by simpa using c), some_]
  · cases some_

theorem reportToAdopt_unconfirmed (some_ : reportToAdopt s p = some rep) : s.pumps[p].state = .unconfirmed := by
  unfold reportToAdopt at some_
  split at some_
  · next c => exact c.1
  · cases some_

theorem Carries.stationState (h : Carries s t) (st : Station) : t.bus.stations[st].state = s.bus.stations[st].state := by
  have stations : t.bus.stations.map untagged = s.bus.stations.map untagged := congrArg Standing.stations h.standing
  have one := congrArg (fun v => v[st].state) stations
  simpa [untagged] using one

theorem Bystander.reportToAdopt (h : Bystander p s t) : reportToAdopt t p = reportToAdopt s p := by
  have reported : t.pumps[p].lastReported = s.pumps[p].lastReported := by
    have same := congrArg PumpLive.lastReported h.unbooked
    exact same
  have station : stationOf t (houseOf p) = stationOf s (houseOf p) := by rw [stationOf, stationOf, h.carries.plan]
  simp only [Machine.reportToAdopt, unbooked_state h.unbooked, h.carries.stationState, station, reported]

/-! ### One after another -/

theorem adoptAtSurveyEnd_cases (s : State) (q : Pump) :
    adoptAtSurveyEnd s q = s ∧ reportToAdopt s q = none ∨
      ∃ rep, reportToAdopt s q = some rep ∧ adoptAtSurveyEnd s q = adoptSurveyed q rep s := by
  cases some_ : reportToAdopt s q with
  | none => exact .inl ⟨adoptAtSurveyEnd_none some_, rfl⟩
  | some rep => exact .inr ⟨rep, rfl, adoptAtSurveyEnd_some some_⟩

theorem adoptAtSurveyEnd_heeds (s : State) (q : Pump) : Heeds s (adoptAtSurveyEnd s q) := by
  obtain ⟨same, -⟩ | ⟨rep, -, eq⟩ := adoptAtSurveyEnd_cases s q
  · rw [same]
    exact .refl s
  · rw [eq]
    exact adoptSurveyed_heeds q rep s

theorem adoptAtSurveyEnd_spared (stays : q ≠ p ∨ reportToAdopt s p = none) : Spared p s (adoptAtSurveyEnd s q) := by
  obtain ⟨same, -⟩ | ⟨rep, adopts, eq⟩ := adoptAtSurveyEnd_cases s q
  · rw [same]
    exact .refl p s
  · rw [eq]
    refine adoptSurveyed_spared (stays.elim id fun none_ e => ?_) rep s
    rw [e, none_] at adopts
    cases adopts

theorem adoptAtSurveyEnd_tells (s : State) (q : Pump) :
    Tells 2 ((reportToAdopt s q).map fun rep => (some q, reportedCode rep)).toList s (adoptAtSurveyEnd s q) := by
  obtain ⟨same, none_⟩ | ⟨rep, adopts, eq⟩ := adoptAtSurveyEnd_cases s q
  · rw [same, none_]
    exact (Tells.of_events rfl).widen (Nat.zero_le 2)
  · rw [eq, adopts]
    exact adoptSurveyed_tells q rep s

theorem adoptAtSurveyEnd_carries (s : State) (q : Pump) : Carries s (adoptAtSurveyEnd s q) := by
  obtain ⟨same, -⟩ | ⟨rep, -, eq⟩ := adoptAtSurveyEnd_cases s q
  · rw [same]
    exact .refl s
  · rw [eq]
    exact adoptSurveyed_carries q rep s

theorem surveyAdoptions_carries (ps : List Pump) (s : State) : Carries s (ps.foldl adoptAtSurveyEnd s) := by
  induction ps generalizing s with
  | nil => exact .refl s
  | cons q ps ih => exact (adoptAtSurveyEnd_carries s q).trans (ih _)

theorem surveyAdoptions_heeds (ps : List Pump) (s : State) : Heeds s (ps.foldl adoptAtSurveyEnd s) := by
  induction ps generalizing s with
  | nil => exact .refl s
  | cons q ps ih => exact (adoptAtSurveyEnd_heeds s q).trans (ih _)

/-- A pump that is not among those taken up, or that is not adopted. -/
theorem surveyAdoptions_spared {ps : List Pump} (stays : p ∉ ps ∨ reportToAdopt s p = none) :
    Spared p s (ps.foldl adoptAtSurveyEnd s) := by
  induction ps generalizing s with
  | nil => exact .refl p s
  | cons q ps ih =>
    have first : Spared p s (adoptAtSurveyEnd s q) :=
      adoptAtSurveyEnd_spared (stays.imp_left fun h e => h (by rw [e]; exact List.mem_cons_self))
    refine first.trans (ih (stays.imp (fun h m => h (List.mem_cons_of_mem _ m)) fun none_ => ?_))
    rw [first.reportToAdopt, none_]

/-- A pump adopted among others: they spare it before and after. -/
theorem surveyAdoptions_adopted {ps : List Pump} (once : ps.Nodup) (mem : p ∈ ps) (adopts : reportToAdopt s p = some rep) :
    ∃ a, Spared p s a ∧ Spared p (adoptSurveyed p rep a) (ps.foldl adoptAtSurveyEnd s) ∧
      Heeds (adoptSurveyed p rep a) (ps.foldl adoptAtSurveyEnd s) := by
  obtain ⟨front, back, rfl⟩ := List.append_of_mem mem
  rw [List.nodup_append, List.nodup_cons] at once
  have before : Spared p s (front.foldl adoptAtSurveyEnd s) :=
    surveyAdoptions_spared (.inl fun m => once.2.2 p m p List.mem_cons_self rfl)
  refine ⟨_, before, ?_⟩
  rw [List.foldl_append, List.foldl_cons, adoptAtSurveyEnd_some (before.reportToAdopt.trans adopts)]
  exact ⟨surveyAdoptions_spared (.inl once.2.1.1), surveyAdoptions_heeds ..⟩

/-- The records of the adoptions: RESOLVED for each, in their order (log 50). -/
theorem surveyAdoptions_tells {ps : List Pump} (once : ps.Nodup) (s : State) :
    Tells (2 * ps.length) (ps.filterMap fun p => (reportToAdopt s p).map fun rep => (some p, reportedCode rep)) s
      (ps.foldl adoptAtSurveyEnd s) := by
  induction ps generalizing s with
  | nil => exact Tells.of_events rfl
  | cons q ps ih =>
    rw [List.nodup_cons] at once
    have both := (adoptAtSurveyEnd_tells s q).trans (ih once.2 (adoptAtSurveyEnd s q))
    have later : (ps.filterMap fun p => (reportToAdopt (adoptAtSurveyEnd s q) p).map fun rep => (some p, reportedCode rep)) =
        ps.filterMap fun p => (reportToAdopt s p).map fun rep => (some p, reportedCode rep) :=
      List.filterMap_congr fun p mem => by
        rw [(adoptAtSurveyEnd_spared (.inl fun e => once.1 (by rw [e]; exact mem))).reportToAdopt]
    rw [later] at both
    rw [List.filterMap_cons, List.length_cons, List.foldl_cons, show 2 * (ps.length + 1) = 2 + 2 * ps.length by omega]
    cases adopts : reportToAdopt s q with
    | none => simpa [adopts] using both
    | some rep => simpa [adopts] using both

end

end Sys2Proof.Machine
end

section
/-! SUPPORT. What the survey's end leaves (R82, R83): the re-booking of the houses in use, SURVEY_DONE and the calls; O50. -/

namespace Sys2Proof.Machine

section
variable {p : Pump} {rep : Reported} {s t : State}

/-! ### Houses re-booked one after another -/

theorem heeds_rebook (h : House) (s : State) : Heeds s (rebook resum h s) := by
  have walk (m : Nat) (ps : List Pump) (s : State) : Heeds s (ps.foldl (rebookPump resum m) s) := by
    induction ps generalizing s with
    | nil => exact .refl s
    | cons q ps ih =>
      refine Heeds.trans ?_ (ih _)
      unfold rebookPump
      dsimp only
      split
      · exact ((Heeds.refl s).upd q _).trans ⟨resum_passes _, fun _ => List.Sublist.refl _⟩
      · exact .refl s
  exact walk _ _ s

theorem heeds_rebookAll (hs : List House) (s : State) : Heeds s (hs.foldl (fun s h => rebook resum h s) s) := by
  induction hs generalizing s with
  | nil => exact .refl s
  | cons h hs ih =>
    rw [List.foldl_cons]
    have first := heeds_rebook h s
    generalize rebook resum h s = t at first
    exact first.trans (ih t)

theorem rebookAll_bookings (hs : List House) (s : State) : Bookings s (hs.foldl (fun s h => rebook resum h s) s) :=
  foldl_bookings (fun s h => rebook_bookings sums_resum h s) hs s

/-- The pumps of the houses among those re-booked take their draws (R87). -/
theorem rebookAll_get (hs : List House) (s : State) (p : Pump) :
    (hs.foldl (fun s h => rebook resum h s) s).pumps[p] =
      if houseOf p ∈ hs then rebooked s (houseOf p) p s.pumps[p] else s.pumps[p] := by
  induction hs generalizing s with
  | nil => rfl
  | cons h hs ih =>
    have again (r : PumpLive) : rebooked s (houseOf p) p (rebooked s (houseOf p) p r) = rebooked s (houseOf p) p r := by
      unfold rebooked
      split <;> simp_all
    rw [List.foldl_cons, ih,
      rebooked_congr (rebook_states sums_resum h s) (rebook_bookings sums_resum h s).banks, rebook_get sums_resum]
    by_cases own : houseOf p = h
    · subst own
      simp [again]
    · rw [rebooked_elsewhere own]
      simp [own]

theorem noticeAll_notices (hs : List House) (s : State) (h : House) :
    (noticeAll hs s).work.notices[h] = true ↔ h ∈ hs ∨ s.work.notices[h] = true := by
  unfold noticeAll
  induction hs generalizing s with
  | nil => simp
  | cons g hs ih =>
    have first : (notice g s).work.notices[h] = true ↔ h = g ∨ s.work.notices[h] = true := by
      have notices : (notice g s).work.notices[h] = (s.work.notices.set g true)[h] := rfl
      rw [notices, Fin.getElem_fin, Vector.getElem_set]
      by_cases e : g = h
      · simp [e]
      · have values : ¬ g.val = h.val := fun v => e (Fin.ext v)
        simp [values, Ne.symm e]
    rw [List.foldl_cons, ih, first, List.mem_cons]
    tauto

theorem noticeAll_writes (hs : List House) (s : State) :
    ∃ n, noticeAll hs s = { s with work := { s.work with notices := n } } := by
  unfold noticeAll
  induction hs generalizing s with
  | nil => exact ⟨_, rfl⟩
  | cons g hs ih =>
    obtain ⟨n, eq⟩ := ih (notice g s)
    exact ⟨n, by rw [List.foldl_cons, eq]; rfl⟩

/-! ### The survey's end -/

/-- The houses in use re-booked, with a shed test, their evaluations and an admission pass called for (R82). -/
def housesCalled (s : State) : State :=
  (planOf s).housesInUse.foldl (fun s h => rebook resum h s) s |> resum |> callShedTest |>
    noticeAll (planOf s).housesInUse |> triggerPass

theorem mem_housesInUse {h : House} : h ∈ (planOf s).housesInUse ↔ houseInUse s h = true := by
  unfold Plan.housesInUse houseInUse
  rw [List.mem_filter]
  exact and_iff_right (List.mem_finRange h)

/-- What a call of every house in use leaves. -/
structure Called (s t : State) : Prop where
  survey : t.survey = s.survey
  pumps : ∀ p : Pump, t.pumps[p] =
    if houseInUse s (houseOf p) = true then rebooked s (houseOf p) p s.pumps[p] else s.pumps[p]
  banks : t.banks = s.banks
  houses : t.houses = s.houses
  events : t.eventQueue = s.eventQueue
  sums : SumsHold t
  surveyEnd : t.work.surveyEnd = s.work.surveyEnd
  shedTest : t.work.shedTest = true
  passes : s.work.passes < t.work.passes
  notices : ∀ h : House, houseInUse s h = true → t.work.notices[h] = true

theorem housesCalled_called (s : State) : Called s (housesCalled s) := by
  have get := rebookAll_get (planOf s).housesInUse s
  have passes := (heeds_rebookAll (planOf s).housesInUse s).passes
  obtain ⟨v, c, f, n, b, eq⟩ := (rebookAll_bookings (planOf s).housesInUse s).writes
  unfold housesCalled
  generalize (planOf s).housesInUse.foldl (fun s h => rebook resum h s) s = t at *
  have summed := resum_sums t
  have passes' := resum_passes t
  generalize summedEq : resum t = u at *
  obtain ⟨ns, called⟩ := noticeAll_writes (planOf s).housesInUse (callShedTest u)
  have notices := noticeAll_notices (planOf s).housesInUse (callShedTest u)
  have pumps : u.pumps = t.pumps := by rw [← summedEq]; rfl
  have survey : u.survey = s.survey := by rw [← summedEq, eq]; rfl
  have banks : u.banks = s.banks := by rw [← summedEq, eq]; rfl
  have houses : u.houses = s.houses := by rw [← summedEq, eq]; rfl
  have events : u.eventQueue = s.eventQueue := by rw [← summedEq, eq]; rfl
  have surveyEnd : u.work.surveyEnd = s.work.surveyEnd := by rw [← summedEq, eq]; rfl
  clear eq summedEq
  generalize noticeAll (planOf s).housesInUse (callShedTest u) = w at *
  have states : (triggerPass w).pumps = u.pumps := by rw [called]; rfl
  refine ⟨?_, fun p => ?_, ?_, ?_, ?_, ?_, ?_, ?_, ?_, fun h inUse => ?_⟩
  · exact (congrArg State.survey called).trans survey
  · simp only [states, pumps, get p, mem_housesInUse]
  · exact (congrArg State.banks called).trans banks
  · exact (congrArg State.houses called).trans houses
  · exact (congrArg State.eventQueue called).trans events
  · exact summed.of_same states ((congrArg State.feeder called :))
  · exact (congrArg (fun s => s.work.surveyEnd) called :).trans surveyEnd
  · exact (congrArg (fun s => s.work.shedTest) called :)
  · have last : (triggerPass w).work.passes = u.work.passes + 1 := by rw [called]; rfl
    omega
  · exact (notices h).mpr (.inl (mem_housesInUse.mpr inUse))

/-- The state after the adoptions of the survey's end. -/
def surveyAdopted (s : State) : State := (pumpsInUse s).foldl adoptAtSurveyEnd s

/-- The survey is over, with SURVEY_DONE (R83). -/
def surveyTold (s : State) : State :=
  raisePart .surveyDone s.survey.answered (unconfirmedCount s) { s with survey := { s.survey with running := false } }

theorem endSurvey_eq (s : State) : endSurvey s = housesCalled (surveyTold (surveyAdopted s)) := rfl

end

end Sys2Proof.Machine
end

section
/-! SUPPORT. The survey's end for each pump, and the records it adds (R82, R83); O50. -/

namespace Sys2Proof.Machine

section
variable {p : Pump} {rep : Reported} {s t : State}

/-! ### The state in which SURVEY_DONE is raised -/

theorem surveyAdopted_carries (s : State) : Carries s (surveyAdopted s) := surveyAdoptions_carries _ s

theorem endSurvey_called (s : State) : Called (surveyTold (surveyAdopted s)) (endSurvey s) := by
  rw [endSurvey_eq]
  exact housesCalled_called _

theorem endSurvey_standing (s : State) : standing (endSurvey s) = standing s := (endSurvey_on (Follows.refl s)).standing

theorem endSurvey_get (s : State) (p : Pump) : (endSurvey s).pumps[p] =
    if houseInUse s (houseOf p) = true then rebooked (surveyAdopted s) (houseOf p) p (surveyAdopted s).pumps[p]
    else (surveyAdopted s).pumps[p] := by
  have inUse : houseInUse (surveyTold (surveyAdopted s)) (houseOf p) = houseInUse s (houseOf p) := by
    have plan : planOf (surveyTold (surveyAdopted s)) = planOf s := (surveyAdopted_carries s).plan
    unfold houseInUse
    rw [plan]
  have get := (endSurvey_called s).pumps p
  rw [inUse] at get
  exact get

theorem endSurvey_states (s : State) : SameStates (surveyAdopted s) (endSurvey s) := fun p => by
  rw [endSurvey_get]
  split
  · exact rebooked_state ..
  · rfl

theorem endSurvey_unbooked (s : State) (p : Pump) :
    unbooked (endSurvey s).pumps[p] = unbooked (surveyAdopted s).pumps[p] := by
  rw [endSurvey_get]
  split
  · exact unbooked_rebooked ..
  · rfl

theorem endSurvey_idle (running : (surveyAdopted s).pumps[p].state ≠ .running)
    (stopping : (surveyAdopted s).pumps[p].state ≠ .stopping) : (endSurvey s).pumps[p] = (surveyAdopted s).pumps[p] := by
  rw [endSurvey_get, rebooked_idle running stopping, ite_self]

/-- A draw at the survey's end is the one at the booking count that it leaves. -/
theorem endSurvey_draw (s : State) (p : Pump) (h : House) :
    drawB (surveyAdopted s) p (bookingCount (surveyAdopted s) h) = drawB s p (bookingCount (endSurvey s) h) := by
  rw [drawB_of_banks (surveyAdopted_carries s).banks, (endSurvey_states s).bookingCount]

theorem endSurvey_booked (booked : Booked p (surveyAdopted s)) :
    (endSurvey s).pumps[p] =
      { (surveyAdopted s).pumps[p] with booking := drawB s p (bookingCount (endSurvey s) (houseOf p)) } := by
  have same : { (surveyAdopted s).pumps[p] with booking := drawB s p (bookingCount (endSurvey s) (houseOf p)) } =
      (surveyAdopted s).pumps[p] := by
    rw [← endSurvey_draw, ← booked]
  have again : rebooked (surveyAdopted s) (houseOf p) p (surveyAdopted s).pumps[p] = (surveyAdopted s).pumps[p] := by
    unfold rebooked
    rw [endSurvey_draw, same, ite_self]
  rw [endSurvey_get, again, ite_self, same]

theorem booking_of_unbooked {y r : PumpLive} (same : unbooked y = unbooked r) (b : Nat) :
    { y with booking := b } = { r with booking := b } := (congrArg (fun z => { z with booking := b }) same :)

/-! ### A pump that is adopted -/

/-- The pumps that the survey's end adopts (R82). -/
def Adopts (s : State) (p : Pump) (rep : Reported) : Prop := pumpInUse s p = true ∧ reportToAdopt s p = some rep

theorem pumpsInUse_nodup (s : State) : (pumpsInUse s).Nodup := (List.nodup_finRange 32).filter _

theorem mem_pumpsInUse : p ∈ pumpsInUse s ↔ pumpInUse s p = true := by
  unfold pumpsInUse
  rw [List.mem_filter]
  exact and_iff_right (List.mem_finRange p)

section
variable (adopts : Adopts s p rep) (clear : Unflagged s.pumps[p])
include adopts

/-- The adoption of a pump among the others: its own, from the record it has, and then the others'. -/
theorem adopted_among : ∃ a, a.pumps[p] = s.pumps[p] ∧ Carries s a ∧ Spared p (adoptSurveyed p rep a) (surveyAdopted s) ∧
    Heeds (adoptSurveyed p rep a) (surveyAdopted s) := by
  obtain ⟨a, before, after, heeds⟩ := surveyAdoptions_adopted (pumpsInUse_nodup s) (mem_pumpsInUse.mpr adopts.1) adopts.2
  have unconfirmed := reportToAdopt_unconfirmed adopts.2
  have same := before.settled (by rw [unconfirmed]; exact PumpState.noConfusion) (by rw [unconfirmed]; exact PumpState.noConfusion)
  exact ⟨a, same, before.carries, after, heeds⟩

theorem adopted_outOfDuty (out : rep = .trip ∨ rep = .localControl) :
    p ∉ (endSurvey s).houses[houseOf p].dutyList := by
  obtain ⟨a, -, -, -, heeds⟩ := adopted_among adopts
  have gone : p ∉ (adoptSurveyed p rep a).houses[houseOf p].dutyList := by
    rcases out with rfl | rfl
    · exact (adoptSurveyed_trip_out p a).duty
    · exact (adoptSurveyed_local_out p a).duty
  have houses : (endSurvey s).houses = (surveyAdopted s).houses := (endSurvey_called s).houses
  rw [houses]
  exact fun mem => gone ((heeds.duty _).subset mem)

include clear

theorem adopted_settled {x : PumpLive} (taken : surveyRecord (s.pumps[p].lastReportedAt.getD (now s)) rep s.pumps[p] = x)
    (running : x.state ≠ .running) (stopping : x.state ≠ .stopping) : (endSurvey s).pumps[p] = x := by
  obtain ⟨a, same, carries, after, -⟩ := adopted_among adopts
  have turned := adoptSurveyed_turned (s := a) (by rw [same]; exact clear) rep
  rw [same, carries.now, taken] at turned
  have own := turned.settled running stopping
  have last : (surveyAdopted s).pumps[p] = x := by
    rw [after.settled (by rw [own]; exact running) (by rw [own]; exact stopping), own]
  rw [endSurvey_idle (by rw [last]; exact running) (by rw [last]; exact stopping), last]

theorem adopted_running {x : PumpLive} (taken : surveyRecord (s.pumps[p].lastReportedAt.getD (now s)) rep s.pumps[p] = x)
    (running : x.state = .running) :
    (endSurvey s).pumps[p] = { x with booking := drawB s p (bookingCount (endSurvey s) (houseOf p)) } := by
  obtain ⟨a, same, carries, after, -⟩ := adopted_among adopts
  have turned := adoptSurveyed_turned (s := a) (by rw [same]; exact clear) rep
  rw [same, carries.now, taken] at turned
  have own : (adoptSurveyed p rep a).pumps[p].state = .running := by rw [turned.state, if_pos rfl, running]
  have booked := after.booked (.inl own) (turned.booked (.inl running))
  have fields : unbooked (surveyAdopted s).pumps[p] = unbooked x := by
    rw [after.unbooked, turned.self, unbooked_rebooked]
  exact (endSurvey_booked booked).trans (booking_of_unbooked fields _)

end

/-! ### A pump that stays -/

section
variable (stays : ¬ (pumpInUse s p = true ∧ (reportToAdopt s p).isSome = true))
include stays

theorem surveyAdopted_stays : Spared p s (surveyAdopted s) := by
  refine surveyAdoptions_spared ?_
  rw [mem_pumpsInUse]
  by_cases inUse : pumpInUse s p = true
  · exact .inr (Option.isNone_iff_eq_none.mp (by simpa using fun h => stays ⟨inUse, h⟩))
  · exact .inl inUse

theorem endSurvey_stays (running : s.pumps[p].state ≠ .running) (stopping : s.pumps[p].state ≠ .stopping) :
    (endSurvey s).pumps[p] = s.pumps[p] := by
  have same := (surveyAdopted_stays stays).settled running stopping
  rw [endSurvey_idle (by rw [same]; exact running) (by rw [same]; exact stopping), same]

theorem endSurvey_rebooked : (endSurvey s).pumps[p] =
    if houseInUse s (houseOf p) = true ∧ (s.pumps[p].state = .running ∨ s.pumps[p].state = .stopping) then
      { s.pumps[p] with booking := drawB s p (bookingCount (endSurvey s) (houseOf p)) }
    else { s.pumps[p] with booking := (endSurvey s).pumps[p].booking } := by
  have before := (surveyAdopted_stays stays).unbooked
  split
  · next c =>
    have drawing : (surveyAdopted s).pumps[p].state = .running ∨ (surveyAdopted s).pumps[p].state = .stopping := by
      rw [unbooked_state before]
      exact c.2
    rw [endSurvey_get, if_pos c.1, rebooked_drawing rfl drawing, endSurvey_draw]
    exact booking_of_unbooked before _
  · exact booking_of_unbooked ((endSurvey_unbooked s p).trans before) (endSurvey s).pumps[p].booking

end

/-! ### The records -/

theorem unconfirmed_atEnd (s : State) : unconfirmedCount (surveyAdopted s) =
    (allPumps.filter fun p => pumpInUse s p && (endSurvey s).pumps[p].state == .unconfirmed).length := by
  have inUse : pumpsInUse (surveyAdopted s) = pumpsInUse s := by
    unfold pumpsInUse pumpInUse
    rw [(surveyAdopted_carries s).plan]
  have states (p : Pump) : (endSurvey s).pumps[p].state = (surveyAdopted s).pumps[p].state := endSurvey_states s p
  rw [unconfirmedCount, inUse, pumpsInUse, List.filter_filter]
  simp only [states, Bool.and_comm]

theorem unconfirmedCount_small (s : State) : unconfirmedCount s ≤ 32 := by
  calc unconfirmedCount s ≤ (pumpsInUse s).length := List.length_filter_le ..
    _ ≤ (List.finRange 32).length := List.length_filter_le ..
    _ = 32 := List.length_finRange

theorem resolvedCodes (s : State) :
    ((pumpsInUse s).filterMap fun p => (reportToAdopt s p).map fun rep => (some p, reportedCode rep)) =
      (allPumps.filter fun p => decide (pumpInUse s p = true ∧ (reportToAdopt s p).isSome = true)).map fun p =>
        (some p, ((reportToAdopt s p).map reportedCode).getD 0) := by
  unfold pumpsInUse
  induction allPumps with
  | nil => rfl
  | cons p ps ih =>
    by_cases inUse : pumpInUse s p = true
    · cases adopts : reportToAdopt s p with
      | none => simpa [inUse, adopts] using ih
      | some rep => simpa [inUse, adopts] using ih
    · simpa [inUse] using ih

theorem endSurvey_records (room : s.eventQueue.records.length ≤ 63) :
    ∃ told done, (endSurvey s).eventQueue.records = s.eventQueue.records ++ told ++ [done] ∧
      done.kind = .surveyDone ∧ done.value1 = min s.survey.answered 65535 ∧
      done.value2 = (allPumps.filter fun p => pumpInUse s p && (endSurvey s).pumps[p].state == .unconfirmed).length ∧
      resolvedIn told =
        (allPumps.filter fun p => decide (pumpInUse s p = true ∧ (reportToAdopt s p).isSome = true)).map fun p =>
          (some p, ((reportToAdopt s p).map reportedCode).getD 0) := by
  have few : (pumpsInUse s).length ≤ 32 :=
    (List.length_filter_le ..).trans (List.length_finRange (n := 32)).le
  obtain ⟨told, adopted, count, resolved⟩ := surveyAdoptions_tells (pumpsInUse_nodup s) s (by omega)
  rw [← surveyAdopted] at adopted
  have last : (endSurvey s).eventQueue.records = (surveyAdopted s).eventQueue.records ++
      [eventNow .surveyDone none none none (surveyAdopted s).survey.answered (unconfirmedCount (surveyAdopted s))
        (surveyAdopted s)] := by
    have same : (endSurvey s).eventQueue = (surveyTold (surveyAdopted s)).eventQueue := (endSurvey_called s).events
    rw [same]
    exact raise_records_room (by rw [adopted, List.length_append]; omega) ..
  have answered : (surveyAdopted s).survey.answered = s.survey.answered := by rw [(surveyAdopted_carries s).survey]
  refine ⟨told, _, by rw [last, adopted], rfl, ?_, ?_, by rw [resolved, resolvedCodes]⟩
  · rw [← answered]
    rfl
  · have small := unconfirmedCount_small (surveyAdopted s)
    rw [← unconfirmed_atEnd]
    exact min_eq_left (by omega)

end

end Sys2Proof.Machine
end

section
/-! SUPPORT. The survey through a REPORT (R81, R82): nothing of the delivery or of the work behind it but the awaited set
moves it, and the set that empties ends it; O50. -/

namespace Sys2Proof.Machine

/-- The survey stands, and no end of it is called for. -/
structure KeepsSurvey (s t : State) : Prop where
  survey : t.survey = s.survey
  surveyEnd : s.work.surveyEnd = false → t.work.surveyEnd = false

section
variable {s t u : State}

theorem KeepsSurvey.refl (s : State) : KeepsSurvey s s := ⟨rfl, id⟩

theorem KeepsSurvey.trans (a : KeepsSurvey s t) (b : KeepsSurvey t u) : KeepsSurvey s u :=
  ⟨b.survey.trans a.survey, fun h => b.surveyEnd (a.surveyEnd h)⟩

theorem Carries.keepsSurvey (a : Carries s t) : KeepsSurvey s t := ⟨a.survey, fun h => a.surveyEnd.trans h⟩

theorem Aside.keepsSurvey (a : Aside s t) : KeepsSurvey s t := ⟨a.survey, fun h => a.surveyEnd.trans h⟩

theorem stirs_keepsSurvey {loose : Prop} (run : Stirs False loose s t) : KeepsSurvey s t := by
  refine ⟨stirs_survey run, fun h => ?_⟩
  induction run with
  | refl => exact h
  | tail _ step ih => exact step.surveyEnd id ih

theorem foldl_keepsSurvey {α : Type} {f : State → α → State} (each : ∀ s x, KeepsSurvey s (f s x)) (xs : List α) (s : State) :
    KeepsSurvey s (xs.foldl f s) := by
  induction xs generalizing s with
  | nil => exact .refl s
  | cons x xs ih => exact (each s x).trans (ih _)

/-! ### The contents of a REPORT -/

theorem applyPumpEntries_keepsSurvey (h : House) (entries : List Reported) (awake : s.survey.running = true) :
    KeepsSurvey s (applyPumpEntries h entries s) := by
  unfold applyPumpEntries
  rw [awake]
  obtain ⟨-, work, survey⟩ := setReported_fold (namedPumps s h entries) s
  exact ⟨survey, fun h => (congrArg Work.surveyEnd work).trans h⟩

theorem activate_keepsSurvey (h : House) (s : State) (e : AlarmEntry) : KeepsSurvey s (activate h s e) := by
  rw [activate_eq]
  exact (alarmRecorded_aside h e s).keepsSurvey.trans (tripEffect_carries _ e).keepsSurvey

theorem lockoutActivated_keepsSurvey (h : House) (s : State) (e : AlarmEntry) : KeepsSurvey s (lockoutActivated h s e) := by
  unfold lockoutActivated
  split
  · exact (beginPeriod_aside s h e.code).keepsSurvey.trans (((Carries.refl _).dropHouse h).told h).keepsSurvey
  · exact .refl s

theorem activateAll_keepsSurvey (h : House) (es : List AlarmEntry) (s : State) : KeepsSurvey s (activateAll h es s) :=
  (foldl_keepsSurvey (activate_keepsSurvey h) es s).trans (foldl_keepsSurvey (lockoutActivated_keepsSurvey h) _ _)

theorem applyItems_keepsSurvey (h : House) (items : List AlarmItem) (s : State) : KeepsSurvey s (applyItems h items s) := by
  have taken : KeepsSurvey s (items.foldl (takeItem h) s) :=
    foldl_keepsSurvey (fun s i => (takeItem_aside s h i).keepsSurvey) items s
  have written (t : State) : KeepsSurvey t (updProtection h (dropAbsent items) t) :=
    ((Aside.refl t).updProtection h _).keepsSurvey
  have moved (t : State) (was : Bool) : KeepsSurvey t (listChanged h was t) := ((Carries.refl t).listMoved h was).keepsSurvey
  unfold applyItems
  dsimp only
  split
  · exact ((taken.trans (activateAll_keepsSurvey h _ _)).trans (written _)).trans (moved _ _)
  · exact (taken.trans (activateAll_keepsSurvey h _ _)).trans (written _)

theorem applyInterlock_keepsSurvey (h : House) (flag : Bool) (s : State) : KeepsSurvey s (applyInterlock h flag s) := by
  unfold applyInterlock
  split
  · exact (interlockTold_aside h 0 s).keepsSurvey.trans (stirs_keepsSurvey (loose := False) (interlockOn_stirs h 0 s))
  · exact (interlockOff_aside s h).keepsSurvey

theorem contentsTaken_keepsSurvey (st : Station) (r : Report) (running : s.survey.running = true) :
    KeepsSurvey s (contentsTaken st r s) := by
  have levels : KeepsSurvey s (levelled st r s) := ((goodReply_aside s st).trans (applyLevels_aside _ st _)).keepsSurvey
  refine levels.trans ?_
  unfold contentsTaken
  have awake : (levelled st r s).survey.running = true := by rw [levels.survey, running]
  generalize levelled st r s = t at awake
  cases served : (planOf t).servedHouse st with
  | none =>
    rw [applyReportHouse_none served]
    exact (noteItems_aside t st r.alarms).keepsSurvey
  | some h =>
    rw [applyReportHouse_some served]
    exact ((applyPumpEntries_keepsSurvey h r.pumps awake).trans (applyItems_keepsSurvey h r.alarms _)).trans
      (applyInterlock_keepsSurvey h r.interlock _)

/-! ### The work of an event -/

theorem passWalk_keepsSurvey (es : List StartEntry) (admitted skipped : Nat) (s : State) :
    KeepsSurvey s (passWalk es admitted skipped s) := by
  have recorded (r : PassRecord) (t : State) : KeepsSurvey t (recordPass r t) := ⟨rfl, id⟩
  induction es generalizing admitted skipped s with
  | nil => exact recorded _ s
  | cons e es ih =>
    unfold passWalk
    split
    · exact ih ..
    · split
      · have one : KeepsSurvey s (admitPump e.pump s) :=
          ⟨admitPump_survey e.pump s, fun h => (admitPump_surveyEnd e.pump s).trans h⟩
        exact one.trans (ih ..)
      · exact recorded _ s

theorem workStep_keepsSurvey (closed : s.work.surveyEnd = false) (step : workStep s = some t) : KeepsSurvey s t := by
  have reworked (w : Work) (same : w.surveyEnd = s.work.surveyEnd) : KeepsSurvey s { s with work := w } :=
    ⟨rfl, fun h => same.trans h⟩
  unfold workStep at step
  rw [if_neg (by rw [closed]; exact Bool.noConfusion)] at step
  split at step
  · cases step
    exact (reworked { s.work with shedTest := false } rfl).trans (stirs_keepsSurvey (loose := False) (shedTest_stirs _))
  · split at step
    · next h _ =>
      cases step
      refine KeepsSurvey.trans (reworked { s.work with notices := s.work.notices.set h false } rfl) ?_
      unfold takeNotice
      dsimp only
      split
      · exact stirs_keepsSurvey (loose := True) (evaluateHouse_stirs (.inl trivial))
      · exact .refl _
    · split at step
      · cases step
      · cases step
        refine (reworked { s.work with passes := s.work.passes - 1 } rfl).trans ?_
        unfold admissionPass
        split
        · exact ⟨rfl, id⟩
        · exact passWalk_keepsSurvey ..

theorem settle_survey (n : Nat) (closed : s.work.surveyEnd = false) : (settle n s).survey = s.survey := by
  induction n generalizing s with
  | zero => rfl
  | succ n ih =>
    unfold settle
    split
    · rfl
    · next t step =>
      have kept := workStep_keepsSurvey closed step
      have summed : (resum t).survey = t.survey ∧ (resum t).work.surveyEnd = t.work.surveyEnd := ⟨rfl, rfl⟩
      rw [ih (summed.2.trans (kept.surveyEnd closed)), summed.1, kept.survey]

theorem finish_survey (s : State) : (finish s).survey = (settleAll s).survey := by
  have goes (u : State) : (drivePins (busGoesOn u)).survey = u.survey := startTransaction_survey _
  exact goes (settleAll s)

theorem finish_survey_closed (closed : s.work.surveyEnd = false) : (finish s).survey = s.survey := by
  rw [finish_survey]
  exact settle_survey workBound (s := resum s) closed

theorem endSurvey_survey (s : State) : (endSurvey s).survey = { s.survey with running := false } := by
  have survey : (endSurvey s).survey = { (surveyAdopted s).survey with running := false } := (endSurvey_called s).survey
  rw [survey, (surveyAdopted_carries s).survey]

theorem endSurvey_closed (s : State) : (endSurvey s).work.surveyEnd = s.work.surveyEnd := by
  have called : (endSurvey s).work.surveyEnd = (surveyAdopted s).work.surveyEnd := (endSurvey_called s).surveyEnd
  rw [called, (surveyAdopted_carries s).surveyEnd]

/-- An event that ends the survey leaves it not running (R82). -/
theorem finish_survey_ends (ends : s.work.surveyEnd = true) : (finish s).survey = { s.survey with running := false } := by
  rw [finish_survey]
  unfold settleAll workBound settle
  have step : workStep (resum s) = some (endSurvey { resum s with work := { (resum s).work with surveyEnd := false } }) :=
    if_pos ends
  rw [step]
  dsimp only
  have survey := endSurvey_survey { resum s with work := { (resum s).work with surveyEnd := false } }
  have closed := endSurvey_closed { resum s with work := { (resum s).work with surveyEnd := false } }
  generalize endSurvey { resum s with work := { (resum s).work with surveyEnd := false } } = t at *
  exact (settle_survey 999 (s := resum t) closed).trans survey

end

end Sys2Proof.Machine
end

section
/-! SUPPORT. The end of the survey, and the REPORTs that bring it about (R81, R82, R83): the statement; O50. -/

namespace Sys2Proof.Machine

section
variable {p : Pump} {s : State}

/-! ### The REPORT of an awaited station -/

/-- The awaited set without a station that has answered (R81). -/
def answeredSurvey (st : Station) (r : Survey) : Survey :=
  { r with awaited := r.awaited.filter fun k => k != st, answered := r.answered + 1 }

theorem leaveAwaited_answering {st : Station} (running : s.survey.running = true) (awaited : s.survey.awaited.contains st = true) :
    leaveAwaited st true s =
      { s with
        survey := answeredSurvey st s.survey
        work := { s.work with
          surveyEnd := s.work.surveyEnd || (s.survey.awaited.filter fun k => k != st).isEmpty } } := by
  unfold leaveAwaited
  rw [running, awaited]
  rfl

theorem finish_answered {st : Station} (running : s.survey.running = true) (awaited : s.survey.awaited.contains st = true)
    (closed : s.work.surveyEnd = false) : (finish (setPollDue (.station st) (leaveAwaited st true s))).survey =
      { running := !(s.survey.awaited.filter fun k => k != st).isEmpty
        awaited := s.survey.awaited.filter fun k => k != st, answered := s.survey.answered + 1 } := by
  have aside := setPollDue_aside (leaveAwaited st true s) (.station st)
  have survey := aside.survey
  have surveyEnd := aside.surveyEnd
  generalize setPollDue (.station st) (leaveAwaited st true s) = t at *
  rw [leaveAwaited_answering running awaited] at survey surveyEnd
  cases empty : (s.survey.awaited.filter fun k => k != st).isEmpty with
  | false =>
    rw [finish_survey_closed (surveyEnd.trans (by rw [closed, empty]; rfl)), survey]
    simp [answeredSurvey, running]
  | true =>
    rw [finish_survey_ends (surveyEnd.trans (by rw [closed, empty]; rfl)), survey]
    rfl

/-! ### The pumps -/

theorem adopts_iff : (pumpInUse s p = true ∧ s.pumps[p].state = .unconfirmed ∧ s.pumps[p].lastReported.isSome = true ∧
    s.bus.stations[stationOf s (houseOf p)].state ≠ .silent) ↔
      pumpInUse s p = true ∧ (reportToAdopt s p).isSome = true := by
  unfold reportToAdopt
  split <;> simp_all

theorem reportToAdopt_of_some (h : (reportToAdopt s p).isSome = true) : reportToAdopt s p = s.pumps[p].lastReported := by
  unfold reportToAdopt at h ⊢
  split
  · rfl
  · next c =>
    rw [if_neg c] at h
    cases h

end

/-- Settles O50: the adoptions are one run over the pumps in ascending order, each of which spares the other pumps; then the
houses are called. -/
theorem surveyEnds : Obligations.SurveyEnds := by
  unfold Obligations.SurveyEnds
  refine ⟨fun s => ?_, fun s f st body r running waiting request unit parsed surveying awaited => ?_⟩
  · dsimp only
    have called := endSurvey_called s
    have carries := surveyAdopted_carries s
    refine ⟨endSurvey_survey s, endSurvey_standing s, called.sums, fun p adopts isolate protect fault => ?_, fun p stays => ?_,
      fun p stays running stopping => ?_, fun room => ?_, called.shedTest, ?_, fun h inUse => ?_⟩
    · have chosen := adopts_iff.mp adopts
      have report := reportToAdopt_of_some chosen.2
      have clear : Unflagged s.pumps[p] := ⟨isolate, protect, fault⟩
      have adopted {rep : Reported} (is : s.pumps[p].lastReported = some rep) : Adopts s p rep := ⟨chosen.1, report.trans is⟩
      refine ⟨fun u is at_ => ?_, fun is => ?_, fun is => ?_, fun is => ?_⟩
      · exact adopted_running (adopted is) clear (x := adoptedFields u s.pumps[p]) (by rw [at_]; rfl) rfl
      · exact adopted_settled (adopted is) clear rfl PumpState.noConfusion PumpState.noConfusion
      · exact ⟨adopted_settled (adopted is) clear rfl PumpState.noConfusion PumpState.noConfusion,
          adopted_outOfDuty (adopted is) (.inl rfl)⟩
      · exact ⟨adopted_settled (adopted is) clear rfl PumpState.noConfusion PumpState.noConfusion,
          adopted_outOfDuty (adopted is) (.inr rfl)⟩
    · rw [adopts_iff] at stays
      exact endSurvey_rebooked stays
    · rw [adopts_iff] at stays
      exact endSurvey_stays stays running stopping
    · obtain ⟨told, done, records, kind, answered, count, resolved⟩ := endSurvey_records room
      refine ⟨told, done, records, kind, answered, count, ?_⟩
      rw [resolvedIn] at resolved
      rw [resolved]
      simp only [adopts_iff]
      refine List.map_congr_left fun p mem => ?_
      rw [reportToAdopt_of_some (of_decide_eq_true (List.mem_filter.mp mem).2).2]
    · exact (surveyAdoptions_heeds (pumpsInUse s) s).passes.trans_lt called.passes
    · refine called.notices h ?_
      have plan : planOf (surveyTold (surveyAdopted s)) = planOf s := carries.plan
      unfold houseInUse at inUse ⊢
      rw [plan, inUse]
  · obtain ⟨⟨blank, -⟩, inReset⟩ := running
    refine ⟨_, exec_report_good inReset waiting request unit parsed, ?_⟩
    have kept := contentsTaken_keepsSurvey (s := busFreed s) st r surveying
    have survey : (contentsTaken st r (busFreed s)).survey = s.survey := kept.survey
    have closed := kept.surveyEnd (congrArg Work.surveyEnd blank)
    rw [deliverReport_eq]
    generalize contentsTaken st r (busFreed s) = t at *
    rw [finish_answered (by rw [survey, surveying]) (by rw [survey, awaited]) closed, survey]

end Sys2Proof.Machine
end

section
/-! SUPPORT. A swap by which a pump comes into use that stood ORDERED while it was out of use, as no run leaves one (R57,
R92): the counterexample to the statement about pumps at a swap; O33. -/

namespace Sys2Proof.Machine

/-- A plan with house 0 and its pump 0 in use, and pump 1 as asked. -/
def onePumpPlan (second : Bool) : Plan :=
  { clearPlan with
    houses := clearPlan.houses.set 0 { clearHouse with inUse := true, suction := none, pumpCount := 2 }
    pumps := (clearPlan.pumps.set 0 { clearPump with inUse := true }).set 1 { clearPump with inUse := second }
    stations := clearPlan.stations.set 0 { clearStation with inUse := true } }

/-- A CHECKED bank with a plan and its booking table. -/
def passedBank (pl : Plan) : Bank :=
  { plan := pl, state := .checked, lastCheck := .passed, table := some (bookingTable pl) }

/-- Between a plan with pump 0 alone and one with pump 1 too: pump 1 stands ORDERED though it is out of use, in front of pump
0 in the duty list, and house 0 is to run one pump. -/
def strayOrdered : State :=
  { State.reset with
    banks := { a := passedBank (onePumpPlan false), b := passedBank (onePumpPlan true), active := some .a }
    pumps := (State.reset.pumps.set 0 { blankPump with state := .ready }).set 1 { blankPump with state := .ordered }
    houses := State.reset.houses.set 0 { blankHouse with mode := .manual, manualTarget := 1, dutyList := [1, 0] } }

/-- What is asked of the state that an outcome goes on to. -/
def goesOnWith (f : State → Bool) (o : Host.Outcome State Fault Refusal) : Bool :=
  match o with
  | .next t => f t
  | .fault _ => false
  | .refused _ => false

theorem strayOrdered_settled : Settled strayOrdered := by
  refine ⟨rfl, ⟨?_, ?_⟩, fun _ _ => rfl, ?_, ?_⟩ <;> decide +kernel

theorem strayOrdered_queue : QueueHoldsTheQueued strayOrdered := by
  refine .of_empty rfl ?_
  decide +kernel

theorem strayOrdered_clear : ∀ p : Pump,
    strayOrdered.pumps[p].isolatePending = false ∧ strayOrdered.pumps[p].faultPending = none := by decide +kernel

/-- The swap admits pump 1, which goes behind pump 0 (R56). -/
def movedBehind (t : State) : Bool :=
  !t.survey.running && t.houses[(0 : House)].dutyList == [0, 1] &&
    allPumps.all fun p => t.pumps[p].state != .ordered || p == 1

theorem strayOrdered_swap : goesOnWith movedBehind (exec (.bankSwap 7 [1]) strayOrdered) = true := by decide +kernel

/-- Refutes O33: its duty lists leave out the pumps that the swap admits by their state before the swap, where pump 1 stands
ORDERED; but it comes into use READY, and its admission moves it from the front of the list to the back. What this rests on
is the state of a pump that is out of use, which the premises leave free and no run makes ORDERED. -/
theorem not_swapCarriesThePumps : ¬ Obligations.SwapCarriesThePumps := by
  unfold Obligations.SwapCarriesThePumps
  intro h
  obtain ⟨t, runs, -, -, -, -, -, -, -, -, -, -, duty⟩ :=
    h strayOrdered 7 .a .b ⟨strayOrdered_settled, rfl, rfl, rfl⟩ strayOrdered_queue rfl (by decide) (by decide +kernel)
  have swapped : exec (.bankSwap 7 [1]) strayOrdered = .next t := runs
  have moved : movedBehind t = true := by
    have all := strayOrdered_swap
    rw [swapped] at all
    exact all
  simp only [movedBehind, Bool.and_eq_true, Bool.not_eq_true', beq_iff_eq, List.all_eq_true, Bool.or_eq_true, bne_iff_ne] at moved
  obtain ⟨⟨awake, list⟩, ordered⟩ := moved
  have stays := duty 0 (by decide) awake fun p house => ⟨strayOrdered_clear p |>.1, strayOrdered_clear p |>.2, fun admitted => ?_⟩
  · rw [list] at stays
    revert stays
    decide
  · rw [(ordered p (List.mem_finRange p)).resolve_left (not_not.mpr admitted)]
    rfl

end Sys2Proof.Machine
end
